-- ==== Sys2Proof/Word.lean ====
section
/-! DEFINITION. The plain words of the part: bytes, Ethernet addresses, and the names of its lines, stations,
stands and tills. -/
namespace Sys2Proof

/-- One byte on the wire, or the data bits of one character. -/
abbrev Byte := BitVec 8

/-- An Ethernet address (R177: six bytes). -/
abbrev EthAddr := BitVec 48

/-- Till lines TL0 to TL3. -/
abbrev LineId := Fin 4

/-- Stations S0 to S7, and the ports SP0 to SP7 that serve them. -/
abbrev StationId := Fin 8

/-- Stands 0 to 15. -/
abbrev StandId := Fin 16

/-- Till index, line × 16 + drop − 1 (00, Conventions). -/
abbrev TillId := Fin 64

/-- A drop of one line; the drop address on the wire is this value plus one (00, Conventions). -/
abbrev DropId := Fin 16

end Sys2Proof
end

