-- ==== Sys2Proof/Syntax.lean ====
section
/-! DEFINITION. The commands of the part: one constructor per row of spec/opcode_table.json, with what reaches the
part (a frame, characters) or which piece of waiting work is taken. -/
namespace Sys2Proof

/-- A character received on a till line (R19), with the receiver's framing-error mark (R27). -/
structure TillChar where
  data         : Byte
  addr         : Bool := false
  framingError : Bool := false
  deriving DecidableEq, Repr

/-- A character received on a station port (R123). -/
structure PortChar where
  data         : Byte
  framingError : Bool := false
  deriving DecidableEq, Repr

/-- A received Ethernet frame (R149, R177): the payload is what follows the protocol type, the frame check sequence
not counted. -/
structure EthFrame where
  dst     : EthAddr
  src     : EthAddr
  proto   : BitVec 16
  fcsGood : Bool
  payload : List Byte
  deriving DecidableEq, Repr

/-- The record memories that the self-test tests, in the order R169 lists them. -/
inductive Memory where
  | itemTable | checkTable | ticketStore | authTables | journal
  deriving DecidableEq, Repr

/-- The verdict of an authorization answer (R90). -/
inductive Verdict where
  | approve | decline
  deriving DecidableEq, Repr

/-- An out slot of a station port (07, 7.2). -/
inductive Slot where
  | a | b
  deriving DecidableEq, Repr

/-- The commands. A control-block command runs the next block of the running CONTROL envelope, which holds its
operands (log 2); a slip command takes the head slip of the intake (log 3). -/
inductive Instr where
  -- power and time
  | powerOn
  | selfTestDone (failed : List Memory)
  | venueClockTick
  -- the uplink port
  | ethernetLinkLost
  | ethernetLinkUp
  | silenceTimeout
  | envelopeSent
  | control (f : EthFrame)
  | remoteOrder (f : EthFrame)
  | authAnswer (f : EthFrame)
  | keepalive (f : EthFrame)
  | otherEnvelopeKind (f : EthFrame)
  -- control blocks
  | loadItems
  | deleteItems
  | readItem
  | setStock
  | loadStand
  | loadStation
  | loadLine
  | loadTill
  | readTills
  | setIntakeMarks
  | queryCheck
  | voidCheckBlock
  | setAuthTimes
  | stationControl
  | readStations
  | drainJournal
  | drainBurstRecord
  | setJournalWarning
  | setUplinkTimes
  | setEvents
  | readStatus
  | openStand
  | closeStand
  | serviceReset
  | setClock
  -- till lines
  | emptyRound (l : LineId)
  | slipCall (l : LineId)
  | miss (l : LineId)
  | idle (l : LineId)
  | slipFrame (l : LineId) (cs : List TillChar)
  | frameGapTimeout (l : LineId) (cs : List TillChar)
  | malformedAnswer (l : LineId) (cs : List TillChar)
  | deliverCall (l : LineId)
  -- slips taken from the intake
  | order
  | add
  | split
  | tender
  | voidLine
  | voidCheck
  | query
  | remoteOrderProcess
  | unknownSlipKind
  -- other work of the Check Engine and the Tender Unit
  | fireBacklogTry
  | authAnswerTaken (tag : Nat) (v : Verdict)
  | authWaitExpiry (tag : Nat)
  | lateWindowExpiry
  | completion (ticket : Nat)
  | recallOffer (ticket : Nat)
  -- station ports
  | ticket (st : StationId)
  | ticketFrameEnd (st : StationId)
  | probeTimerExpiry (st : StationId)
  | taken (st : StationId) (cs : List PortChar)
  | bump (st : StationId) (cs : List PortChar)
  | recallFrame (st : StationId) (cs : List PortChar)
  | fault (st : StationId) (cs : List PortChar)
  | helloFrame (st : StationId) (cs : List PortChar)
  | hold (st : StationId)
  | go (st : StationId) (c : PortChar)
  | stationFrameDiscard (st : StationId) (cs : List PortChar)
  | stationFrameGapTimeout (st : StationId)
  | takenTimeout (st : StationId) (slot : Slot)
  | holdLimit (st : StationId)
  -- closing a stand
  | clearanceReport (sd : StandId)
  | closeDeadlineExpiry (sd : StandId)
  deriving DecidableEq, Repr

end Sys2Proof
end

