-- ==== Sys2Proof/Decode.lean ====
section
/-! DEFINITION. The command that a word of spec/opcode_table.json spells. No row of the table gives bits (its rows
have no fixed part and no fields), so no word spells a command. What arrives on a till line, a station port or the
uplink is read by Machine/Operands.lean. -/
namespace Sys2Proof

/-- No row of the table gives bits: no word spells a command. -/
def decodeTableWord (_nbits _w : Nat) : Option Instr := none

end Sys2Proof
end

