-- ==== Sys2Proof/Machine/State.lean ====
section
/-! DEFINITION. Everything the manual lets the part hold, as plain data, and the state right after power-on. A table
with no order is a list with strictly rising keys, so that equal tables are equal data. -/
namespace Sys2Proof.Machine

/-- The reasons the part stops with a fault: none. No rule of the manual stops the part for good, so nothing raises
one. -/
inductive Fault where
  deriving DecidableEq, Repr

/-- The reasons a command has no meaning. -/
inductive Refusal where
  /-- Raised by exec for a command that has no meaning yet (safe: the machine stops). -/
  | notModelled (mnemonic : String)
  deriving DecidableEq, Repr

/-! ### The venue clock (10.6) -/

/-- Seconds of the day, 0 to 86,399, and the UNSET flag (R172). -/
structure Clock where
  secs  : Nat
  unset : Bool
  deriving DecidableEq, Repr

/-- A running timer: the whole seconds it has run, and the limit it started with (R17, R88). Log 5. -/
structure Timer where
  elapsed : Nat
  limit   : Nat
  deriving DecidableEq, Repr

/-! ### Tables of chapter 1 -/

/-- A stock count (R8). -/
inductive Stock where
  | uncounted
  | count (n : Nat)
  deriving DecidableEq, Repr

/-- An Item Table entry (1.2). -/
structure Item where
  code     : Nat
  price    : Nat
  primary  : StationId
  overflow : Option StationId
  expo     : Bool
  stock    : Stock
  deriving DecidableEq, Repr

/-- When lines go to the kitchen (1.4). -/
inductive FirePolicy where
  | fireOnOrder | fireOnPay
  deriving DecidableEq, Repr

/-- Stand states (R162). -/
inductive StandState where
  | unopened | opened | closing | closed
  deriving DecidableEq, Repr

/-- What is present only while a stand is CLOSING (R162, R164): the deadline in force (0: none), the force flag, and
the seconds the deadline timer has run (absent: stopped). -/
structure Closing where
  deadline : Nat
  force    : Bool
  timer    : Option Nat
  deriving DecidableEq, Repr

/-- A Stand Table entry (1.4). -/
structure Stand where
  loaded  : Bool
  policy  : FirePolicy
  expo    : Option StationId
  floor   : Nat
  state   : StandState
  pickup  : Nat
  closing : Option Closing
  deriving DecidableEq, Repr

/-- The three kinds of station (1.5). -/
inductive StationKind where
  | print | display | expo
  deriving DecidableEq, Repr

/-- The settings of a Station Table entry (1.5). -/
structure StationCfg where
  loaded       : Bool
  kind         : StationKind
  rate         : Nat
  divertLevel  : Nat
  returnLevel  : Nat
  fallback     : Option StationId
  takenTimeout : Nat
  holdLimit    : Nat
  goAny        : Bool
  deriving DecidableEq, Repr

/-- What the Kitchen Router holds for one station: its settings, its divert state (R119), the two parts of its queue
(R103), its SHOWN tickets in the order they became SHOWN (R122) and its recall list, most recent first (R117). -/
structure Station where
  cfg       : StationCfg
  diverting : Bool
  voidQ     : List Nat
  normalQ   : List Nat
  shown     : List Nat
  recallL   : List Nat
  deriving DecidableEq, Repr

/-! ### Checks, shares, tenders (chapters 3 to 5) -/

/-- Where a check or a slip comes from (3.1, R32). -/
inductive Origin where
  | till (t : TillId)
  | remote (ref : Nat)
  deriving DecidableEq, Repr

/-- Line states (3.1, R47). -/
inductive LineState where
  | held | firing | fired | cooked | done | voided
  deriving DecidableEq, Repr

/-- A line of a check (3.1). -/
structure Line where
  index    : Nat
  item     : Nat
  qty      : Nat
  mods     : List Nat
  price    : Nat
  primary  : StationId
  overflow : Option StationId
  expo     : Bool
  owner    : Option Nat
  state    : LineState
  ticket   : Option Nat
  assembly : Option Nat
  deriving DecidableEq, Repr

/-- Tender kinds (5.1). -/
inductive TenderKind where
  | cash | card | prepaid
  deriving DecidableEq, Repr

/-- Tender states (5.1). -/
inductive TenderState where
  | applied | pending | approved | deferred
  deriving DecidableEq, Repr

/-- A tender record (5.1). -/
structure Tender where
  kind   : TenderKind
  amount : Nat
  state  : TenderState
  tag    : Option Nat
  deriving DecidableEq, Repr

/-- Share states (4.1). -/
inductive ShareState where
  | due | authorizing | paid
  deriving DecidableEq, Repr

/-- A share (4.1). -/
structure Share where
  index    : Nat
  due      : Nat
  tendered : Nat
  state    : ShareState
  tenders  : List Tender
  deriving DecidableEq, Repr

/-- Check states (3.1). -/
inductive CheckState where
  | opened | paid
  deriving DecidableEq, Repr

/-- Split modes (3.1). -/
inductive SplitMode where
  | whole | even | byLine | byAmount
  deriving DecidableEq, Repr

/-- A check (3.1). -/
structure Check where
  number    : Nat
  stand     : StandId
  origin    : Origin
  notify    : Bool
  pickup    : Nat
  state     : CheckState
  mode      : SplitMode
  total     : Nat
  readySent : Bool
  lines     : List Line
  shares    : List Share
  deriving DecidableEq, Repr

/-- An entry of the Fire Backlog (R107). -/
structure Firing where
  check : Nat
  lines : List Nat
  deriving DecidableEq, Repr

/-- What the Check Engine holds beside the intake. -/
structure CheckEngine where
  items      : List Item
  stands     : Vector Stand 16
  checks     : List Check
  checkCtr   : Nat
  backlog    : List Firing
  tryOffered : Bool
  answers    : List (Nat × Verdict)
  deriving DecidableEq, Repr

/-! ### The Tender Unit (chapter 5) -/

/-- A live authorization entry (5.4). -/
structure AuthEntry where
  tag     : Nat
  check   : Nat
  share   : Nat
  amount  : Nat
  stand   : StandId
  till    : TillId
  started : Nat
  orphan  : Bool
  wait    : Timer
  deriving DecidableEq, Repr

/-- The outcome at expiry (5.4, R94). -/
inductive ExpiryOutcome where
  | removed | deferred | voided
  deriving DecidableEq, Repr

/-- An entry of the Expired Auth List: the fields of its live entry, its outcome and the seconds since its expiry
(R95). -/
structure ExpiredEntry where
  entry   : AuthEntry
  outcome : ExpiryOutcome
  age     : Nat
  deriving DecidableEq, Repr

/-- What the Tender Unit holds. -/
structure TenderUnit where
  live       : List AuthEntry
  expired    : List ExpiredEntry
  tagCtr     : Nat
  authWait   : Nat
  lateWindow : Nat
  deriving DecidableEq, Repr

/-! ### The kitchen (chapters 6 and 7) -/

/-- Ticket kinds (6.1). -/
inductive TicketKind where
  | normal | assembly | void
  deriving DecidableEq, Repr

/-- Ticket states (6.1). -/
inductive TicketState where
  | waiting | queued | sending | shown | bumped
  deriving DecidableEq, Repr

/-- An entry of a ticket (6.1); a remake's entries name no line (R118). -/
structure TicketEntry where
  line   : Option Nat
  item   : Nat
  qty    : Nat
  mods   : List Nat
  voided : Bool
  deriving DecidableEq, Repr

/-- A ticket (6.1). -/
structure Ticket where
  number   : Nat
  kind     : TicketKind
  remake   : Bool
  station  : StationId
  check    : Option Nat
  stand    : StandId
  pickup   : Nat
  fired    : Nat
  entries  : List TicketEntry
  state    : TicketState
  wait     : Nat
  assembly : Option Nat
  original : Option Nat
  deriving DecidableEq, Repr

/-- How a completion came to be offered (R110): a TAKEN for a slot, or a BUMP. -/
inductive Via where
  | slot (x : Slot)
  | bump
  deriving DecidableEq, Repr

/-- A completion offer waiting for the Check Engine (R110). -/
structure CompletionOffer where
  ticket  : Nat
  station : StationId
  via     : Via
  deriving DecidableEq, Repr

/-- A recall offer waiting for the Check Engine (R118). -/
structure RecallOffer where
  ticket  : Nat
  station : StationId
  deriving DecidableEq, Repr

/-- A stand's clearance request in force, and its report waiting for the Check Engine (R121). -/
structure Clearance where
  requested : Bool
  reported  : Bool
  deriving DecidableEq, Repr

/-- What the Kitchen Router holds. -/
structure KitchenRouter where
  stations    : Vector Station 8
  tickets     : List Ticket
  ticketCtr   : Nat
  completions : List CompletionOffer
  recalls     : List RecallOffer
  clearance   : Vector Clearance 16
  deriving DecidableEq, Repr

/-- Link states (7.2). -/
inductive Link where
  | down | up | off
  deriving DecidableEq, Repr

/-- Causes of leaving UP (7.2, R128). -/
inductive DownCause where
  | takenTimeout | fault | holdLimit | restart | off
  deriving DecidableEq, Repr

/-- A SENDING out slot: its ticket, whether the TICKET frame has ended, the taken mark, and the taken timer (absent:
stopped; it is paused while the hold flag is set, R132). -/
structure OutSlot where
  ticket : Nat
  ended  : Bool
  marked : Bool
  timer  : Option Timer
  deriving DecidableEq, Repr

/-- What one Station Port holds (7.2). An absent slot is EMPTY, an absent timer is stopped; the only HELLO refusal is
KIND_MISMATCH. -/
structure Port where
  link         : Link
  slotA        : Option OutSlot
  slotB        : Option OutSlot
  mark         : Slot
  hold         : Bool
  holdTimer    : Option Timer
  probe        : Option Nat
  lastDown     : Option DownCause
  lastFault    : Option Nat
  kindMismatch : Bool
  badFrames    : Nat
  deriving DecidableEq, Repr

/-! ### What is written: fields, notices, events, records (chapter 11) -/

/-- One field as the part writes it, by the types of R179. -/
inductive Field where
  | amount (n : Nat)               -- amount, record number, remote reference: 4 bytes
  | price (n : Nat)                -- unit price: 3
  | clock (c : Clock)              -- 3, top bit UNSET
  | number (n : Option Nat)        -- check, ticket, tag, item code, pickup number: 2, absent 0
  | count (n : Nat)                -- count, level, mark: 2
  | byteCount (n : Nat)            -- a count whose layout gives one byte
  | stock (s : Stock)              -- 3
  | duration (n : Option Nat)      -- 2, absent 0xFFFF
  | rate (n : Nat)                 -- 4
  | address (a : EthAddr)          -- 6
  | serial (n : Nat)               -- 4
  | identity (n : Nat)             -- 2
  | station (s : Option StationId) -- 1, absent 0xFF
  | index (n : Option Nat)         -- share, line index, failing index or field, position, reason: 1, absent 0
  | stand (s : StandId)            -- 1
  | till (t : TillId)              -- 1
  | origin (o : Origin)            -- 5
  | code (n : Nat)                 -- an enumerated value, by its number: 1
  | codeOrAbsent (n : Option Nat)  -- an enumerated value that may be absent: 1 (log 9)
  | flag (b : Bool)                -- 1
  | flagOrAbsent (b : Option Bool) -- a flag that may be absent: 1, absent 0xFF
  deriving DecidableEq, Repr

/-- Refusal reasons of slips (R179 numbers them). -/
inductive Reason where
  | badSlip | notOpen | closed | noCheck | wrongStand | tendered | unknownItem | soldOut | tooManyLines | tooLarge
  | amount | tableFull | journalFull | badLine | done | role | kitchenFull | pending | partPaid | paidAll | badSplit
  | sum | badShare | paid | tendersFull | over | authFull | offline
  deriving DecidableEq, Repr

/-- The outcome of a slip (R42): accepted with its result fields, or refused with a reason and the failing index. -/
inductive SlipResult where
  | accepted (fields : List Field)
  | refused (why : Reason) (index : Option Nat)
  deriving DecidableEq, Repr

/-- Outcomes an AUTH notice carries (R92). -/
inductive AuthOutcome where
  | approved | declined | timeout | deferred
  deriving DecidableEq, Repr

/-- A notice to a till (2.6). -/
inductive Notice where
  | answer (kind : Byte) (check : Option Nat) (result : SlipResult)
  | auth (tag check share amount : Nat) (outcome : AuthOutcome) (due tendered : Nat) (state : ShareState)
  | ready (check : Nat) (stand : StandId) (pickup : Nat)
  deriving DecidableEq, Repr

/-- Why a check was voided (R51). -/
inductive VoidReason where
  | till | remote | forced
  deriving DecidableEq, Repr

/-- A line entry of a check record (R56). -/
structure RecordLine where
  item   : Nat
  qty    : Nat
  price  : Nat
  voided : Bool
  deriving DecidableEq, Repr

/-- A tender entry of a check record (R56). -/
structure RecordTender where
  share  : Nat
  tender : Tender
  deriving DecidableEq, Repr

/-- What a CHECK_CLOSED or CHECK_VOIDED record holds of its check (R56). -/
structure CheckSummary where
  stand   : StandId
  check   : Nat
  pickup  : Nat
  origin  : Origin
  total   : Nat
  lines   : List RecordLine
  tenders : List RecordTender
  deriving DecidableEq, Repr

/-- The body of a journal record (8.1). -/
inductive RecordBody where
  | checkClosed (c : CheckSummary)
  | checkVoided (c : CheckSummary) (why : VoidReason)
  | lateAnswer (tag check amount : Nat) (outcome : ExpiryOutcome) (v : Verdict)
  deriving DecidableEq, Repr

/-- A journal record (R140). -/
structure Record where
  number : Nat
  clock  : Clock
  body   : RecordBody
  deriving DecidableEq, Repr

/-- The result an ORDER_RESULT event carries (R59). -/
inductive OrderResult where
  | accepted (check : Nat) (stand : StandId) (pickup total : Nat)
  | refused (why : Reason) (index : Option Nat)
  | busy
  deriving DecidableEq, Repr

/-- The fifteen kinds of event, with the fields their rules name (R159). -/
inductive Event where
  | tillAbsent (t : TillId)
  | tillPresent (t : TillId)
  | soldOut (item : Nat)
  | backIn (item : Nat) (stock : Stock)
  | orderResult (ref : Nat) (r : OrderResult)
  | ready (ref check : Nat) (stand : StandId) (pickup : Nat)
  | stationDown (st : StationId) (cause : DownCause) (fault : Option Nat) (fallback : Option StationId)
      (moved left : Nat)
  | stationUp (st : StationId) (kind : StationKind) (queued : Nat)
  | divertOn (st : StationId) (backlog : Nat)
  | divertOff (st : StationId) (backlog : Nat)
  | uplinkOnline (count : Nat)
  | unknownTag (tag : Nat) (v : Verdict)
  | journalLow (free records reservations : Nat)
  | closeDone (sd : StandId) (forced : Bool) (voided freed : Nat)
  | closeTimeout (sd : StandId) (checks tickets : Nat)
  deriving DecidableEq, Repr

/-- The fields of an AUTH REQUEST (R89). -/
structure AuthRequest where
  tag     : Nat
  check   : Nat
  share   : Nat
  amount  : Nat
  stand   : StandId
  till    : TillId
  started : Nat
  deriving DecidableEq, Repr

/-- Results of control blocks, numbered as R158's table lists them (R177). -/
inductive Result where
  | ok | accepted | busy | badValue | notFound | full | inUse | notQuiet | refused | notRun | malformed
  deriving DecidableEq, Repr

/-- A reply block (R158); the command is absent when the block's header was cut short (R157). -/
structure ReplyBlock where
  cmd      : Option Nat
  tag      : Nat
  result   : Result
  operands : List Field
  deriving DecidableEq, Repr

/-- Part states (R169, R170). -/
inductive PartState where
  | starting | running | failed
  deriving DecidableEq, Repr

/-- Reset kinds of HELLO (R171). -/
inductive ResetKind where
  | powerOn | service | serviceForced
  deriving DecidableEq, Repr

/-- What HELLO carries beside the identities (R171). -/
structure Hello where
  part     : PartState
  selfTest : Option Memory
  kind     : ResetKind
  clock    : Clock
  deriving DecidableEq, Repr

/-- The content of an outgoing envelope (R151). -/
inductive OutBody where
  | reply (result : Result) (blocks : List ReplyBlock)
  | authRequest (r : AuthRequest)
  | event (c : Clock) (e : Event)
  | journal (tag position : Nat) (r : Record)
  | hello (h : Hello)
  deriving DecidableEq, Repr

/-- An envelope in the send queue, addressed when it was handed over (R151). -/
structure OutEnvelope where
  dst  : EthAddr
  body : OutBody
  deriving DecidableEq, Repr

/-! ### The Settlement Journal (chapter 8) -/

/-- A drain burst in progress (R145, R146); waiting: it found the send queue full (R151). -/
structure Burst where
  tag     : Nat
  asked   : Nat
  sent    : Nat
  waiting : Bool
  deriving DecidableEq, Repr

/-- What the Settlement Journal holds. -/
structure Journal where
  records      : List Record
  reservations : Nat
  recordCtr    : Nat
  warnLevel    : Nat
  low          : Bool
  burst        : Option Burst
  deriving DecidableEq, Repr

/-! ### Till lines and the intake (chapter 2) -/

/-- Till roles (2.2). -/
inductive Role where
  | cashier | supervisor
  deriving DecidableEq, Repr

/-- A till: its Till Table entry, presence, miss count, notice queue (oldest first) and LOST flag (2.2). -/
structure Till where
  enabled : Bool
  stand   : StandId
  role    : Role
  present : Bool
  misses  : Nat
  notices : List Notice
  lost    : Bool
  deriving DecidableEq, Repr

/-- A slip call in progress: the till called, whether its answer was found malformed (R27), and the line settings the
call started with (R21). -/
structure Call where
  drop      : DropId
  malformed : Bool
  rate      : Nat
  window    : Nat
  turn      : Nat
  deriving DecidableEq, Repr

/-- What one Till Line Controller holds (2.2). `driver`: the driver-enable output is asserted (00, Signals; R26; log
50). `roundPos` is the drop called last in the present round (log 26). -/
structure TillLine where
  enabled  : Bool
  driver   : Bool
  rate     : Nat
  window   : Nat
  turn     : Nat
  ringPos  : Option DropId
  roundPos : Option DropId
  round    : Nat
  walkPos  : Option DropId
  call     : Option Call
  tills    : Vector Till 16
  deriving DecidableEq, Repr

/-- A slip of the intake (R32). A remote order has no slip kind; its kind byte is 0. -/
structure Slip where
  source  : Origin
  kind    : Byte
  content : List Byte
  deriving DecidableEq, Repr

/-- The intake with its pause state and marks (R32, R33). -/
structure Intake where
  slips  : List Slip
  paused : Bool
  high   : Nat
  low    : Nat
  deriving DecidableEq, Repr

/-! ### The Uplink Port and Control Unit (chapter 9) -/

/-- Uplink states (9.3). -/
inductive UplinkState where
  | lost | recovering | online
  deriving DecidableEq, Repr

/-- An item entry as LOAD ITEMS carries it: six numbers, not yet judged (R4). -/
structure ItemOperand where
  code     : Nat
  price    : Nat
  primary  : Nat
  overflow : Nat
  expo     : Nat
  stock    : Nat
  deriving DecidableEq, Repr

/-- A till entry as LOAD TILL carries it (R22). -/
structure TillOperand where
  till    : Nat
  enabled : Nat
  stand   : Nat
  role    : Nat
  deriving DecidableEq, Repr

/-- The operands of LOAD STATION (R15, R178). -/
structure StationOperand where
  station      : Nat
  kind         : Nat
  rate         : Nat
  divertLevel  : Nat
  returnLevel  : Nat
  fallback     : Nat
  takenTimeout : Nat
  holdLimit    : Nat
  goAny        : Nat
  deriving DecidableEq, Repr

/-- A well-formed command with its operands as they stand in the block, not yet judged (9.5). -/
inductive ControlOp where
  | loadItems (es : List ItemOperand)
  | deleteItems (codes : List Nat)
  | readItem (code : Nat)
  | setStock (code value : Nat)
  | loadStand (stand policy expo floor : Nat)
  | loadStation (o : StationOperand)
  | loadLine (line enabled rate window turn : Nat)
  | loadTill (es : List TillOperand)
  | readTills (line : Nat)
  | setIntakeMarks (high low : Nat)
  | queryCheck (check : Nat)
  | voidCheck (check : Nat)
  | setAuthTimes (wait window : Nat)
  | stationControl (station action : Nat)
  | readStations
  | drainJournal (n : Nat)
  | setJournalWarning (level : Nat)
  | setUplinkTimes (limit count : Nat)
  | setEvents (mask : Nat)
  | readStatus
  | openStand (stand : Nat)
  | closeStand (stand deadline force : Nat)
  | serviceReset (force : Nat)
  | setClock (value : Nat)
  deriving DecidableEq, Repr

/-- A block as it is read from a CONTROL envelope (R156, R157): well formed, or malformed with as much of its header
as could be read. -/
inductive Block where
  | good (tag : Nat) (stop : Bool) (op : ControlOp)
  | bad (tag : Nat) (cmd : Option Nat)
  deriving DecidableEq, Repr

/-- A CONTROL envelope that waits: its blocks, and whether the Ethernet link was up when it arrived (R148, R155; log
49). -/
structure Waiting where
  blocks : List Block
  linked : Bool
  deriving DecidableEq, Repr

/-- The running envelope: its blocks not yet answered, whether the link was up when it arrived (R148; log 49), the
reply blocks so far, whether the blocks that follow are answered NOT_RUN (R156, R158), and the reset that takes effect
after the reply (R168). -/
structure Run where
  blocks  : List Block
  linked  : Bool
  replies : List ReplyBlock
  skip    : Bool
  reset   : Option Bool
  deriving DecidableEq, Repr

/-- What the Uplink Port and Control Unit holds. The head of the send queue is the envelope on the wire (log 10). -/
structure Uplink where
  part        : PartState
  selfTest    : Option Memory
  linkUp      : Bool
  state       : UplinkState
  progress    : Nat
  silence     : Option Nat
  limit       : Nat
  needed      : Nat
  replyAddr   : EthAddr
  mask        : BitVec 15
  sendQueue   : List OutEnvelope
  heldHello   : Option Hello
  run         : Option Run
  waiting     : List Waiting
  deriving DecidableEq, Repr

/-- What the part puts on its wires (log 11). A TICKET frame is logged when it begins, and when it ends or is cut
off; every other transmission is logged whole. `driver l taken delay`: `delay` bit times after what went before, the
driver of the till line is taken (or stays taken), or is released (R26; log 50). -/
inductive Output where
  | driver (l : LineId) (taken : Bool) (delay : Nat)
  | till (l : LineId) (cs : List TillChar)
  | probe (st : StationId) (bytes : List Byte)
  | ticketBegin (st : StationId) (bytes : List Byte)
  | ticketEnd (st : StationId)
  | ticketCut (st : StationId)
  | envelope (bytes : List Byte)
  deriving DecidableEq, Repr

/-! ### The whole part -/

/-- The state of the part, the commands that are waiting, and what has been sent. -/
structure State where
  pending : List Instr
  out     : List Output
  lines   : Vector TillLine 4
  intake  : Intake
  ce      : CheckEngine
  tu      : TenderUnit
  kr      : KitchenRouter
  ports   : Vector Port 8
  sj      : Journal
  upc     : Uplink
  clock   : Clock
  deriving DecidableEq, Repr

/-- A stand entry after power-on (R11). -/
def Stand.reset : Stand where
  loaded := false
  policy := .fireOnOrder
  expo := none
  floor := 0
  state := .unopened
  pickup := 1
  closing := none

/-- A station entry after power-on (R13). -/
def Station.reset : Station where
  cfg := { loaded := false, kind := .print, rate := 19200, divertLevel := 0, returnLevel := 0, fallback := none,
           takenTimeout := 5, holdLimit := 60, goAny := false }
  diverting := false
  voidQ := []
  normalQ := []
  shown := []
  recallL := []

/-- A port after power-on (7.2). -/
def Port.reset : Port where
  link := .down
  slotA := none
  slotB := none
  mark := .a
  hold := false
  holdTimer := none
  probe := none
  lastDown := none
  lastFault := none
  kindMismatch := false
  badFrames := 0

/-- A till after power-on (R20). -/
def Till.reset : Till where
  enabled := false
  stand := 0
  role := .cashier
  present := true
  misses := 0
  notices := []
  lost := false

/-- A line after power-on (R20). -/
def TillLine.reset : TillLine where
  enabled := false
  driver := false
  rate := 38400
  window := 10
  turn := 2
  ringPos := none
  roundPos := none
  round := 0
  walkPos := none
  call := none
  tills := Vector.replicate 16 Till.reset

/-- The broadcast address (R150). -/
def broadcast : EthAddr := 0xFFFFFFFFFFFF

/-- The part right after power-on (R169), in STARTING. The link status is an input (log 7). -/
def State.reset : State where
  pending := []
  out := []
  lines := Vector.replicate 4 TillLine.reset
  intake := { slips := [], paused := false, high := 48, low := 32 }
  ce := { items := [], stands := Vector.replicate 16 Stand.reset, checks := [], checkCtr := 1, backlog := [],
          tryOffered := false, answers := [] }
  tu := { live := [], expired := [], tagCtr := 1, authWait := 20, lateWindow := 120 }
  kr := { stations := Vector.replicate 8 Station.reset, tickets := [], ticketCtr := 1, completions := [],
          recalls := [], clearance := Vector.replicate 16 { requested := false, reported := false } }
  ports := Vector.replicate 8 Port.reset
  sj := { records := [], reservations := 0, recordCtr := 1, warnLevel := 256, low := false, burst := none }
  upc := { part := .starting, selfTest := none, linkUp := false, state := .lost, progress := 0, silence := none,
           limit := 6, needed := 8, replyAddr := broadcast, mask := 0x7FFF, sendQueue := [], heldHello := none,
           run := none, waiting := [] }
  clock := { secs := 0, unset := true }

end Sys2Proof.Machine
end

