-- ==== Sys2Proof/Machine/Flags.lean ====
section
/-! DEFINITION. The flags, marks and two-valued states that the rules compute: stock events, the intake pause, divert,
the journal's low flag, a check's readiness and payment, a port's hold. Pure functions. -/
namespace Sys2Proof.Machine

/-- The event a change of stock count calls for (R10). -/
def stockEvents (code : Nat) (old new : Stock) : List Event :=
  if old ≠ .count 0 ∧ new = .count 0 then [.soldOut code]
  else if old = .count 0 ∧ new ≠ .count 0 then [.backIn code new]
  else []

/-- The pause state when a joining slip has brought the intake to `len` slips (R33). -/
def Intake.pausedAtJoin (i : Intake) (len : Nat) : Bool := i.paused || decide (i.high ≤ len)

/-- The pause state when taking a slip has left `len` slips (R33). -/
def Intake.pausedAtTake (i : Intake) (len : Nat) : Bool := i.paused && decide (i.low < len)

/-- The pause state when new marks have been set (R35). -/
def Intake.pausedAtMarks (i : Intake) : Bool :=
  if i.paused then decide (i.low < i.slips.length) else decide (i.high ≤ i.slips.length)

/-- The divert state for a backlog (R17, R119). -/
def Station.divertsAt (s : Station) (backlog : Nat) : Bool :=
  if s.diverting then decide (0 < s.cfg.divertLevel) && decide (s.cfg.returnLevel < backlog)
  else decide (0 < s.cfg.divertLevel) && decide (s.cfg.divertLevel ≤ backlog)

/-- The size of the journal, records and reservations together (00, Capacities). -/
def journalSize : Nat := 2048

/-- The free unreserved space (R141). -/
def Journal.free (j : Journal) : Nat := journalSize - j.records.length - j.reservations

/-- The low flag clears when the space has risen above the level (R143). -/
def Journal.rise (j : Journal) : Journal := { j with low := j.low && decide (j.free ≤ j.warnLevel) }

/-- The share is PAID (4.1). -/
def Share.isPaid (s : Share) : Bool := decide (s.state = .paid)

/-- A line that is not VOIDED. -/
def Line.live (l : Line) : Bool := decide (l.state ≠ .voided)

/-- A check is PAID when every one of its shares is PAID, and OPEN otherwise (R64). -/
def Check.payState (c : Check) : CheckState := if c.shares.all Share.isPaid then .paid else .opened

/-- A check is ready when it has a non-voided line and every non-voided line is DONE (R54). -/
def Check.ready (c : Check) : Bool :=
  c.lines.any Line.live && c.lines.all fun l => decide (l.state = .done) || decide (l.state = .voided)

/-- A check closes when it is PAID and every line is DONE or VOIDED (R55). -/
def Check.closable (c : Check) : Bool :=
  decide (c.state = .paid) && c.lines.all fun l => decide (l.state = .done) || decide (l.state = .voided)

/-- The total: the sum of quantity × unit price over the non-voided lines (R38). -/
def lineTotal (ls : List Line) : Nat := ((ls.filter Line.live).map fun l => l.qty * l.price).sum

/-- The balance B: the total less the dues of the PAID shares (R64). -/
def Check.balance (c : Check) : Nat := c.total - ((c.shares.filter Share.isPaid).map Share.due).sum

/-- Some share holds a tender record (R44, R48). -/
def Check.hasTender (c : Check) : Bool := c.shares.any fun s => !s.tenders.isEmpty

/-- A share is PAID when tendered equals due and it holds no PENDING tender, and DUE otherwise (R78). -/
def Share.tested (s : Share) : Share :=
  { s with state :=
      if s.tendered = s.due ∧ ∀ t ∈ s.tenders, t.state ≠ .pending then .paid else .due }

/-- A new share: PAID when its due is 0, DUE otherwise (R73). -/
def Share.new (index due : Nat) : Share :=
  { index := index, due := due, tendered := 0, state := if due = 0 then .paid else .due, tenders := [] }

/-- The miss count after a miss: it stops at 3 (R31). -/
def missed (n : Nat) : Nat := min 3 (n + 1)

/-- The bad-frame count after `k` more: it stops at 65,535 (R123). -/
def badFramesAfter (k n : Nat) : Nat := min 65535 (n + k)

end Sys2Proof.Machine
end

