-- ==== Sys2Proof/Config.lean ====
section
/-! DEFINITION. What one specimen of the part fixes and the manual does not give, and the values the manual leaves
open: constants with no body, so that no proof can lean on a value of them. -/
namespace Sys2Proof.Config

/-- The part's own fixed Ethernet address (09, 9.1). Log 8. -/
opaque stationAddress : EthAddr

/-- The serial number that HELLO carries (R171). Log 8. -/
opaque serialNumber : Nat

/-- The vendor identity that HELLO carries (R171). Log 8. -/
opaque vendorIdentity : Nat

/-- The part identity that HELLO carries (R171). Log 8. -/
opaque partIdentity : Nat

/-- The revision identity that HELLO carries (R171). Log 8. -/
opaque revisionIdentity : Nat

/-- How the absence of an enumerated value or of a fault code is written: R179 gives no absence value for either.
Log 9. -/
opaque absentByte : Byte

end Sys2Proof.Config
end

