-- ==== Sys2Proof/Machine/Wire.lean ====
section
/-! DEFINITION. How the part writes what it sends (chapter 11): fields, frames, notices, tickets, events, records,
reply blocks and envelopes. Most significant byte first. -/
namespace Sys2Proof.Machine

/-- The low `w` bytes of a number, most significant first. -/
def bytesOf : Nat → Nat → List Byte
  | 0, _ => []
  | w + 1, n => BitVec.ofNat 8 (n / 256 ^ w) :: bytesOf w n

/-! ### Character values (11.1) -/

def chSOF : Byte := 0xF1
def chEOF : Byte := 0xF2
def chESC : Byte := 0xF3
def chIDLE : Byte := 0xF4
def chRECEIVED : Byte := 0xF5
def chBUSY : Byte := 0xF6
def chREPEAT : Byte := 0xF7
def chHOLD : Byte := 0xF8
def chGO : Byte := 0xF9

/-- The values that are escaped inside a frame: 0xF0 to 0xFF (R173). -/
def isControl (b : Byte) : Bool := decide (0xF0 ≤ b.toNat)

/-- The sum of bytes modulo 256 (R173). -/
def sumBytes (bs : List Byte) : Byte := bs.foldr (· + ·) 0

/-- The 8-bit two's complement of the sum of the body (R173). -/
def checksum (body : List Byte) : Byte := - sumBytes body

/-- A byte as a frame carries it (R173). -/
def escapeByte (b : Byte) : List Byte := if isControl b then [chESC, b - 0x80] else [b]

/-- A frame: SOF, the escaped body and checksum, EOF (R173). -/
def frameBytes (body : List Byte) : List Byte :=
  chSOF :: (body ++ [checksum body]).flatMap escapeByte ++ [chEOF]

/-- Characters the part sends on a till line with the address bit clear (R19). -/
def plainChars (bs : List Byte) : List TillChar := bs.map fun b => { data := b }

/-- The call character of a slip call: the drop address with the address bit set (R19). -/
def slipCallChar (d : DropId) : TillChar := { data := BitVec.ofNat 8 (d.val + 1), addr := true }

/-- The call character of a deliver call: the drop address plus 128 with the address bit set (R19, R34). -/
def deliverCallChar (d : DropId) : TillChar := { data := BitVec.ofNat 8 (d.val + 129), addr := true }

/-! ### Numbers of enumerated values (R179): the position in the first table's value list -/

def StationKind.code : StationKind → Nat
  | .print => 1 | .display => 2 | .expo => 3

def StandState.code : StandState → Nat
  | .unopened => 1 | .opened => 2 | .closing => 3 | .closed => 4

def Role.code : Role → Nat
  | .cashier => 1 | .supervisor => 2

/-- DEDUCED: no table lists the presences; 2.2 names PRESENT, then ABSENT. Log 15. -/
def presenceCode (present : Bool) : Nat := if present then 1 else 2

def CheckState.code : CheckState → Nat
  | .opened => 1 | .paid => 2

/-- WHOLE 0, EVEN 1, BY_LINE 2, BY_AMOUNT 3 in every layout (R179). -/
def SplitMode.code : SplitMode → Nat
  | .whole => 0 | .even => 1 | .byLine => 2 | .byAmount => 3

def LineState.code : LineState → Nat
  | .held => 1 | .firing => 2 | .fired => 3 | .cooked => 4 | .done => 5 | .voided => 6

def ShareState.code : ShareState → Nat
  | .due => 1 | .authorizing => 2 | .paid => 3

def TenderKind.code : TenderKind → Nat
  | .cash => 1 | .card => 2 | .prepaid => 3

def TenderState.code : TenderState → Nat
  | .applied => 1 | .pending => 2 | .approved => 3 | .deferred => 4

def TicketKind.code : TicketKind → Nat
  | .normal => 1 | .assembly => 2 | .void => 3

def Link.code : Link → Nat
  | .down => 1 | .up => 2 | .off => 3

/-- DEDUCED: no table lists the divert states; R119 names NORMAL, then DIVERTING. Log 15. -/
def divertCode (diverting : Bool) : Nat := if diverting then 2 else 1

/-- The next-slot mark, by its value list in 7.2. DEDUCED: log 15. -/
def markCode : Slot → Nat
  | .a => 1 | .b => 2

/-- The slot byte of a station frame: A 0, B 1 (R176). -/
def slotByte : Slot → Nat
  | .a => 0 | .b => 1

def DownCause.code : DownCause → Nat
  | .takenTimeout => 1 | .fault => 2 | .holdLimit => 3 | .restart => 4 | .off => 5

def UplinkState.code : UplinkState → Nat
  | .lost => 1 | .recovering => 2 | .online => 3

def PartState.code : PartState → Nat
  | .starting => 1 | .running => 2 | .failed => 3

/-- 0 when every memory passed, else the position in R169's list (R179). -/
def selfTestCode : Option Memory → Nat
  | none => 0
  | some .itemTable => 1
  | some .checkTable => 2
  | some .ticketStore => 3
  | some .authTables => 4
  | some .journal => 5

def ResetKind.code : ResetKind → Nat
  | .powerOn => 1 | .service => 2 | .serviceForced => 3

def verdictCode : Verdict → Nat
  | .approve => 1 | .decline => 2

/-- DEDUCED: R92 lists the outcomes in this order, and no table numbers them. Log 15. -/
def AuthOutcome.code : AuthOutcome → Nat
  | .approved => 1 | .declined => 2 | .timeout => 3 | .deferred => 4

def ExpiryOutcome.code : ExpiryOutcome → Nat
  | .removed => 1 | .deferred => 2 | .voided => 3

def VoidReason.code : VoidReason → Nat
  | .till => 1 | .remote => 2 | .forced => 3

/-- Refusal reasons as R179 numbers them. -/
def Reason.code : Reason → Nat
  | .badSlip => 1 | .notOpen => 2 | .closed => 3 | .noCheck => 4 | .wrongStand => 5 | .tendered => 6
  | .unknownItem => 7 | .soldOut => 8 | .tooManyLines => 9 | .tooLarge => 10 | .amount => 11 | .tableFull => 12
  | .journalFull => 13 | .badLine => 14 | .done => 15 | .role => 16 | .kitchenFull => 17 | .pending => 18
  | .partPaid => 19 | .paidAll => 20 | .badSplit => 21 | .sum => 22 | .badShare => 23 | .paid => 24
  | .tendersFull => 25 | .over => 26 | .authFull => 27 | .offline => 28

/-- Results, 0 to 10 in the order of R158's table (R177). -/
def Result.code : Result → Nat
  | .ok => 0 | .accepted => 1 | .busy => 2 | .badValue => 3 | .notFound => 4 | .full => 5 | .inUse => 6
  | .notQuiet => 7 | .refused => 8 | .notRun => 9 | .malformed => 10

/-- Commands, 1 to 24 in the order of 9.5 (R177). -/
def ControlOp.code : ControlOp → Nat
  | .loadItems _ => 1 | .deleteItems _ => 2 | .readItem _ => 3 | .setStock _ _ => 4 | .loadStand _ _ _ _ => 5
  | .loadStation _ => 6 | .loadLine _ _ _ _ _ => 7 | .loadTill _ => 8 | .readTills _ => 9
  | .setIntakeMarks _ _ => 10 | .queryCheck _ => 11 | .voidCheck _ => 12 | .setAuthTimes _ _ => 13
  | .stationControl _ _ => 14 | .readStations => 15 | .drainJournal _ => 16 | .setJournalWarning _ => 17
  | .setUplinkTimes _ _ => 18 | .setEvents _ => 19 | .readStatus => 20 | .openStand _ => 21
  | .closeStand _ _ _ => 22 | .serviceReset _ => 23 | .setClock _ => 24

/-- Event kinds, 1 to 15 in the order of the table of 9.6 (R177). -/
def Event.code : Event → Nat
  | .tillAbsent _ => 1 | .tillPresent _ => 2 | .soldOut _ => 3 | .backIn _ _ => 4 | .orderResult _ _ => 5
  | .ready _ _ _ _ => 6 | .stationDown _ _ _ _ _ _ => 7 | .stationUp _ _ _ => 8 | .divertOn _ _ => 9
  | .divertOff _ _ => 10 | .uplinkOnline _ => 11 | .unknownTag _ _ => 12 | .journalLow _ _ _ => 13
  | .closeDone _ _ _ _ => 14 | .closeTimeout _ _ _ => 15

/-! ### Fields (R179) -/

/-- A clock field: top bit UNSET, low 17 bits seconds (R179). -/
def clockNat (c : Clock) : Nat := (if c.unset then 2 ^ 23 else 0) + c.secs

/-- A field's bytes (R179). -/
def Field.bytes : Field → List Byte
  | .amount n => bytesOf 4 n
  | .price n => bytesOf 3 n
  | .clock c => bytesOf 3 (clockNat c)
  | .number n => bytesOf 2 (n.getD 0)
  | .count n => bytesOf 2 n
  | .byteCount n => bytesOf 1 n
  | .stock .uncounted => bytesOf 3 0xFFFFFF
  | .stock (.count n) => bytesOf 3 n
  | .duration n => bytesOf 2 (n.getD 0xFFFF)
  | .rate n => bytesOf 4 n
  | .address a => bytesOf 6 a.toNat
  | .serial n => bytesOf 4 n
  | .identity n => bytesOf 2 n
  | .station none => [0xFF]
  | .station (some s) => bytesOf 1 s.val
  | .index n => bytesOf 1 (n.getD 0)
  | .stand s => bytesOf 1 s.val
  | .till t => bytesOf 1 t.val
  | .origin (.till t) => bytesOf 1 0 ++ bytesOf 4 t.val
  | .origin (.remote r) => bytesOf 1 1 ++ bytesOf 4 r
  | .code n => bytesOf 1 n
  | .codeOrAbsent none => [Config.absentByte]
  | .codeOrAbsent (some n) => bytesOf 1 n
  | .flag b => bytesOf 1 (if b then 1 else 0)
  | .flagOrAbsent none => [0xFF]
  | .flagOrAbsent (some b) => bytesOf 1 (if b then 1 else 0)

/-- Fields written one after the other (R178). -/
def fieldBytes (fs : List Field) : List Byte := fs.flatMap Field.bytes

/-! ### Notices (R175) -/

/-- The fields of a share where an answer lists shares (R53, R68). -/
def Share.fields (s : Share) : List Field :=
  [.index (some s.index), .amount s.due, .amount s.tendered, .code s.state.code]

/-- A list of shares: its count, then the entries. -/
def shareListFields (ss : List Share) : List Field := .byteCount ss.length :: ss.flatMap Share.fields

/-- The content of a notice after its kind and flags (R175). -/
def Notice.content : Notice → List Byte
  | .answer kind check (.accepted fs) =>
      kind :: fieldBytes ([.number check, .code 1, .index none, .index none] ++ fs)
  | .answer kind check (.refused why i) =>
      kind :: fieldBytes [.number check, .code 2, .code why.code, .index i]
  | .auth tag check share amt outcome due tendered state =>
      fieldBytes [.number (some tag), .number (some check), .index (some share), .amount amt, .code outcome.code,
        .amount due, .amount tendered, .code state.code]
  | .ready check stand pickup => fieldBytes [.number (some check), .stand stand, .number (some pickup)]

/-- The notice kind byte (R175). -/
def Notice.kind : Notice → Nat
  | .answer _ _ _ => 1
  | .auth _ _ _ _ _ _ _ _ => 2
  | .ready _ _ _ => 3

/-- A notice frame, with its LOST mark in the lowest bit of the flags byte (R175). -/
def Notice.frame (n : Notice) (lost : Bool) : List TillChar :=
  plainChars (frameBytes (bytesOf 1 n.kind ++ bytesOf 1 (if lost then 1 else 0) ++ n.content))

/-! ### Station frames (R176) -/

/-- A ticket entry; an entry that names no line has line index 0 (R176). -/
def TicketEntry.fields (e : TicketEntry) : List Field :=
  [.index e.line, .number (some e.item), .byteCount e.qty, .flag e.voided, .byteCount e.mods.length]
    ++ e.mods.map .code

/-- A TICKET frame (R124, R176). -/
def ticketFrame (x : Slot) (t : Ticket) : List Byte :=
  frameBytes (bytesOf 1 1 ++ fieldBytes ([.code (slotByte x), .number (some t.number), .code t.kind.code,
    .flag t.remake, .number t.check, .stand t.stand, .number (some t.pickup),
    .clock { secs := t.fired, unset := false }, .number t.original, .byteCount t.entries.length]
    ++ t.entries.flatMap TicketEntry.fields))

/-- A PROBE frame (R124, R176). -/
def probeFrame (st : StationId) : List Byte := frameBytes (bytesOf 1 2 ++ bytesOf 1 st.val)

/-! ### Journal records (11.5) -/

def RecordLine.fields (l : RecordLine) : List Field :=
  [.number (some l.item), .byteCount l.qty, .price l.price, .flag l.voided]

def RecordTender.fields (t : RecordTender) : List Field :=
  [.index (some t.share), .code t.tender.kind.code, .amount t.tender.amount, .code t.tender.state.code,
    .number t.tender.tag]

/-- The body of a check record; the void reason is 0 for CHECK_CLOSED (11.5). -/
def CheckSummary.fields (c : CheckSummary) (why : Nat) : List Field :=
  [.stand c.stand, .number (some c.check), .number (some c.pickup), .origin c.origin, .amount c.total, .code why,
    .byteCount c.lines.length] ++ c.lines.flatMap RecordLine.fields
    ++ .byteCount c.tenders.length :: c.tenders.flatMap RecordTender.fields

def RecordBody.code : RecordBody → Nat
  | .checkClosed _ => 1
  | .checkVoided _ _ => 2
  | .lateAnswer _ _ _ _ _ => 3

def RecordBody.fields : RecordBody → List Field
  | .checkClosed c => c.fields 0
  | .checkVoided c why => c.fields why.code
  | .lateAnswer tag check amt outcome v =>
      [.number (some tag), .number (some check), .amount amt, .code outcome.code, .code (verdictCode v)]

/-- A record: number, kind, clock, body (11.5). -/
def Record.bytes (r : Record) : List Byte :=
  fieldBytes ([.amount r.number, .code r.body.code, .clock r.clock] ++ r.body.fields)

/-! ### Events (R159, R177): the fields their rules name, the clock standing in the envelope's own place (log 14) -/

/-- The result of an ORDER_RESULT event (R59, R179). -/
def OrderResult.fields : OrderResult → List Field
  | .accepted check stand pickup total =>
      [.code 1, .index none, .number (some check), .stand stand, .number (some pickup), .amount total]
  | .refused why i => [.code 2, .code why.code, .index i]
  | .busy => [.code 3, .index none]

def Event.fields : Event → List Field
  | .tillAbsent t => [.till t]
  | .tillPresent t => [.till t]
  | .soldOut i => [.number (some i)]
  | .backIn i s => [.number (some i), .stock s]
  | .orderResult ref r => .amount ref :: r.fields
  | .ready ref check stand pickup => [.amount ref, .number (some check), .stand stand, .number (some pickup)]
  | .stationDown st cause fault fallback moved left =>
      [.station (some st), .code cause.code, .codeOrAbsent fault, .station fallback, .count moved, .count left]
  | .stationUp st kind queued => [.station (some st), .code kind.code, .count queued]
  | .divertOn st backlog => [.station (some st), .count backlog]
  | .divertOff st backlog => [.station (some st), .count backlog]
  | .uplinkOnline n => [.count n]
  | .unknownTag tag v => [.number (some tag), .code (verdictCode v)]
  | .journalLow free records reservations => [.count free, .count records, .count reservations]
  | .closeDone sd forced voided freed => [.stand sd, .flag forced, .count voided, .count freed]
  | .closeTimeout sd checks tickets => [.stand sd, .count checks, .count tickets]

/-! ### Envelopes (R177) -/

/-- A reply block: command, tag, result, result length, result operands (R177). -/
def ReplyBlock.bytes (b : ReplyBlock) : List Byte :=
  let ops := fieldBytes b.operands
  fieldBytes [.codeOrAbsent b.cmd, .count b.tag, .code b.result.code] ++ bytesOf 2 ops.length ++ ops

/-- The envelope kind byte (R177). -/
def OutBody.code : OutBody → Nat
  | .reply _ _ => 0x81
  | .authRequest _ => 0x82
  | .event _ _ => 0x83
  | .journal _ _ _ => 0x84
  | .hello _ => 0x85

/-- The content of an envelope (R177). -/
def OutBody.content : OutBody → List Byte
  | .reply r bs => bytesOf 1 r.code ++ bytesOf 1 bs.length ++ bs.flatMap ReplyBlock.bytes
  | .authRequest r =>
      fieldBytes [.number (some r.tag), .number (some r.check), .index (some r.share), .amount r.amount,
        .stand r.stand, .till r.till, .clock { secs := r.started, unset := false }]
  | .event c e => fieldBytes (.code e.code :: .clock c :: e.fields)
  | .journal tag pos r => bytesOf 2 tag ++ bytesOf 1 pos ++ r.bytes
  | .hello h =>
      fieldBytes [.identity Config.vendorIdentity, .identity Config.partIdentity, .identity Config.revisionIdentity,
        .serial Config.serialNumber, .address Config.stationAddress, .code h.part.code,
        .code (selfTestCode h.selfTest), .code h.kind.code, .clock h.clock]

/-- The protocol type of an envelope (9.1). -/
def envelopeType : BitVec 16 := 0x88B6

/-- An envelope as it leaves the wire: destination, source, protocol type, kind, content length, content (R177). -/
def OutEnvelope.bytes (e : OutEnvelope) : List Byte :=
  fieldBytes [.address e.dst, .address Config.stationAddress] ++ bytesOf 2 envelopeType.toNat
    ++ bytesOf 1 e.body.code ++ bytesOf 2 e.body.content.length ++ e.body.content

end Sys2Proof.Machine
end

