-- ==== Sys2Proof/Machine/Operands.lean ====
section
/-! DEFINITION. How the part reads what it receives (chapters 2, 7, 9 and 11): Ethernet frames, till answers, station
frames, slip contents and control blocks. Pure functions of the bytes; what the values mean is judged later, by the
block that owns the matter. -/
namespace Sys2Proof.Machine

/-! ### Numbers from bytes -/

/-- The number that bytes spell, most significant first. -/
def natOf (bs : List Byte) : Nat := bs.foldl (fun n b => n * 256 + b.toNat) 0

/-- Cut fields of the given widths from the front of the bytes. -/
def cut : List Nat → List Byte → Option (List Nat × List Byte)
  | [], bs => some ([], bs)
  | w :: ws, bs =>
    if bs.length < w then none
    else match cut ws (bs.drop w) with
      | none => none
      | some (ns, rest) => some (natOf (bs.take w) :: ns, rest)

/-- Fields that fill the bytes exactly. -/
def cutAll (ws : List Nat) (bs : List Byte) : Option (List Nat) :=
  match cut ws bs with
  | some (ns, []) => some ns
  | _ => none

/-- `n` entries of the same widths that fill the bytes exactly. -/
def cutEntries (ws : List Nat) : Nat → List Byte → Option (List (List Nat))
  | 0, [] => some []
  | 0, _ :: _ => none
  | n + 1, bs =>
    match cut ws bs with
    | none => none
    | some (ns, rest) =>
      match cutEntries ws n rest with
      | none => none
      | some es => some (ns :: es)

/-- A list: a one-byte count, then the entries (R178), filling the bytes exactly. -/
def cutList (ws : List Nat) : List Byte → Option (List (List Nat))
  | [] => none
  | c :: bs => cutEntries ws c.toNat bs

/-! ### Names from numbers -/

def stationOf (n : Nat) : Option StationId := if h : n < 8 then some ⟨n, h⟩ else none
def standOf (n : Nat) : Option StandId := if h : n < 16 then some ⟨n, h⟩ else none
def lineOf (n : Nat) : Option LineId := if h : n < 4 then some ⟨n, h⟩ else none
def tillOf (n : Nat) : Option TillId := if h : n < 64 then some ⟨n, h⟩ else none

/-- An optional station: 0xFF is absence (R179); any other value outside S0 to S7 names no station. -/
def optStationOf (n : Nat) : Option (Option StationId) :=
  if n = 0xFF then some none else (stationOf n).map some

/-- A flag: 0 clear, 1 set (R179). -/
def flagOf (n : Nat) : Option Bool := if n = 0 then some false else if n = 1 then some true else none

def kindOf (n : Nat) : Option StationKind :=
  if n = 1 then some .print else if n = 2 then some .display else if n = 3 then some .expo else none

def policyOf (n : Nat) : Option FirePolicy :=
  if n = 1 then some .fireOnOrder else if n = 2 then some .fireOnPay else none

def roleOf (n : Nat) : Option Role := if n = 1 then some .cashier else if n = 2 then some .supervisor else none

/-- A stock count, UNCOUNTED written as 0xFFFFFF (R179); not above 65,535 otherwise (R2, R9). -/
def stockOf (n : Nat) : Option Stock :=
  if n = 0xFFFFFF then some .uncounted else if n ≤ 65535 then some (.count n) else none

/-- The seconds that a clock field carries: its low 17 bits (R179). Its top bit, the UNSET flag, and the bits between are
not looked at where a time of day is set (R172; log 21). -/
def clockSecs (n : Nat) : Nat := n % 2 ^ 17

/-! ### Ethernet frames (R149) -/

/-- Destination test of R149: the station address or broadcast. -/
def forMe (dst : EthAddr) : Bool := decide (dst = broadcast) || decide (dst = Config.stationAddress)

/-- The envelope an Ethernet frame holds: its kind and content (R149, R177); none: the frame is discarded. Bytes after
the content length are not read, and a content length past the end of the frame discards it (R179). -/
def readEnvelope (f : EthFrame) : Option (Byte × List Byte) :=
  if f.fcsGood && decide (f.proto = envelopeType) && forMe f.dst then
    match f.payload with
    | k :: l1 :: l2 :: rest =>
      if rest.length < natOf [l1, l2] then none else some (k, rest.take (natOf [l1, l2]))
    | _ => none
  else none

/-- The inbound envelope kinds (R177). -/
def kindControl : Byte := 1
def kindRemoteOrder : Byte := 2
def kindAuthAnswer : Byte := 3
def kindKeepalive : Byte := 4

/-! ### Till answers (R27, R173) -/

/-- What the characters received in a response window amount to (R27). -/
inductive Answer where
  | none                                        -- no character
  | idle
  | good (kind : Byte) (content : List Byte)     -- a slip frame with a matching checksum
  | bad                                         -- a slip frame whose checksum does not match
  | malformed
  | unfinished                                  -- a slip frame with no EOF yet
  deriving DecidableEq, Repr

/-- A frame that has ended at EOF: its unescaped bytes are kind, content and checksum (R27, R173). -/
def endOfSlip (bs : List Byte) : Answer :=
  match bs with
  | k :: c :: rest =>
    if 241 < (c :: rest).length then .malformed
    else if sumBytes bs = 0 then .good k (c :: rest).dropLast else .bad
  | _ => .malformed

/-- Read a slip frame after its SOF: `acc` holds the unescaped bytes so far, last first; `esc`: an escape character
was the last (R27, R173). -/
def readSlipFrame : List Byte → Bool → List TillChar → Answer
  | acc, _, [] => if 242 < acc.length then .malformed else .unfinished
  | acc, esc, c :: cs =>
    if c.framingError || c.addr then .malformed
    else if esc then
      if 0x70 ≤ c.data.toNat && c.data.toNat ≤ 0x7F then readSlipFrame ((c.data + 0x80) :: acc) false cs
      else .malformed
    else if c.data = chESC then readSlipFrame acc true cs
    else if c.data = chEOF then endOfSlip acc.reverse
    else if isControl c.data then .malformed
    else readSlipFrame (c.data :: acc) false cs

/-- The answer that the characters of a response window make (R27). -/
def readAnswer : List TillChar → Answer
  | [] => .none
  | c :: cs =>
    if c.framingError || c.addr then .malformed
    else if c.data = chIDLE then .idle
    else if c.data = chSOF then readSlipFrame [] false cs
    else .malformed

/-! ### Station frames (R123, R173, R176) -/

/-- A good frame from a station. -/
inductive PortFrame where
  | taken (x : Slot)
  | bump (n : Nat)
  | recallOf (n : Nat)
  | fault (code : Nat)
  | hello (k : StationKind)
  deriving DecidableEq, Repr

/-- What is read among the characters received on a station port, one after the other (R123): a good frame, something
discarded that adds one to the bad-frame count, or a frame that has not ended yet. -/
inductive PortRead where
  | frame (f : PortFrame)
  | discard
  | unfinished
  deriving DecidableEq, Repr

/-- The kinds of frame a station sends, with contents that fit their layouts (R176); a ticket number of 0, which is
absence, fits neither BUMP nor RECALL (R179). -/
def portFrameOf (kind : Byte) (content : List Byte) : Option PortFrame :=
  if kind = 3 then
    match content with
    | [x] => if x = 0 then some (.taken .a) else if x = 1 then some (.taken .b) else none
    | _ => none
  else if kind = 4 then
    match content with
    | [_, _] => if natOf content = 0 then none else some (.bump (natOf content))
    | _ => none
  else if kind = 5 then
    match content with
    | [_, _] => if natOf content = 0 then none else some (.recallOf (natOf content))
    | _ => none
  else if kind = 6 then
    match content with
    | [c] => if c = 0 then none else some (.fault c.toNat)
    | _ => none
  else if kind = 7 then
    match content with
    | [k] => (kindOf k.toNat).map .hello
    | _ => none
  else none

/-- A station frame that has ended at EOF (R123, R173). -/
def endOfPortFrame (bs : List Byte) : PortRead :=
  match bs with
  | k :: c :: rest =>
    if sumBytes bs = 0 then
      match portFrameOf k (c :: rest).dropLast with
      | some f => .frame f
      | none => .discard
    else .discard
  | _ => .discard

/-- Where the reading of a port stands (R123): between frames; inside a frame, with its unescaped bytes so far, last
first, and whether an escape character was the last; or in a frame that has been found malformed and has not ended
(log 42). -/
inductive PortScan where
  | between
  | inside (acc : List Byte) (esc : Bool)
  | spoiled
  deriving DecidableEq, Repr

/-- One character more, and what it completes (R123, R173). DEDUCED: a malformed frame is discarded once, at its fault,
and lasts to its EOF (log 42). A HOLD or GO is a command of its own wherever it stands; DESIGN CHOICE: between an escape
character and its value too, and between frames a character with a framing error is discarded, whatever its value (log
43). -/
def PortScan.take (c : PortChar) : PortScan → PortScan × List PortRead
  | .between =>
    if c.framingError then (.between, [.discard])
    else if c.data = chHOLD ∨ c.data = chGO then (.between, [])
    else if c.data = chSOF then (.inside [] false, [])
    else (.between, [.discard])
  | .inside acc esc =>
    if c.framingError then (.spoiled, [.discard])
    else if c.data = chHOLD ∨ c.data = chGO then (.inside acc esc, [])
    else if esc then
      if 0x70 ≤ c.data.toNat ∧ c.data.toNat ≤ 0x7F then (.inside ((c.data + 0x80) :: acc) false, [])
      else if c.data = chEOF then (.between, [.discard])
      else (.spoiled, [.discard])
    else if c.data = chESC then (.inside acc true, [])
    else if c.data = chEOF then (.between, [endOfPortFrame acc.reverse])
    else if isControl c.data then (.spoiled, [.discard])
    else (.inside (c.data :: acc) false, [])
  | .spoiled => if c.framingError = false ∧ c.data = chEOF then (.between, []) else (.spoiled, [])

/-- What a run of characters completes, from where the reading stands. -/
def PortScan.read : PortScan → List PortChar → List PortRead
  | .inside _ _, [] => [.unfinished]
  | .between, [] => []
  | .spoiled, [] => []
  | m, c :: cs => (PortScan.take c m).2 ++ (PortScan.take c m).1.read cs

/-- What the characters received since the last frame amount to (R123). -/
def readPort (cs : List PortChar) : List PortRead := PortScan.between.read cs

/-! ### Slip contents (R42, R66, R80, R174) -/

/-- A line of an ORDER, an ADD or a remote order (R174). -/
structure SlipLine where
  item : Nat
  qty  : Nat
  mods : List Nat
  deriving DecidableEq, Repr

/-- Read `n` lines, the first at slip position `pos`. The failure carries the position of the line at fault, where a
line is at fault (R42; log 19). -/
def readLines : Nat → Nat → List Byte → Except (Option Nat) (List SlipLine × List Byte)
  | _, 0, bs => .ok ([], bs)
  | pos, n + 1, i1 :: i2 :: q :: m :: rest =>
    if natOf [i1, i2] = 0 || q.toNat = 0 || decide (99 < q.toNat) || decide (4 < m.toNat) then .error (some pos)
    else if rest.length < m.toNat then .error none
    else if (rest.take m.toNat).any (· == 0) then .error (some pos)
    else match readLines (pos + 1) n (rest.drop m.toNat) with
      | .error e => .error e
      | .ok (ls, left) =>
        .ok ({ item := natOf [i1, i2], qty := q.toNat, mods := (rest.take m.toNat).map BitVec.toNat } :: ls, left)
  | _, _ + 1, _ => .error none

/-- A line count of 1 to 12, the lines, and nothing after them (R42, R174). -/
def readLineList : List Byte → Except (Option Nat) (List SlipLine)
  | [] => .error none
  | c :: bs =>
    if c.toNat = 0 || decide (12 < c.toNat) then .error none
    else match readLines 1 c.toNat bs with
      | .error e => .error e
      | .ok (ls, []) => .ok ls
      | .ok (_, _ :: _) => .error none

/-- ORDER: notify, lines (R174). -/
def readOrder : List Byte → Except (Option Nat) (Bool × List SlipLine)
  | [] => .error none
  | f :: bs =>
    match flagOf f.toNat with
    | none => .error none
    | some notify =>
      match readLineList bs with
      | .error e => .error e
      | .ok ls => .ok (notify, ls)

/-- ADD: check number, lines (R174). -/
def readAdd : List Byte → Except (Option Nat) (Nat × List SlipLine)
  | c1 :: c2 :: bs =>
    if natOf [c1, c2] = 0 then .error none
    else match readLineList bs with
      | .error e => .error e
      | .ok ls => .ok (natOf [c1, c2], ls)
  | _ => .error none

/-- A remote order after its reference: stand, prepaid amount, lines (R177). DESIGN CHOICE: a prepaid amount above
99,999,999 fits the layout, and is left to the AMOUNT test of R58 (log 44). -/
def readRemote (bs : List Byte) : Except (Option Nat) (StandId × Nat × List SlipLine) :=
  match cut [1, 4] bs with
  | some ([sd, amt], rest) =>
    match standOf sd with
    | none => .error none
    | some stand =>
      match readLineList rest with
      | .error e => .error e
      | .ok ls => .ok (stand, amt, ls)
  | _ => .error none

/-- The operands of a SPLIT (4.4). -/
inductive SplitOperand where
  | even (n : Nat)
  | byLine (n : Nat) (assign : List (Nat × Nat))
  | byAmount (amounts : List Nat)
  deriving DecidableEq, Repr

/-- An assignment list entry: line index 1 to 24, group 1 to 8 (R66). -/
def assignOf : List (List Nat) → Option (List (Nat × Nat))
  | [] => some []
  | [l, g] :: es =>
    if l = 0 || decide (24 < l) || g = 0 || decide (8 < g) then none
    else (assignOf es).map ((l, g) :: ·)
  | _ :: _ => none

/-- SPLIT: check number, mode, operands (R66, R174). -/
def readSplit : List Byte → Option (Nat × SplitOperand)
  | c1 :: c2 :: m :: bs =>
    if natOf [c1, c2] = 0 then none
    else if m = 1 then
      match bs with
      | [n] => if n.toNat = 0 || decide (8 < n.toNat) then none else some (natOf [c1, c2], .even n.toNat)
      | _ => none
    else if m = 2 then
      match bs with
      | n :: rest =>
        if n.toNat = 0 || decide (8 < n.toNat) then none
        else match cutList [1, 1] rest with
          | none => none
          | some es =>
            if es.isEmpty || decide (24 < es.length) then none
            else (assignOf es).map fun a => (natOf [c1, c2], .byLine n.toNat a)
      | _ => none
    else if m = 3 then
      match cutList [4] bs with
      | none => none
      | some es =>
        let amounts := es.flatten
        if amounts.isEmpty || decide (8 < amounts.length) then none
        else if amounts.any (fun a => a = 0 || decide (99999999 < a)) then none
        else some (natOf [c1, c2], .byAmount amounts)
    else none
  | _ => none

/-- TENDER: check number, share index, kind CASH or CARD, amount (R80, R174). -/
def readTender (bs : List Byte) : Option (Nat × Nat × TenderKind × Nat) :=
  match cutAll [2, 1, 1, 4] bs with
  | some [c, s, k, a] =>
    if c = 0 || s = 0 || decide (8 < s) || a = 0 || decide (99999999 < a) then none
    else if k = 1 then some (c, s, .cash, a)
    else if k = 2 then some (c, s, .card, a)
    else none
  | _ => none

/-- VOID LINE: check number, line index (R174). DESIGN CHOICE: an index above 24 fits the layout, and is left to the
BAD_LINE test of R48 (log 44). -/
def readVoidLine (bs : List Byte) : Option (Nat × Nat) :=
  match cutAll [2, 1] bs with
  | some [c, l] => if c = 0 || l = 0 then none else some (c, l)
  | _ => none

/-- VOID CHECK and QUERY: check number (R174). -/
def readCheckNumber (bs : List Byte) : Option Nat :=
  match cutAll [2] bs with
  | some [c] => if c = 0 then none else some c
  | _ => none

/-- The check number a slip names, for its ANSWER, as far as the content holds one (R42). -/
def namedCheck (bs : List Byte) : Option Nat :=
  match cut [2] bs with
  | some ([c], _) => if c = 0 then none else some c
  | _ => none

/-- The AUTH ANSWER content: tag and verdict (R90, R177); none: the answer is discarded (log 20). -/
def readAuthAnswer (bs : List Byte) : Option (Nat × Verdict) :=
  match cutAll [2, 1] bs with
  | some [tag, v] =>
    if tag = 0 then none else if v = 1 then some (tag, .approve) else if v = 2 then some (tag, .decline) else none
  | _ => none

/-! ### Control blocks (R156, R157, R177, R178) -/

def itemOperands : List (List Nat) → Option (List ItemOperand)
  | [] => some []
  | [c, p, s1, s2, e, k] :: es =>
    (itemOperands es).map
      ({ code := c, price := p, primary := s1, overflow := s2, expo := e, stock := k } :: ·)
  | _ :: _ => none

def tillOperands : List (List Nat) → Option (List TillOperand)
  | [] => some []
  | [t, e, s, r] :: es => (tillOperands es).map ({ till := t, enabled := e, stand := s, role := r } :: ·)
  | _ :: _ => none

/-- The operands of a command, by its number and its layout (R177, R178); none: the block is malformed (R157). -/
def readOp (cmd : Nat) (bs : List Byte) : Option ControlOp :=
  match cmd with
  | 1 => match cutList [2, 3, 1, 1, 1, 3] bs with
    | some es => (itemOperands es).map .loadItems
    | none => none
  | 2 => (cutList [2] bs).map fun es => .deleteItems es.flatten
  | 3 => match cutAll [2] bs with | some [c] => some (.readItem c) | _ => none
  | 4 => match cutAll [2, 3] bs with | some [c, v] => some (.setStock c v) | _ => none
  | 5 => match cutAll [1, 1, 1, 4] bs with | some [s, p, e, f] => some (.loadStand s p e f) | _ => none
  | 6 => match cutAll [1, 1, 4, 2, 2, 1, 2, 2, 1] bs with
    | some [s, k, r, d, u, f, t, h, g] =>
      some (.loadStation { station := s, kind := k, rate := r, divertLevel := d, returnLevel := u, fallback := f,
                           takenTimeout := t, holdLimit := h, goAny := g })
    | _ => none
  | 7 => match cutAll [1, 1, 4, 2, 2] bs with | some [l, e, r, w, t] => some (.loadLine l e r w t) | _ => none
  | 8 => match cutList [1, 1, 1, 1] bs with
    | some es => (tillOperands es).map .loadTill
    | none => none
  | 9 => match cutAll [1] bs with | some [l] => some (.readTills l) | _ => none
  | 10 => match cutAll [2, 2] bs with | some [h, l] => some (.setIntakeMarks h l) | _ => none
  | 11 => match cutAll [2] bs with | some [c] => some (.queryCheck c) | _ => none
  | 12 => match cutAll [2] bs with | some [c] => some (.voidCheck c) | _ => none
  | 13 => match cutAll [2, 2] bs with | some [w, l] => some (.setAuthTimes w l) | _ => none
  | 14 => match cutAll [1, 1] bs with | some [s, a] => some (.stationControl s a) | _ => none
  | 15 => match bs with | [] => some .readStations | _ => none
  | 16 => match cutAll [2] bs with | some [n] => some (.drainJournal n) | _ => none
  | 17 => match cutAll [2] bs with | some [n] => some (.setJournalWarning n) | _ => none
  | 18 => match cutAll [2, 2] bs with | some [l, c] => some (.setUplinkTimes l c) | _ => none
  | 19 => match cutAll [2] bs with | some [m] => some (.setEvents m) | _ => none
  | 20 => match bs with | [] => some .readStatus | _ => none
  | 21 => match cutAll [1] bs with | some [s] => some (.openStand s) | _ => none
  | 22 => match cutAll [1, 2, 1] bs with | some [s, d, f] => some (.closeStand s d f) | _ => none
  | 23 => match cutAll [1] bs with | some [f] => some (.serviceReset f) | _ => none
  | 24 => match cutAll [3] bs with | some [v] => some (.setClock v) | _ => none
  | _ => none

/-- A malformed block, with its tag and command where its header is whole (R157). -/
def badBlock : List Byte → Block
  | c :: t1 :: t2 :: _ :: _ :: _ :: _ => .bad (natOf [t1, t2]) (some c.toNat)
  | _ => .bad 0 none

/-- The blocks of a CONTROL envelope, of which `n` more may be run, read from first byte to last; a malformed block,
or the block after the last that may be run, ends the reading (R156, R157). -/
def readBlocks : Nat → List Byte → List Block
  | _, [] => []
  | 0, b :: bs => [badBlock (b :: bs)]
  | n + 1, b :: bs =>
    match b :: bs with
    | c :: t1 :: t2 :: fl :: l1 :: l2 :: rest =>
      if rest.length < natOf [l1, l2] then [badBlock (b :: bs)]
      else match readOp c.toNat (rest.take (natOf [l1, l2])) with
        | none => [badBlock (b :: bs)]
        | some op => .good (natOf [t1, t2]) (fl.getLsbD 0) op :: readBlocks n (rest.drop (natOf [l1, l2]))
    | _ => [badBlock (b :: bs)]

/-- At most 32 blocks of an envelope are run (R156). -/
def maxBlocks : Nat := 32

end Sys2Proof.Machine
end

