-- ==== Sys2Proof/Machine/Ops.lean ====
section
/-! DEFINITION. The operations that every family shares: keyed tables; a piece of work of the Check Engine, the Tender
Unit, the Router, the ports and the journal, with what it sends; the uplink's send queue and events; notices; the
intake; and the running of control blocks. -/
namespace Sys2Proof.Machine

/-! ### Keyed tables: lists with strictly rising keys -/

/-- The entry with a key. -/
def lookupBy {α : Type} (key : α → Nat) (k : Nat) (l : List α) : Option α := l.find? fun x => key x == k

/-- Put an entry in its place, in place of one with the same key. -/
def putBy {α : Type} (key : α → Nat) (x : α) : List α → List α
  | [] => [x]
  | y :: ys => if key x < key y then x :: y :: ys else if key x = key y then x :: ys else y :: putBy key x ys

/-- Remove the entry with a key. -/
def eraseBy {α : Type} (key : α → Nat) (k : Nat) (l : List α) : List α := l.filter fun x => key x != k

/-- Change the entry with a key. -/
def mapBy {α : Type} (key : α → Nat) (k : Nat) (f : α → α) (l : List α) : List α :=
  l.map fun x => if key x == k then f x else x

/-- Change one element of a fixed collection. -/
def modify {α : Type} {n : Nat} (v : Vector α n) (i : Fin n) (f : α → α) : Vector α n := v.set i (f v[i])

/-- Change every element of a fixed collection. -/
def mapAll {α β : Type} {n : Nat} (f : α → β) (v : Vector α n) : Vector β n :=
  ⟨⟨v.toArray.toList.map f⟩, by simp⟩

/-- One more than a number taken, the top value followed by 1. -/
def wrapNext (top n : Nat) : Nat := if top ≤ n then 1 else n + 1

/-- Starting at a counter, pass over the held numbers, counting up and wrapping from `top` to 1, and take the first
free one (R40, R85, R102). `fuel` bounds the numbers passed over; the number of held ones is enough. -/
def nextFree (top : Nat) (held : List Nat) : Nat → Nat → Nat
  | 0, n => n
  | fuel + 1, n => if n ∈ held then nextFree top held fuel (wrapNext top n) else n

/-- The stations in ascending order. -/
def allStations : List StationId := [0, 1, 2, 3, 4, 5, 6, 7]

/-! ### A piece of work -/

/-- What a piece of work sends, in the order it sends it (R41). -/
inductive Effect where
  | event (e : Event)
  | notice (t : TillId) (n : Notice)
  | authRequest (r : AuthRequest)
  | output (o : Output)
  deriving DecidableEq, Repr

/-- A piece of work in progress: the blocks whose state it may change, what it has sent so far, and the clock and the
uplink state it reads. It reaches neither the uplink, nor the till lines, nor the intake but through what it sends. -/
structure Work where
  ce     : CheckEngine
  tu     : TenderUnit
  kr     : KitchenRouter
  ports  : Vector Port 8
  sj     : Journal
  fx     : List Effect
  now    : Clock
  uplink : UplinkState
  deriving DecidableEq, Repr

/-- Send something. -/
def Work.emit (e : Effect) (w : Work) : Work := { w with fx := w.fx ++ [e] }

/-- Raise an event (R159). -/
def Work.raise (e : Event) (w : Work) : Work := w.emit (.event e)

/-- Raise events in order. -/
def Work.raiseAll (es : List Event) (w : Work) : Work := es.foldl (fun w e => w.raise e) w

/-! ### The journal, as a piece of work sees it (8.1 to 8.3) -/

/-- After a grant or a new level: the low flag is set, and JOURNAL_LOW is sent, when the space is at or below the
level and the flag was clear (R143, R144). -/
def Work.lowTest (w : Work) : Work :=
  if w.sj.free ≤ w.sj.warnLevel ∧ w.sj.low = false then
    { w with sj.low := true }.raise (.journalLow w.sj.free w.sj.records.length w.sj.reservations)
  else w

/-- Ask for a reservation; none: refused (R141). -/
def Work.reserve (w : Work) : Option Work :=
  if 1 ≤ w.sj.free then some { w with sj.reservations := w.sj.reservations + 1 }.lowTest else none

/-- Release a reservation (R142, R143). -/
def Work.release (w : Work) : Work :=
  { w with sj := { w.sj with reservations := w.sj.reservations - 1 }.rise }

/-- Append a record, which consumes a reservation (R140, R142). -/
def Work.append (b : RecordBody) (w : Work) : Work :=
  { w with sj := { w.sj with
      records := w.sj.records ++ [{ number := w.sj.recordCtr, clock := w.now, body := b }],
      reservations := w.sj.reservations - 1,
      recordCtr := wrapNext 4294967295 w.sj.recordCtr } }

/-! ### From a piece of work to the whole part -/

/-- The piece of work that a state offers. -/
def State.work (s : State) : Work :=
  { ce := s.ce, tu := s.tu, kr := s.kr, ports := s.ports, sj := s.sj, fx := [], now := s.clock,
    uplink := s.upc.state }

/-- Log a transmission. -/
def State.send (o : Output) (s : State) : State := { s with out := s.out ++ [o] }

/-- The size of the send queue (R151). -/
def sendQueueSize : Nat := 64

/-- Hand an envelope to the uplink port, addressed to the reply address as it stands: it joins the tail of the send
queue, or is discarded when the link is down or the queue is full (R151). -/
def State.handOver (b : OutBody) (s : State) : State :=
  if s.upc.linkUp ∧ s.upc.sendQueue.length < sendQueueSize then
    { s with upc.sendQueue := s.upc.sendQueue ++ [{ dst := s.upc.replyAddr, body := b }] }
  else s

/-- The mask enables this kind of event (R160: bit k − 1 enables kind k). -/
def Uplink.enabled (u : Uplink) (e : Event) : Bool := u.mask.getLsbD (e.code - 1)

/-- An event handed to the UPC: sent at once when its kind is enabled, dropped otherwise (R159). -/
def State.raise (e : Event) (s : State) : State :=
  if s.upc.enabled e then s.handOver (.event s.clock e) else s

/-- The line and the drop of a till index (00, Conventions). -/
def tillLine (t : TillId) : LineId := ⟨t.val / 16, by omega⟩
def tillDrop (t : TillId) : DropId := ⟨t.val % 16, by omega⟩
def tillIndex (l : LineId) (d : DropId) : TillId := ⟨l.val * 16 + d.val, by omega⟩

/-- A till's entry. -/
def State.till (s : State) (t : TillId) : Till := s.lines[tillLine t].tills[tillDrop t]

/-- Change one line. -/
def State.onLine (l : LineId) (f : TillLine → TillLine) (s : State) : State :=
  { s with lines := modify s.lines l f }

/-- The driver of a till line is taken, or stays taken, or is released, `delay` bit times after what went before (R26;
log 50). -/
def State.drive (l : LineId) (taken : Bool) (delay : Nat) (s : State) : State :=
  (s.onLine l fun t => { t with driver := taken }).send (.driver l taken delay)

/-- The driver is taken after a wait, something is sent, and the driver is held for the turnaround delay and released
(R26, R34; log 50). -/
def State.talk (l : LineId) (wait turn : Nat) (say : State → State) (s : State) : State :=
  (say (s.drive l true wait)).drive l false turn

/-- Change one till of a line. -/
def TillLine.onTill (d : DropId) (f : Till → Till) (l : TillLine) : TillLine := { l with tills := modify l.tills d f }

/-- The size of a notice queue (R36). -/
def noticeQueueSize : Nat := 4

/-- Post a notice to a till: it joins the tail, or it is dropped and the LOST flag is set when the queue is full or
the till is disabled (R36). -/
def Till.post (n : Notice) (t : Till) : Till :=
  if t.enabled ∧ t.notices.length < noticeQueueSize then { t with notices := t.notices ++ [n] }
  else { t with lost := true }

/-- Post a notice by till index (R36). -/
def State.post (t : TillId) (n : Notice) (s : State) : State :=
  s.onLine (tillLine t) (TillLine.onTill (tillDrop t) (Till.post n))

/-- What a piece of work sent, carried out. -/
def State.apply (s : State) : Effect → State
  | .event e => s.raise e
  | .notice t n => s.post t n
  | .authRequest r => s.handOver (.authRequest r)
  | .output o => s.send o

/-- Put back the blocks that a piece of work may change. -/
def State.putWork (w : Work) (s : State) : State :=
  { s with ce := w.ce, tu := w.tu, kr := w.kr, ports := w.ports, sj := w.sj }

/-- What a finished piece of work leaves: its blocks, and all it sent, in order. -/
def State.commit (w : Work) (s : State) : State := w.fx.foldl State.apply (s.putWork w)

/-- Carry out one piece of work whole (R41). -/
def State.doWork (f : Work → Work) (s : State) : State := s.commit (f s.work)

/-- The part is RUNNING (R169). -/
def State.running (s : State) : Bool := decide (s.upc.part = .running)

/-- The status output is asserted while the part is RUNNING (00, Signals; R169, R170). -/
def State.statusOutput (s : State) : Bool := s.running

/-! ### The intake (2.5) -/

/-- The size of the intake (R32). -/
def intakeSize : Nat := 64

/-- When the pause ends, every line's walk position becomes absent (R34). -/
def State.endWalks (s : State) : State :=
  { s with lines := mapAll (fun l => { l with walkPos := none }) s.lines }

/-- Set the pause state; the walk positions go when the pause ends (R33, R34). -/
def State.setPaused (b : Bool) (s : State) : State :=
  let s' := { s with intake.paused := b }
  if s.intake.paused ∧ b = false then s'.endWalks else s'

/-- Offer a slip to the intake; none: declined (R32, R33). -/
def State.offerSlip (x : Slip) (s : State) : Option State :=
  if s.intake.slips.length < intakeSize then
    some ({ s with intake.slips := s.intake.slips ++ [x] }.setPaused
      (s.intake.pausedAtJoin (s.intake.slips.length + 1)))
  else none

/-- Take the head slip when it is of the wanted sort, and process it; otherwise nothing happens (R32, R33, R41). -/
def State.takeSlip (want : Slip → Bool) (f : Slip → State → State) (s : State) : State :=
  match s.intake.slips with
  | x :: rest =>
    if want x then f x ({ s with intake.slips := rest }.setPaused (s.intake.pausedAtTake rest.length)) else s
  | [] => s

/-! ### The uplink state (9.3) -/

/-- The uplink becomes ONLINE when it is RECOVERING and its progress has reached the recovery count, and UPLINK_ONLINE
is sent (R152, R154). -/
def State.onlineTest (s : State) : State :=
  if s.upc.state = .recovering ∧ s.upc.needed ≤ s.upc.progress then
    { s with upc.state := .online }.raise (.uplinkOnline s.upc.needed)
  else s

/-- An envelope taken counts for silence supervision (R149, R152). -/
def State.countEnvelope (s : State) : State :=
  match s.upc.state with
  | .lost => { s with upc.state := .recovering, upc.progress := 1, upc.silence := some 0 }.onlineTest
  | .recovering => { s with upc.progress := s.upc.progress + 1, upc.silence := some 0 }.onlineTest
  | .online => { s with upc.silence := some 0 }

/-- LOST with progress 0 (R152). -/
def State.loseUplink (s : State) : State := { s with upc.state := .lost, upc.progress := 0 }

/-- HELLO is handed to the send queue, or held while the link is down, in place of one held before (R171). -/
def State.hello (k : ResetKind) (s : State) : State :=
  let h : Hello := { part := s.upc.part, selfTest := s.upc.selfTest, kind := k, clock := s.clock }
  if s.upc.linkUp then s.handOver (.hello h) else { s with upc.heldHello := some h }

/-! ### SERVICE RESET taking effect (R168, and each chapter's own statement) -/

/-- A till after a service reset (R20). -/
def Till.serviceReset (t : Till) : Till := { t with present := true, misses := 0, notices := [], lost := false }

/-- A line after a service reset (R20, R34). -/
def TillLine.serviceReset (l : TillLine) : TillLine :=
  { l with ringPos := none, roundPos := none, round := 0, walkPos := none, call := none,
           tills := mapAll Till.serviceReset l.tills }

/-- A stand after a service reset (R11). -/
def Stand.serviceReset (d : Stand) : Stand := { d with state := .unopened, pickup := 1, closing := none }

/-- A station after a service reset (R13, R101, R117). -/
def Station.serviceReset (t : Station) : Station :=
  { t with diverting := false, voidQ := [], normalQ := [], shown := [], recallL := [] }

/-- The port of a loaded station after a service reset (R125). -/
def Port.serviceReset (p : Port) : Port :=
  if p.link = .off then { Port.reset with link := .off } else { Port.reset with probe := some 0 }

/-- A frame in progress: the slot is SENDING and its frame has not ended (R124, R130). -/
def OutSlot.inProgress (x : OutSlot) : Bool := !x.ended

/-- The slot of a port. -/
def Port.slot (p : Port) : Slot → Option OutSlot
  | .a => p.slotA
  | .b => p.slotB

/-- A frame is being sent on the port (R130). -/
def Port.sending (p : Port) : Bool := p.slotA.any OutSlot.inProgress || p.slotB.any OutSlot.inProgress

/-- What a port puts on its wire at a service reset: a frame in progress is cut off, and a station that is not OFF
receives a PROBE (R125). -/
def resetOutputs (stations : Vector Station 8) (ports : Vector Port 8) (st : StationId) : List Output :=
  if stations[st].cfg.loaded then
    (if ports[st].sending then [.ticketCut st] else [])
      ++ if ports[st].link = .off then [] else [.probe st (probeFrame st)]
  else []

/-- The port of an unloaded station has nothing to reset (R125). -/
def resetPorts (stations : Vector Station 8) (ports : Vector Port 8) : Vector Port 8 :=
  ⟨⟨allStations.map fun st => if stations[st].cfg.loaded then ports[st].serviceReset else ports[st]⟩, by
    simp [allStations]⟩

/-- SERVICE RESET as one step across every block; forced, it discards the journal too (R168, R140, R143). DESIGN
CHOICE: an AUTH ANSWER offered to the Check Engine and not yet taken is dropped with no event (log 45). -/
def State.serviceReset (force : Bool) (s : State) : State :=
  { s with
    out := s.out ++ allStations.flatMap (resetOutputs s.kr.stations s.ports)
    lines := mapAll TillLine.serviceReset s.lines
    intake := { s.intake with slips := [], paused := false }
    ce := { s.ce with stands := mapAll Stand.serviceReset s.ce.stands, checks := [], backlog := [],
                      tryOffered := false, answers := [] }
    tu := { s.tu with live := [], expired := [] }
    kr := { s.kr with stations := mapAll Station.serviceReset s.kr.stations, tickets := [], completions := [],
                      recalls := [],
                      clearance := Vector.replicate 16 { requested := false, reported := false } }
    ports := resetPorts s.kr.stations s.ports
    sj := if force then { s.sj with records := [], reservations := 0, low := false } else s.sj }

/-! ### Running control envelopes (9.4) -/

/-- Hand over a REPLY (R158). -/
def State.reply (r : Result) (bs : List ReplyBlock) (s : State) : State := s.handOver (.reply r bs)

/-- The end of an envelope: its REPLY is handed over; then a SERVICE RESET that it carried takes effect, and HELLO
follows (R158, R168). -/
def State.endEnvelope (r : Run) (s : State) : State :=
  let s' := ({ s with upc.run := none } : State).reply .ok r.replies
  match r.reset with
  | none => s'
  | some force => (s'.serviceReset force).hello (if force then .serviceForced else .service)

/-- A block answered without its owner: NOT_RUN while blocks are skipped, and in FAILED, where only READ STATUS is
run (R156). -/
def State.skips (s : State) (r : Run) (op : ControlOp) : Bool :=
  decide (s.upc.part = .failed) && decide (op ≠ .readStatus) ||
  decide (s.upc.part ≠ .failed) && r.skip

/-- An envelope that starts to run (R155, R156). -/
def Waiting.start (x : Waiting) : Run :=
  { blocks := x.blocks, linked := x.linked, replies := [], skip := false, reset := none }

/-- What the UPC does by itself with the head of the control queue, if anything: start a waiting envelope, answer a
malformed or skipped block, or end the envelope (R155 to R158). -/
def State.settleStep (s : State) : Option State :=
  match s.upc.run with
  | none =>
    match s.upc.waiting with
    | [] => none
    | x :: rest => some { s with upc.waiting := rest, upc.run := some x.start }
  | some r =>
    match r.blocks with
    | [] => some (s.endEnvelope r)
    | .bad tag cmd :: _ =>
      some { s with upc.run := some { r with
        blocks := [], replies := r.replies ++ [{ cmd := cmd, tag := tag, result := .malformed, operands := [] }] } }
    | .good tag _ op :: rest =>
      if s.skips r op then
        some { s with upc.run := some { r with
          blocks := rest,
          replies := r.replies ++ [{ cmd := some op.code, tag := tag, result := .notRun, operands := [] }] } }
      else none

/-- The UPC goes on by itself until the next block needs its owner, or nothing is left. -/
def State.settleFor : Nat → State → State
  | 0, s => s
  | n + 1, s =>
    match s.settleStep with
    | none => s
    | some s' => s'.settleFor n

/-- Enough steps for all the blocks and envelopes of the control queue. -/
def State.settleFuel (s : State) : Nat :=
  (match s.upc.run with | none => 0 | some r => r.blocks.length + 2)
    + (s.upc.waiting.map fun x => x.blocks.length + 2).sum

/-- Settle the control queue. -/
def State.settle (s : State) : State := s.settleFor s.settleFuel

/-- A block has failed when its result is anything other than OK or ACCEPTED (R156). -/
def Result.fails (r : Result) : Bool := decide (r ≠ .ok) && decide (r ≠ .accepted)

/-- The reply of an owner: the result and the result operands (R156). -/
structure BlockReply where
  result   : Result
  operands : List Field := []
  deriving DecidableEq, Repr

/-- The head block has been carried out: its reply block joins the others, stop-on-error comes into force when it
failed, and the UPC goes on (R156). -/
def State.finishBlock (b : BlockReply) (s : State) : State :=
  match s.upc.run with
  | some r =>
    match r.blocks with
    | .good tag stop op :: rest =>
      let r' : Run := { r with
        blocks := rest,
        replies := r.replies ++ [{ cmd := some op.code, tag := tag, result := b.result, operands := b.operands }],
        skip := r.skip || (stop && b.result.fails) }
      ({ s with upc.run := some r' } : State).settle
    | _ => s
  | none => s

/-- The block that its owner may carry out now: the head of the running envelope, while no drain burst is running
(R156). -/
def State.nextBlock (s : State) : Option (Nat × ControlOp) :=
  if s.sj.burst.isSome then none
  else match s.upc.run with
    | some r =>
      match r.blocks with
      | .good tag _ op :: _ =>
        if s.skips r op then none
        else if s.upc.part = .starting then none
        else some (tag, op)
      | _ => none
    | none => none

/-- Carry out the head block when it is the wanted command: its owner's work, its result and the rest of the envelope
as far as the UPC goes by itself. Otherwise nothing happens (log 1, log 2). -/
def State.block (run : ControlOp → Option (State → BlockReply × State)) (s : State) : State :=
  match s.nextBlock with
  | some (_, op) =>
    match run op with
    | some f => (f s).2.finishBlock (f s).1
    | none => s
  | none => s

/-- A block that is one piece of work. -/
def asWork (f : Work → BlockReply × Work) (s : State) : BlockReply × State :=
  ((f s.work).1, s.commit (f s.work).2)

/-- BAD_VALUE that names a failing field by its position among the operands (R178, R179). -/
def BlockReply.badField (n : Nat) : BlockReply := { result := .badValue, operands := [.index (some n)] }

/-- BAD_VALUE with no operands. -/
def BlockReply.bad : BlockReply := { result := .badValue }

/-- A CONTROL envelope joins the control queue, one running and up to four waiting, or is declined with a BUSY reply
(R155). -/
def State.queueControl (bs : List Block) (s : State) : State :=
  let x : Waiting := { blocks := bs, linked := s.upc.linkUp }
  if s.upc.run = none ∧ s.upc.waiting = [] then ({ s with upc.run := some x.start } : State).settle
  else if s.upc.waiting.length < 4 then { s with upc.waiting := s.upc.waiting ++ [x] }
  else s.reply .busy []

end Sys2Proof.Machine
end

