-- ==== Sys2Proof/Machine/Tickets.lean ====
section
/-! DEFINITION. What the Kitchen Router does with tickets (chapter 6), as operations that the families share: places
and counts, targets and firings, voids, recall lists, assemblies, and a station going down. -/
namespace Sys2Proof.Machine

/-! ### Parts of a piece of work -/

def Work.station (w : Work) (st : StationId) : Station := w.kr.stations[st]
def Work.port (w : Work) (st : StationId) : Port := w.ports[st]
def Work.stand (w : Work) (sd : StandId) : Stand := w.ce.stands[sd]

def Work.onStation (st : StationId) (f : Station → Station) (w : Work) : Work :=
  { w with kr.stations := modify w.kr.stations st f }

def Work.onPort (st : StationId) (f : Port → Port) (w : Work) : Work := { w with ports := modify w.ports st f }

def Work.onStand (sd : StandId) (f : Stand → Stand) (w : Work) : Work :=
  { w with ce.stands := modify w.ce.stands sd f }

def Work.ticket? (n : Nat) (w : Work) : Option Ticket := lookupBy Ticket.number n w.kr.tickets

def Work.putTicket (t : Ticket) (w : Work) : Work := { w with kr.tickets := putBy Ticket.number t w.kr.tickets }

def Work.onTicket (n : Nat) (f : Ticket → Ticket) (w : Work) : Work :=
  { w with kr.tickets := mapBy Ticket.number n f w.kr.tickets }

def Work.check? (n : Nat) (w : Work) : Option Check := lookupBy Check.number n w.ce.checks

def Work.onCheck (n : Nat) (f : Check → Check) (w : Work) : Work :=
  { w with ce.checks := mapBy Check.number n f w.ce.checks }

/-- Change the lines of a check that a test picks. -/
def Check.onLines (pick : Line → Bool) (f : Line → Line) (c : Check) : Check :=
  { c with lines := c.lines.map fun l => if pick l then f l else l }

/-! ### Counts -/

/-- The load of a station: its live tickets other than those in its recall list (R103). -/
def Work.load (w : Work) (st : StationId) : Nat :=
  (w.kr.tickets.filter fun t => decide (t.station = st) && decide (t.state ≠ .bumped)).length

/-- The number of occupied out slots. -/
def Port.occupied (p : Port) : Nat := p.slotA.toList.length + p.slotB.toList.length

/-- The backlog of a station: its queue and its occupied out slots (R119). -/
def Work.backlog (w : Work) (st : StationId) : Nat :=
  (w.station st).voidQ.length + (w.station st).normalQ.length + (w.port st).occupied

/-- The stand's count: its live tickets other than BUMPED ones (R121). -/
def Work.standCount (w : Work) (sd : StandId) : Nat :=
  (w.kr.tickets.filter fun t => decide (t.stand = sd) && decide (t.state ≠ .bumped)).length

/-- The largest load of a station (R103). -/
def loadSize : Nat := 128

/-- The size of the Ticket Store, and how much of it NORMAL and ASSEMBLY tickets may fill (R101). -/
def storeSize : Nat := 1024
def storeForWork : Nat := 992

/-! ### What the Router tells the Check Engine -/

/-- The Router offers a try of the Fire Backlog (R108). -/
def Work.offerTry (w : Work) : Work := { w with ce.tryOffered := true }

/-- Compare a station's backlog with its levels (R17, R119). -/
def Work.divertTest (st : StationId) (w : Work) : Work :=
  let b := w.backlog st
  let d := (w.station st).divertsAt b
  if d = (w.station st).diverting then w
  else (w.onStation st fun s => { s with diverting := d }).raise (if d then .divertOn st b else .divertOff st b)

/-- Report the moment the stand's count falls to 0 while a request is in force (R121). -/
def Work.noteClear (sd : StandId) (before : Nat) (w : Work) : Work :=
  if 0 < before ∧ w.standCount sd = 0 ∧ w.kr.clearance[sd].requested then
    { w with kr.clearance := modify w.kr.clearance sd fun c => { c with reported := true } }
  else w

/-- Do something to a stand's tickets, and report its count falling to 0 (R121). -/
def Work.watching (sd : StandId) (f : Work → Work) (w : Work) : Work := (f w).noteClear sd (w.standCount sd)

/-- The offers that name a ticket are made void (R110, R118, R122). Log 24. -/
def Work.dropOffers (n : Nat) (w : Work) : Work :=
  { w with kr.completions := w.kr.completions.filter (fun o => o.ticket != n),
           kr.recalls := w.kr.recalls.filter (fun o => o.ticket != n) }

/-! ### Places (R103) -/

/-- Empty the slot that holds a ticket; its taken timer stops with it. -/
def Port.emptySlot (n : Nat) (p : Port) : Port :=
  { p with slotA := if p.slotA.any (fun x => x.ticket == n) then none else p.slotA,
           slotB := if p.slotB.any (fun x => x.ticket == n) then none else p.slotB }

/-- The ticket's frame is on the wire. -/
def Port.sendingTicket (n : Nat) (p : Port) : Bool :=
  p.slotA.any (fun x => x.ticket == n && x.inProgress) || p.slotB.any (fun x => x.ticket == n && x.inProgress)

/-- Take a ticket from wherever it stands at a station; a frame that carries it is cut off (R101, R167). -/
def Work.unplace (n : Nat) (st : StationId) (w : Work) : Work :=
  let w := if (w.port st).sendingTicket n then w.emit (.output (.ticketCut st)) else w
  (w.onPort st (Port.emptySlot n)).onStation st fun s =>
    { s with voidQ := s.voidQ.filter (· != n), normalQ := s.normalQ.filter (· != n),
             shown := s.shown.filter (· != n), recallL := s.recallL.filter (· != n) }

/-- Free a ticket (R101), its station's backlog not yet compared with its levels. -/
def Work.freeRaw (n : Nat) (w : Work) : Work :=
  match w.ticket? n with
  | none => w
  | some t =>
    w.watching t.stand fun w =>
      let w := (w.unplace n t.station).dropOffers n
      { w with kr.tickets := eraseBy Ticket.number n w.kr.tickets }.offerTry

/-- Free a ticket (R101, R119). -/
def Work.freeTicket (n : Nat) (w : Work) : Work :=
  match w.ticket? n with
  | none => w
  | some t => (w.freeRaw n).divertTest t.station

/-- A ticket joins the tail of the second part of its station's queue (R103). -/
def Work.queueNormal (n : Nat) (st : StationId) (w : Work) : Work :=
  ((w.onTicket n fun t => { t with state := .queued }).onStation st fun s =>
    { s with normalQ := s.normalQ ++ [n] }).divertTest st

/-- A VOID ticket joins the tail of the first part of its station's queue (R103). -/
def Work.queueVoid (n : Nat) (st : StationId) (w : Work) : Work :=
  ((w.onTicket n fun t => { t with state := .queued }).onStation st fun s =>
    { s with voidQ := s.voidQ ++ [n] }).divertTest st

/-- A ticket becomes SHOWN at its station, in whatever place it stood (R103, R109, R118). -/
def Work.show (n : Nat) (st : StationId) (w : Work) : Work :=
  ((w.unplace n st).onTicket n fun t => { t with state := .shown }).onStation st fun s =>
    { s with shown := s.shown ++ [n] }

/-- The size of a recall list (R117). -/
def recallSize : Nat := 8

/-- A ticket that was SHOWN enters the recall list at the front; a full list frees its oldest first (R117). -/
def Work.enterRecall (n : Nat) (t : Ticket) (w : Work) : Work :=
  w.watching t.stand fun w =>
    let old := (w.station t.station).recallL
    let w := if recallSize ≤ old.length then
        match old.getLast? with
        | some o => w.freeRaw o
        | none => w
      else w
    ((((w.unplace n t.station).dropOffers n).onTicket n fun t => { t with state := .bumped }).onStation t.station
      fun s => { s with recallL := (n :: s.recallL).take recallSize }).offerTry

/-! ### Numbers and firings (R102, R104 to R106) -/

/-- The next free ticket number (R102). -/
def Work.takeNumber (w : Work) : Nat × Work :=
  let n := nextFree 65535 (w.kr.tickets.map Ticket.number) w.kr.tickets.length w.kr.ticketCtr
  (n, { w with kr.ticketCtr := wrapNext 65535 n })

/-- The next `k` free ticket numbers (R102). -/
def Work.takeNumbers : Nat → Work → List Nat × Work
  | 0, w => ([], w)
  | k + 1, w =>
    let (n, w) := w.takeNumber
    let (ns, w) := Work.takeNumbers k w
    (n :: ns, w)

/-- A station is open for a line when its link is UP and its divert state is NORMAL (R104). -/
def Work.openFor (w : Work) (st : StationId) : Bool :=
  decide ((w.port st).link = .up) && !(w.station st).diverting

/-- The target of a line: its primary when open, else its overflow when it has one and that is open, else its primary
(R104). -/
def Work.target (w : Work) (l : Line) : StationId :=
  if w.openFor l.primary then l.primary
  else match l.overflow with
    | some o => if w.openFor o then o else l.primary
    | none => l.primary

/-- The tickets a firing would make (R105): the lines by target station, in ascending station order, and the lines of
the ASSEMBLY with its expo station. -/
structure Plan where
  normals  : List (StationId × List Line)
  assembly : Option (StationId × List Line)
  deriving DecidableEq, Repr

/-- R105, steps 1 and 2. -/
def Work.plan (w : Work) (c : Check) (ls : List Line) : Plan :=
  { normals := allStations.filterMap fun st =>
      match ls.filter fun l => decide (w.target l = st) with
      | [] => none
      | g => some (st, g)
    assembly :=
      match (w.stand c.stand).expo with
      | none => none
      | some x =>
        match ls.filter Line.expo with
        | [] => none
        | g => some (x, g) }

/-- The number of tickets of a plan. -/
def Plan.size (p : Plan) : Nat := p.normals.length + p.assembly.toList.length

/-- The stations a plan addresses. -/
def Plan.stations (p : Plan) : List StationId := p.normals.map Prod.fst ++ (p.assembly.map Prod.fst).toList

/-- The whole set of tickets has room (R106). -/
def Work.hasRoom (w : Work) (p : Plan) : Bool :=
  decide (w.kr.tickets.length + p.size ≤ storeForWork) && p.stations.all fun st => decide (w.load st < loadSize)

/-- The entry of a line on a ticket (6.1). -/
def Line.entry (l : Line) : TicketEntry :=
  { line := some l.index, item := l.item, qty := l.qty, mods := l.mods, voided := false }

/-- One NORMAL ticket of a firing, queued, and its lines FIRED (R105, R47). `asm` is the ASSEMBLY's number with its
line indices. -/
def Work.makeNormal (c : Check) (asm : Option (Nat × List Nat)) (n : Nat) (st : StationId) (g : List Line)
    (w : Work) : Work :=
  let asmOf (l : Line) : Option Nat :=
    match asm with
    | some (a, ls) => if l.index ∈ ls then some a else none
    | none => none
  let t : Ticket :=
    { number := n, kind := .normal, remake := false, station := st, check := some c.number, stand := c.stand,
      pickup := c.pickup, fired := w.now.secs, entries := g.map Line.entry, state := .queued, wait := 0,
      assembly := (g.filterMap asmOf).head?, original := none }
  ((w.putTicket t).queueNormal n st).onCheck c.number
    (Check.onLines (fun l => decide (l.index ∈ g.map Line.index)) fun l =>
      { l with state := .fired, ticket := some n, assembly := (asmOf l).or l.assembly })

/-- The ASSEMBLY ticket of a firing, WAITING (R105). -/
def Work.makeAssembly (c : Check) (n components : Nat) (x : StationId) (g : List Line) (w : Work) : Work :=
  w.putTicket
    { number := n, kind := .assembly, remake := false, station := x, check := some c.number, stand := c.stand,
      pickup := c.pickup, fired := w.now.secs, entries := g.map Line.entry, state := .waiting, wait := components,
      assembly := none, original := none }

/-- Make the tickets of a plan: numbers to the NORMAL tickets in ascending station order and then to the ASSEMBLY
(R105). DESIGN CHOICE: the NORMAL tickets join their queues in that order too (log 46). -/
def Work.makeTickets (c : Check) (p : Plan) (w : Work) : Work :=
  let (ns, w) := w.takeNumbers p.size
  let asmLines := match p.assembly with | some (_, g) => g.map Line.index | none => []
  let asm : Option (Nat × List Nat) := p.assembly.bind fun _ => ns.getLast?.map fun a => (a, asmLines)
  let w := (ns.zip p.normals).foldl (fun w x => w.makeNormal c asm x.1 x.2.1 x.2.2) w
  match p.assembly, asm with
  | some (x, g), some (a, ls) =>
    w.makeAssembly c a (p.normals.countP fun q => q.2.any fun l => decide (l.index ∈ ls)) x g
  | _, _ => w

/-! ### The Fire Backlog (6.3) -/

/-- Insert a line index in ascending order. -/
def insertIndex (i : Nat) : List Nat → List Nat
  | [] => [i]
  | j :: js => if i < j then i :: j :: js else if i = j then j :: js else j :: insertIndex i js

/-- A firing joins its check's entry, or a new entry at the tail (R107). -/
def joinBacklog (n : Nat) (ls : List Nat) (bl : List Firing) : List Firing :=
  if bl.any (fun f => f.check == n) then
    bl.map fun f => if f.check == n then { f with lines := ls.foldr insertIndex f.lines } else f
  else bl ++ [{ check := n, lines := ls }]

/-- Fire lines of a check: they become FIRING and are made into tickets when the Fire Backlog is empty and the set has
room, or join the backlog (R45, R106, R107). No line makes no firing (R75). -/
def Work.fire (n : Nat) (ls : List Nat) (w : Work) : Work :=
  if ls = [] then w
  else
    let w := w.onCheck n (Check.onLines (fun l => decide (l.index ∈ ls)) fun l => { l with state := .firing })
    match w.check? n with
    | none => w
    | some c =>
      let p := w.plan c (c.lines.filter fun l => decide (l.index ∈ ls))
      if w.ce.backlog = [] ∧ w.hasRoom p then w.makeTickets c p
      else { w with ce.backlog := joinBacklog n ls w.ce.backlog }

/-- A try of the Fire Backlog: the head entry is made into tickets while it has room (R108). -/
def Work.tryBacklogFor : Nat → Work → Work
  | 0, w => w
  | k + 1, w =>
    match w.ce.backlog with
    | [] => w
    | f :: rest =>
      match w.check? f.check with
      | none => w
      | some c =>
        let p := w.plan c (c.lines.filter fun l => decide (l.index ∈ f.lines))
        if w.hasRoom p then Work.tryBacklogFor k ({ w with ce.backlog := rest }.makeTickets c p) else w

/-- A try of the Fire Backlog (R108). -/
def Work.tryBacklog (w : Work) : Work := w.tryBacklogFor w.ce.backlog.length

/-- Take lines of a check out of the Fire Backlog; when its head entry leaves, the backlog is tried from its new head
(R49, R51). -/
def Work.dropFromBacklog (n : Nat) (out : Nat → Bool) (w : Work) : Work :=
  let cutF := fun (f : Firing) => if f.check == n then { f with lines := f.lines.filter fun i => !out i } else f
  let bl := (w.ce.backlog.map cutF).filter fun f => !f.lines.isEmpty
  let headLeft := match w.ce.backlog with
    | f :: _ => f.check == n && (cutF f).lines.isEmpty
    | [] => false
  let w := { w with ce.backlog := bl }
  if headLeft then w.tryBacklog else w

/-! ### Assemblies (R112) -/

/-- The ticket is linked (R110). -/
def Ticket.linked (t : Ticket) : Bool :=
  decide (t.kind ≠ .void) && t.check.isSome && !t.remake

/-- The entry names a line, unmarked. -/
def Ticket.names (t : Ticket) (i : Nat) : Bool := t.entries.any fun e => e.line == some i && !e.voided

/-- The lines a ticket names, unmarked. -/
def Ticket.unmarked (t : Ticket) : List Nat := (t.entries.filter fun e => !e.voided).filterMap TicketEntry.line

/-- The ticket is a component of an ASSEMBLY: a NORMAL ticket of the same check that names it (6.1, R105). A ticket of
another check may hold the number from an ASSEMBLY that is gone (R102). -/
def Ticket.partOf (t a : Ticket) : Bool :=
  decide (t.kind = .normal) && decide (t.assembly = some a.number) && decide (t.check = a.check)

/-- A component that the ASSEMBLY still waits for: it has not completed and still names one of its unvoided lines
(R112). Log 23. -/
def Ticket.holdsBack (a t : Ticket) : Bool :=
  t.partOf a && decide (t.state ≠ .bumped) && t.unmarked.any a.names

/-- The wait count of an ASSEMBLY, a ticket that is just completing not counted (R111, R112). -/
def Work.waitOf (w : Work) (completing : Option Nat) (a : Ticket) : Nat :=
  w.kr.tickets.countP fun t => a.holdsBack t && decide (some t.number ≠ completing)

/-- A component loses its reference to a freed ASSEMBLY (R115). -/
def Ticket.forget (a t : Ticket) : Ticket := if t.partOf a then { t with assembly := none } else t

/-- Settle an ASSEMBLY after its components or its entries have changed: its wait count; freed when it has no entry;
queued at its expo station when it was WAITING and waits for nothing (R112, R115). -/
def Work.settleAssembly (completing : Option Nat) (n : Nat) (w : Work) : Work :=
  match w.ticket? n with
  | some a =>
    if a.kind = .assembly ∧ (a.state = .waiting ∨ a.state = .queued) then
      if a.entries = [] then
        { w with kr.tickets := w.kr.tickets.map (Ticket.forget a) }.freeTicket n
      else
        let w' := w.onTicket n fun t => { t with wait := w.waitOf completing a }
        if a.state = .waiting ∧ w.waitOf completing a = 0 then w'.queueNormal n a.station else w'
    else w
  | none => w

/-! ### Voids in the kitchen (6.5) -/

/-- The ticket is out at its station: SENDING or SHOWN (R113). -/
def Ticket.isOut (t : Ticket) : Bool := decide (t.state = .sending) || decide (t.state = .shown)

/-- The live NORMAL ticket that last carried a line of a check. -/
def Work.normalOf (w : Work) (c : Check) (l : Line) : Option Ticket :=
  (l.ticket.bind fun n => w.ticket? n).filter fun t => decide (t.kind = .normal) && decide (t.check = some c.number)

/-- The live ASSEMBLY ticket that gathers a line of a check and has not completed. -/
def Work.assemblyOf (w : Work) (c : Check) (l : Line) : Option Ticket :=
  (l.assembly.bind fun n => w.ticket? n).filter fun t =>
    decide (t.kind = .assembly) && decide (t.check = some c.number) && decide (t.state ≠ .bumped)

/-- Where the void of a line must be told to a station: the station, the ticket out there, the line (R113). -/
def Work.cancels (w : Work) (c : Check) (l : Line) : List (StationId × Nat × Line) :=
  (((if l.state = .fired then w.normalOf c l else none).filter Ticket.isOut).toList
    ++ ((w.assemblyOf c l).filter Ticket.isOut).toList).map fun t => (t.station, t.number, l)

/-- The stations that need a VOID ticket for an event, in ascending order (R113). -/
def cancelStations (cs : List (StationId × Nat × Line)) : List StationId :=
  allStations.filter fun st => cs.any fun x => decide (x.1 = st)

/-- Remove a line's entry. -/
def Ticket.dropLine (i : Nat) (t : Ticket) : Ticket :=
  { t with entries := t.entries.filter fun e => e.line != some i }

/-- Set the voided mark of a line's entry. -/
def Ticket.markLine (i : Nat) (t : Ticket) : Ticket :=
  { t with entries := t.entries.map fun e => if e.line == some i then { e with voided := true } else e }

/-- The void of one line on its NORMAL ticket (R114), and on a completed component in a recall list (R115). -/
def Work.voidOnNormal (c : Check) (l : Line) (w : Work) : Work :=
  match w.normalOf c l with
  | none => w
  | some t =>
    match t.state with
    | .queued =>
      if (t.dropLine l.index).entries = [] then w.freeTicket t.number else w.putTicket (t.dropLine l.index)
    | .sending | .shown | .bumped => w.putTicket (t.markLine l.index)
    | .waiting => w

/-- The void of one line on its ASSEMBLY (R115). -/
def Work.voidOnAssembly (c : Check) (l : Line) (w : Work) : Work :=
  match w.assemblyOf c l with
  | none => w
  | some a => w.putTicket (if a.isOut then a.markLine l.index else a.dropLine l.index)

/-- A VOID ticket for a station (R116). -/
def Work.makeVoid (c : Check) (cs : List (StationId × Nat × Line)) (st : StationId) (w : Work) : Work :=
  let here := cs.filter fun x => decide (x.1 = st)
  let (n, w) := w.takeNumber
  (w.putTicket
    { number := n, kind := .void, remake := false, station := st, check := some c.number, stand := c.stand,
      pickup := c.pickup, fired := w.now.secs,
      entries := here.map fun x => { x.2.2.entry with voided := true },
      state := .queued, wait := 0, assembly := none, original := here.head?.map fun x => x.2.1 }).queueVoid n st

/-- The Router's void path: one void event over FIRED and COOKED lines of a check; none: KITCHEN_FULL, and nothing
changes (R113 to R116). DESIGN CHOICE: the lines are applied in order, in ascending index as a check holds them, each on
its NORMAL ticket and then on its ASSEMBLY; the ASSEMBLYs that the event touches are settled in ascending ticket number;
the VOID tickets join their queues in ascending station order (log 46). -/
def Work.kitchenVoid (c : Check) (ls : List Line) (w : Work) : Option Work :=
  let cs := ls.flatMap (w.cancels c)
  let sts := cancelStations cs
  if sts = [] ∨ (w.kr.tickets.length + sts.length ≤ storeSize ∧ ∀ st ∈ sts, w.load st < loadSize) then
    let touched := (ls.filterMap fun l => (w.assemblyOf c l).map Ticket.number).foldr insertIndex []
    let w := ls.foldl (fun w l => (w.voidOnNormal c l).voidOnAssembly c l) w
    let w := touched.foldl (fun w n => w.settleAssembly none n) w
    some (sts.foldl (fun w st => w.makeVoid c cs st) w)
  else none

/-! ### A station going down (R122) -/

/-- The SENDING tickets of a port in the order they were taken into their slots: while both slots are occupied, the
next-slot mark names the older. -/
def Port.sendingOrder (p : Port) : List Nat :=
  let ts := fun (x : Slot) => ((p.slot x).map OutSlot.ticket).toList
  match p.mark with
  | .a => ts .a ++ ts .b
  | .b => ts .b ++ ts .a

/-- R122, step 1 and the slots of step 2: the SHOWN and then the SENDING tickets become QUEUED at the queue front, and
the completion offers for them are made void. -/
def Work.revert (st : StationId) (w : Work) : Work :=
  let back := (w.station st).shown ++ (w.port st).sendingOrder
  let w := back.foldl (fun w n =>
    (w.onTicket n fun t => { t with state := .queued }).dropOffers n) w
  (w.onPort st fun p => { p with slotA := none, slotB := none }).onStation st fun s =>
    { s with shown := [], normalQ := back ++ s.normalQ }

/-- R122, steps 2 and 3: the tickets of the recall list and every VOID ticket of the queue are freed. -/
def Work.clearDown (st : StationId) (w : Work) : Work :=
  let s := w.station st
  let voids := s.normalQ.filter fun n => (w.ticket? n).any fun t => decide (t.kind = .void)
  (s.recallL ++ voids ++ s.voidQ).foldl (fun w n => w.freeRaw n) w

/-- R122, step 4: the queue moves to an UP fallback as far as it fits. -/
def Work.moveToFallback (st : StationId) (w : Work) : Nat × Work :=
  match (w.station st).cfg.fallback with
  | none => (0, w)
  | some f =>
    if (w.port f).link = .up then
      let moved := (w.station st).normalQ.take (loadSize - w.load f)
      let w' := (w.onStation st fun s => { s with normalQ := s.normalQ.drop moved.length }).onStation f
        fun s => { s with normalQ := s.normalQ ++ moved }
      let w' := { w' with kr.tickets := w'.kr.tickets.map fun t =>
        if t.number ∈ moved then { t with station := f } else t }
      (moved.length, if moved = [] then w' else w'.offerTry)
    else (0, w)

/-- The Router's part in a station's going down, as one step (R122); with it the number of tickets moved. DESIGN CHOICE:
of the two divert tests of step 5 the failed station's comes first, then its fallback's (log 46). -/
def Work.routerDown (st : StationId) (w : Work) : Nat × Work :=
  let (k, w) := ((w.revert st).clearDown st).moveToFallback st
  let w := w.divertTest st
  (k, match (w.station st).cfg.fallback with
    | some f => w.divertTest f
    | none => w)

/-- An UP station goes DOWN, or OFF: the steps of R128, with the events of R119 and R138. -/
def Work.goDown (st : StationId) (cause : DownCause) (w : Work) : Work :=
  let w := if (w.port st).sending then w.emit (.output (.ticketCut st)) else w
  let w := w.onPort st fun p => { p with hold := false, holdTimer := none }
  let (moved, w) := w.routerDown st
  let off := decide (cause = .off)
  let w := w.onPort st fun p =>
    { p with link := if off then .off else .down, lastDown := some cause, probe := if off then none else some 0 }
  let w := w.raise (.stationDown st cause (if cause = .fault then (w.port st).lastFault else none)
    (w.station st).cfg.fallback moved ((w.station st).voidQ.length + (w.station st).normalQ.length))
  if cause = .restart then w.emit (.output (.probe st (probeFrame st))) else w

end Sys2Proof.Machine
end

