-- ==== Sys2Proof/Machine/Checks.lean ====
section
/-! DEFINITION. What the Check Engine does with checks (chapters 3 to 5, and the close of a stand, 10.2), as
operations that the families share: stock, opening, dissolving, payment and release, READY and closure, voiding, the
settlement record, tenders, and the completion test of a close. -/
namespace Sys2Proof.Machine

/-! ### Stock (1.3) -/

def Work.item? (code : Nat) (w : Work) : Option Item := lookupBy Item.code code w.ce.items

/-- Set an item's stock count, with the event R10 calls for. -/
def Work.setStock (i : Item) (s : Stock) (w : Work) : Work :=
  ({ w with ce.items := putBy Item.code { i with stock := s } w.ce.items } : Work).raiseAll
    (stockEvents i.code i.stock s)

/-- The sum of the quantities of the lines that name an item (R8). -/
def qtyOf (code : Nat) (ls : List SlipLine) : Nat := ((ls.filter fun l => l.item == code).map SlipLine.qty).sum

/-- The item codes of a slip, in the order of their first appearance (R10, R44). -/
def codesOf (ls : List SlipLine) : List Nat := (ls.map SlipLine.item).foldl (fun cs c => if c ∈ cs then cs else cs ++ [c]) []

/-- The count of one item falls at acceptance (R8). -/
def Work.takeItem (ls : List SlipLine) (w : Work) (code : Nat) : Work :=
  match w.item? code with
  | some i =>
    match i.stock with
    | .count n => w.setStock i (.count (n - qtyOf code ls))
    | .uncounted => w
  | none => w

/-- The stock counts fall at acceptance (R8, R45). -/
def Work.takeStock (ls : List SlipLine) (w : Work) : Work := (codesOf ls).foldl (Work.takeItem ls) w

/-- A voided line's quantity returns, up to 65,535 (R8). -/
def Work.returnStock (w : Work) (l : Line) : Work :=
  match w.item? l.item with
  | some i =>
    match i.stock with
    | .count n => w.setStock i (.count (min 65535 (n + l.qty)))
    | .uncounted => w
  | none => w

/-! ### The settlement record and leaving the table (R51, R55, R56, R120) -/

/-- What a check's record holds, as the check stands (R56). -/
def Check.summary (c : Check) : CheckSummary :=
  { stand := c.stand, check := c.number, pickup := c.pickup, origin := c.origin, total := lineTotal c.lines,
    lines := c.lines.map fun l =>
      { item := l.item, qty := l.qty, price := l.price, voided := decide (l.state = .voided) },
    tenders := c.shares.flatMap fun s => s.tenders.map fun t => { share := s.index, tender := t } }

/-- A check leaves the Check Table, and the Router removes its number from its tickets (R51, R55, R120). -/
def Work.leaveTable (n : Nat) (w : Work) : Work :=
  { w with ce.checks := eraseBy Check.number n w.ce.checks,
           kr.tickets := w.kr.tickets.map fun t => if t.check = some n then { t with check := none } else t }

/-- The number of open checks of a stand. -/
def Work.openChecks (w : Work) (sd : StandId) : Nat := w.ce.checks.countP fun c => decide (c.stand = sd)

/-- The Check Engine's clearance request comes into force, or is withdrawn (R121). -/
def Work.request (sd : StandId) (b : Bool) (w : Work) : Work :=
  { w with kr.clearance := modify w.kr.clearance sd fun c => { c with requested := b } }

/-- The numbers of a stand's tickets that stand in recall lists. -/
def Work.recallTickets (w : Work) (sd : StandId) : List Nat :=
  (w.kr.tickets.filter fun t => decide (t.stand = sd) && decide (t.state = .bumped)).map Ticket.number

/-- The stand becomes CLOSED; its deadline, force flag and deadline timer are gone (R162, R165, R167). -/
def Stand.shut (d : Stand) : Stand := { d with state := .closed, closing := none }

/-- The completion test of a CLOSING stand, and the completion of the close when it is clear (R165). -/
def Work.closeTest (sd : StandId) (w : Work) : Work :=
  if (w.stand sd).state = .closing ∧ w.openChecks sd = 0 ∧ w.standCount sd = 0 then
    (((((w.recallTickets sd).foldl (fun w n => w.freeRaw n) w).request sd false).onStand sd Stand.shut).raise
      (.closeDone sd false 0 0))
  else w

/-- A check closes: its CHECK_CLOSED record, its leaving, and the completion test of a CLOSING stand (R55). -/
def Work.closeCheck (c : Check) (w : Work) : Work :=
  ((w.append (.checkClosed c.summary)).leaveTable c.number).closeTest c.stand

/-! ### READY and closure (R54, R55) -/

/-- What READY sends (R54). -/
def Check.readyEffects (c : Check) : List Effect :=
  match c.origin with
  | .remote ref => [.event (.ready ref c.number c.stand c.pickup)]
  | .till t => if c.notify then [.notice t (.ready c.number c.stand c.pickup)] else []

/-- READY is sent when the check is ready and READY-sent is clear (R54). -/
def Work.readyTest (n : Nat) (w : Work) : Work :=
  match w.check? n with
  | some c =>
    if c.ready ∧ c.readySent = false then
      c.readyEffects.foldl (fun w e => w.emit e) (w.onCheck n fun c => { c with readySent := true })
    else w
  | none => w

/-- A closable check closes (R55). -/
def Work.closureTest (n : Nat) (w : Work) : Work :=
  match w.check? n with
  | some c => if c.closable then w.closeCheck c else w
  | none => w

/-- After a change to a check's lines, or to PAID: READY first, then closure (R54, R55). -/
def Work.lineTests (n : Nat) (w : Work) : Work := (w.readyTest n).closureTest n

/-! ### Shares, payment and the fire-on-pay release (chapter 4) -/

/-- Some share of the check with this index is PAID. -/
def Check.sharePaid (c : Check) (i : Nat) : Bool := c.shares.any fun s => s.index == i && s.isPaid

/-- The lines a payment releases on a FIRE_ON_PAY stand: the HELD lines whose owner share is PAID, and, when no share
is unpaid, the HELD lines with no owner (R74, R75). -/
def Check.released (c : Check) : List Nat :=
  (c.lines.filter fun l => decide (l.state = .held) &&
    match l.owner with
    | some i => c.sharePaid i
    | none => c.shares.all Share.isPaid).map Line.index

/-- After the shares have changed: the check's state, the release of a FIRE_ON_PAY stand as one firing, then READY and
closure (R64, R74, R75). -/
def Work.payments (n : Nat) (w : Work) : Work :=
  let w := w.onCheck n fun c => { c with state := c.payState }
  match w.check? n with
  | some c =>
    let w := if (w.stand c.stand).policy = .fireOnPay then w.fire n c.released else w
    w.lineTests n
  | none => w

/-- Dissolve a check's shares to WHOLE over its present lines (R65). -/
def Check.dissolved (c : Check) : Check :=
  let total := lineTotal c.lines
  let share := Share.new 1 total
  { c with total := total, shares := [share], mode := .whole,
           lines := c.lines.map fun l => { l with owner := none },
           state := if share.isPaid then .paid else .opened }

/-- New lines of a check fire at once on a FIRE_ON_ORDER stand, and wait for a payment on a FIRE_ON_PAY stand; a check
that is PAID already releases them (R45, R46, R58, R65). -/
def Work.fireAccepted (c : Check) (new : List Nat) (w : Work) : Work :=
  match (w.stand c.stand).policy with
  | .fireOnOrder => (w.fire c.number new).lineTests c.number
  | .fireOnPay => w.payments c.number

/-- The lines of a slip, HELD, with their snapshots, numbered from `i` (R7, R45, R46). -/
def Work.newLines (w : Work) : Nat → List SlipLine → List Line
  | _, [] => []
  | i, l :: ls =>
    match w.item? l.item with
    | some it =>
      { index := i, item := l.item, qty := l.qty, mods := l.mods, price := it.price, primary := it.primary,
        overflow := it.overflow, expo := it.expo, owner := none, state := .held, ticket := none,
        assembly := none } :: w.newLines (i + 1) ls
    | none => w.newLines (i + 1) ls

/-! ### The tests of ORDER, ADD and remote orders (R44) -/

/-- Test 3: every item is in the Item Table; the slip position of the first that is not. -/
def Work.unknownAt (w : Work) : Nat → List SlipLine → Option Nat
  | _, [] => none
  | i, l :: ls => if (w.item? l.item).isNone then some i else w.unknownAt (i + 1) ls

/-- The item is counted and short of what the slip asks (R8). -/
def Work.short (w : Work) (ls : List SlipLine) (code : Nat) : Bool :=
  match (w.item? code).map Item.stock with
  | some (.count n) => decide (n < qtyOf code ls)
  | _ => false

/-- The slip position of the first line that names an item. -/
def firstNaming (code : Nat) : Nat → List SlipLine → Nat
  | i, [] => i
  | i, l :: ls => if l.item == code then i else firstNaming code (i + 1) ls

/-- Test 4: the slip position of the first line naming the first item found short. -/
def Work.shortAt (w : Work) (ls : List SlipLine) : Option Nat :=
  ((codesOf ls).find? fun c => w.short ls c).map fun c => firstNaming c 1 ls

/-- The sum of quantity × unit price at the Item Table's present prices (R44). -/
def Work.priceOf (w : Work) (ls : List SlipLine) : Nat :=
  (ls.map fun l => l.qty * ((w.item? l.item).map Item.price).getD 0).sum

/-- The largest amount (00, Money). -/
def maxAmount : Nat := 99999999

/-- Tests 3 to 6 of R44, with the number of line records and the total the check has already. -/
def Work.lineRefusal (w : Work) (have_ total : Nat) (ls : List SlipLine) : Option (Reason × Option Nat) :=
  match w.unknownAt 1 ls with
  | some i => some (.unknownItem, some i)
  | none =>
    match w.shortAt ls with
    | some i => some (.soldOut, some i)
    | none =>
      if 24 < have_ + ls.length then some (.tooManyLines, none)
      else if maxAmount < total + w.priceOf ls then some (.tooLarge, none)
      else none

/-- Test 1 of R44 for an ORDER or a remote order. -/
def Stand.refusal (d : Stand) : Option (Reason × Option Nat) :=
  match d.state with
  | .opened => none
  | .closing => some (.closed, none)
  | .unopened | .closed => some (.notOpen, none)

/-- The size of the Check Table (R38). -/
def tableSize : Nat := 512

/-! ### Opening a check (R40, R45) -/

/-- The next free check number (R40). -/
def Work.nextCheck (w : Work) : Nat :=
  nextFree 9999 (w.ce.checks.map Check.number) w.ce.checks.length w.ce.checkCtr

/-- The stand's next free pickup number (R40). -/
def Work.nextPickup (w : Work) (sd : StandId) : Nat :=
  nextFree 999 ((w.ce.checks.filter fun c => decide (c.stand = sd)).map Check.pickup) w.ce.checks.length
    (w.stand sd).pickup

/-- A new check over the lines of a slip, with one share for the whole total; `prepaid`: that share holds a PREPAID
tender for the whole of it (R45, R58, R79). -/
def newCheck (n : Nat) (sd : StandId) (o : Origin) (notify : Bool) (pickup : Nat) (ls : List Line) (prepaid : Bool) :
    Check :=
  let total := lineTotal ls
  let share : Share :=
    if prepaid ∧ 0 < total then
      { index := 1, due := total, tendered := total, state := .paid,
        tenders := [{ kind := .prepaid, amount := total, state := .approved, tag := none }] }
    else Share.new 1 total
  { number := n, stand := sd, origin := o, notify := notify, pickup := pickup,
    state := if share.isPaid then .paid else .opened, mode := .whole, total := total, readySent := false,
    lines := ls, shares := [share] }

/-- Open a check on an accepted ORDER or remote order: stock, numbers, the check, its firing (R45, R58). The answer's
check, with its numbers, comes with it. -/
def Work.openCheck (sd : StandId) (o : Origin) (notify : Bool) (ls : List SlipLine) (prepaid : Bool) (w : Work) :
    Check × Work :=
  let w := w.takeStock ls
  let n := w.nextCheck
  let p := w.nextPickup sd
  let c := newCheck n sd o notify p (w.newLines 1 ls) prepaid
  let w := { w with ce.checkCtr := wrapNext 9999 n, ce.checks := putBy Check.number c w.ce.checks }
  let w := w.onStand sd fun d => { d with pickup := wrapNext 999 p }
  (c, w.fireAccepted c (c.lines.map Line.index))

/-! ### Voiding a check (R51) -/

/-- The lines of a check that pass through the Router's void path: FIRED and COOKED (R50). -/
def Check.inKitchen (c : Check) : List Line :=
  c.lines.filter fun l => decide (l.state = .fired) || decide (l.state = .cooked)

/-- The lines a check void makes VOIDED: those not DONE or VOIDED (R51). -/
def Check.voidable (c : Check) : List Line :=
  c.lines.filter fun l => decide (l.state ≠ .done) && decide (l.state ≠ .voided)

/-- The tags of a check's PENDING card tenders (R51, R93). -/
def Check.pendingTags (c : Check) : List Nat :=
  (c.shares.flatMap Share.tenders).filterMap fun t => if t.state = .pending then t.tag else none

/-- The entries of PENDING tenders become orphan (R51, R93). -/
def Work.orphan (tags : List Nat) (w : Work) : Work :=
  { w with tu.live := w.tu.live.map fun e => if e.tag ∈ tags then { e with orphan := true } else e }

/-- Steps 2 to 7 of R51, but for the completion test of a CLOSING stand: the backlog entry, the lines and their stock,
the orphans, the total, the record, the leaving. With it the number of lines voided and the total as recomputed. -/
def Work.voidCheckRest (n : Nat) (why : VoidReason) (w : Work) : (Nat × Nat) × Work :=
  let w := w.dropFromBacklog n fun _ => true
  match w.check? n with
  | none => ((0, 0), w)
  | some c =>
    let gone := c.voidable
    let w := w.onCheck n (Check.onLines (fun l => decide (l.state ≠ .done)) fun l => { l with state := .voided })
    let w := gone.foldl Work.returnStock w
    let w := w.orphan c.pendingTags
    let w := w.onCheck n fun c => { c with total := lineTotal c.lines }
    match w.check? n with
    | none => ((0, 0), w)
    | some c' => ((gone.length, c'.total), (w.append (.checkVoided c'.summary why)).leaveTable n)

/-- A check void by a slip or a control block; none: KITCHEN_FULL (R50, R51, R61). -/
def Work.voidCheck (c : Check) (why : VoidReason) (w : Work) : Option ((Nat × Nat) × Work) :=
  match w.kitchenVoid c c.inKitchen with
  | none => none
  | some w =>
    let (r, w) := w.voidCheckRest c.number why
    some (r, w.closeTest c.stand)

/-! ### Tenders (chapter 5) -/

/-- Change the share of a check with an index. -/
def Check.onShare (i : Nat) (f : Share → Share) (c : Check) : Check :=
  { c with shares := mapBy Share.index i f c.shares }

/-- The share of a check with an index. -/
def Check.share? (c : Check) (i : Nat) : Option Share := lookupBy Share.index i c.shares

/-- The remaining due (R62). -/
def Share.remaining (s : Share) : Nat := s.due - s.tendered

/-- Add a tender whose amount counts at once, and test the share (R78, R82, R86). -/
def Share.credit (t : Tender) (s : Share) : Share :=
  ({ s with tendered := s.tendered + t.amount, tenders := s.tenders ++ [t] } : Share).tested

/-- A PENDING tender is added and the share is AUTHORIZING (R84). -/
def Share.authorize (t : Tender) (s : Share) : Share :=
  { s with tenders := s.tenders ++ [t], state := .authorizing }

/-- The PENDING tender with a tag leaves PENDING for a state that counts, and the share is tested (R78, R91, R94). -/
def Share.settle (tag amount : Nat) (st : TenderState) (s : Share) : Share :=
  ({ s with
      tendered := s.tendered + amount,
      tenders := s.tenders.map fun t =>
        if t.tag = some tag ∧ t.state = .pending then { t with state := st } else t } : Share).tested

/-- The PENDING tender with a tag is removed, and the share is tested (R91, R94). -/
def Share.unsettle (tag : Nat) (s : Share) : Share :=
  ({ s with tenders := s.tenders.filter fun t => !(decide (t.tag = some tag) && decide (t.state = .pending)) } :
    Share).tested

/-- The next free tag (R85). -/
def Work.takeTag (w : Work) : Nat × Work :=
  let held := w.tu.live.map AuthEntry.tag ++ w.tu.expired.map fun e => e.entry.tag
  let n := nextFree 65535 held held.length w.tu.tagCtr
  (n, { w with tu.tagCtr := wrapNext 65535 n })

/-- The AUTH notice of an entry, with the share as it stands (R92). -/
def Work.authNotice (e : AuthEntry) (o : AuthOutcome) (w : Work) : Option Effect :=
  ((w.check? e.check).bind fun c => c.share? e.share).map fun s =>
    .notice e.till (.auth e.tag e.check e.share e.amount o s.due s.tendered s.state)

/-- The outcome of an authorization on its share: the change, the payment it may be, then the AUTH notice (R91, R92,
R94). -/
def Work.applyOutcome (e : AuthEntry) (o : AuthOutcome) (f : Share → Share) (w : Work) : Work :=
  let w := w.onCheck e.check (Check.onShare e.share f)
  let note := w.authNotice e o
  let w := w.payments e.check
  note.toList.foldl (fun w x => w.emit x) w

end Sys2Proof.Machine
end

