-- ==== Sys2Proof/Machine/Journal.lean ====
section
/-! DEFINITION. DRAIN_JOURNAL, DRAIN_BURST_RECORD, SET_JOURNAL_WARNING (chapter 8). -/
namespace Sys2Proof.Machine

abbrev Step := Host.Outcome State Fault Refusal

/-- What the reply of a drain burst carries: the records sent, the number of the oldest record still in the journal or,
when there is none, the number the next appended record will carry, and the counts (R145). -/
def Journal.drainReply (j : Journal) (sent : Nat) : BlockReply :=
  { result := .ok,
    operands := [.count sent, .amount ((j.records.head?.map Record.number).getD j.recordCtr),
      .count j.records.length, .count j.reservations] }

/-- The burst ends and its block is complete (R145, R146). -/
def State.endBurst (s : State) : State :=
  match s.sj.burst with
  | none => s
  | some b => ({ s with sj.burst := none } : State).finishBlock (s.sj.drainReply b.sent)

/-- The head record leaves the journal as its JOURNAL envelope is handed to the port (R146, R147). -/
def State.drainRecord (b : Burst) (r : Record) (rest : List Record) (s : State) : State :=
  let s := s.handOver (.journal b.tag (b.sent + 1) r)
  { s with sj := ({ s.sj with
      records := rest, burst := some { b with sent := b.sent + 1, waiting := false } } : Journal).rise }

/-- One record of a drain burst: the link test, the empty test, room in the send queue, the record (R146, R148,
R151). -/
def State.burstStep (s : State) : State :=
  match s.sj.burst with
  | none => s
  | some b =>
    if s.upc.linkUp = false then s.endBurst
    else match s.sj.records with
      | [] => s.endBurst
      | r :: rest =>
        if s.upc.sendQueue.length < sendQueueSize then
          let s' := s.drainRecord b r rest
          if b.asked ≤ b.sent + 1 then s'.endBurst else s'
        else { s with sj.burst := some { b with waiting := true } }

/-- A burst that waits for room goes on (R151). -/
def State.resumeBurst (s : State) : State :=
  match s.sj.burst with
  | some b => if b.waiting then s.burstStep else s
  | none => s

/-- A block of the running envelope may send records now: the link is up, and was up when the envelope arrived (R148; log
49). -/
def State.mayDrain (s : State) : Bool := s.upc.linkUp && s.upc.run.all Run.linked

/-- DRAIN JOURNAL: a count of 1 to 64 begins a burst; one that finds the journal empty or may send nothing ends at once
(R145, R146, R148). -/
def State.drainBlock (s : State) : State :=
  match s.nextBlock with
  | some (tag, .drainJournal n) =>
    if n = 0 ∨ 64 < n then s.finishBlock .bad
    else
      let s' : State := { s with sj.burst := some { tag := tag, asked := n, sent := 0, waiting := false } }
      if s.mayDrain = false ∨ s.sj.records = [] then s'.endBurst else s'
  | _ => s

/-- DRAIN_JOURNAL (R145). -/
def execDrainJournal (s : State) : Step := .next s.drainBlock

/-- DRAIN_BURST_RECORD (R146). -/
def execDrainBurstRecord (s : State) : Step := .next s.burstStep

/-- SET JOURNAL WARNING (R144). -/
def setJournalWarning (level : Nat) (w : Work) : BlockReply × Work :=
  if level < 16 ∨ 1024 < level then (.bad, w)
  else
    let w := ({ w with sj.warnLevel := level } : Work).lowTest
    let w : Work := { w with sj := w.sj.rise }
    ({ result := .ok, operands := [.count level, .count w.sj.free, .flag w.sj.low] }, w)

/-- SET_JOURNAL_WARNING (R144). -/
def execSetJournalWarning (s : State) : Step :=
  .next (s.block fun
    | .setJournalWarning level => some (asWork (setJournalWarning level))
    | _ => none)

end Sys2Proof.Machine
end

