-- ==== Sys2Proof/Machine/Uplink.lean ====
section
/-! DEFINITION. The commands of the uplink port: the link, the silence timer, the send queue, and the five kinds of
envelope received (chapter 9, R57, R90, R96, R97). -/
namespace Sys2Proof.Machine

/-- ETHERNET_LINK_LOST: the uplink becomes LOST with progress 0, the send queue is discarded, and a drain burst ends
(R148, R151, R152). -/
def execEthernetLinkLost (s : State) : Step :=
  .next (({ s with upc.linkUp := false, upc.sendQueue := [] } : State).loseUplink.endBurst)

/-- ETHERNET_LINK_UP: the send queue starts empty and a held HELLO is handed over; the uplink state is unchanged (R151,
R152, R171). -/
def execEthernetLinkUp (s : State) : Step :=
  .next (if s.upc.linkUp then s
    else
      let s' : State := { s with upc.linkUp := true, upc.sendQueue := [], upc.heldHello := none }
      match s.upc.heldHello with
      | some h => s'.handOver (.hello h)
      | none => s')

/-- The silence timer has passed the silence limit (R152). -/
def Uplink.silent (u : Uplink) : Bool := u.silence.any fun t => decide (u.limit ≤ t)

/-- SILENCE_TIMEOUT: a RECOVERING or ONLINE uplink becomes LOST with progress 0; in LOST the expiry has no effect
(R152). -/
def execSilenceTimeout (s : State) : Step :=
  .next (if s.upc.silent ∧ s.upc.state ≠ .lost then s.loseUplink else s)

/-- ENVELOPE_SENT: the envelope on the wire has left it, and a burst waiting for room goes on (R151). -/
def execEnvelopeSent (s : State) : Step :=
  .next (match s.upc.sendQueue with
    | [] => s
    | e :: rest =>
      (({ s with upc.sendQueue := rest } : State).send (.envelope e.bytes)).resumeBurst)

/-- Take an envelope of one sort: it counts for silence supervision before its content is passed on. Any other frame,
and every frame while the part is STARTING, does nothing here (R149). -/
def State.takeEnvelope (want : Byte → Bool) (f : List Byte → State → State) (fr : EthFrame) (s : State) : State :=
  if s.upc.part = .starting then s
  else match readEnvelope fr with
    | some (k, content) => if want k then f content s.countEnvelope else s
    | none => s

/-- CONTROL: the envelope sets the reply address and joins the control queue, or is declined (R149, R150, R155). -/
def execControl (fr : EthFrame) (s : State) : Step :=
  .next (s.takeEnvelope (· == kindControl)
    (fun content s => ({ s with upc.replyAddr := fr.src } : State).queueControl (readBlocks maxBlocks content)) fr)

/-- Offer a remote order to the intake, or answer BUSY (R57). -/
def offerRemote (content : List Byte) (s : State) : State :=
  match cut [4] content with
  | some ([ref], rest) =>
    match s.offerSlip { source := .remote ref, kind := 0, content := rest } with
    | some s' => s'
    | none => s.raise (.orderResult ref .busy)
  | _ => s

/-- REMOTE_ORDER: offered to the intake while the part is RUNNING; one too short to hold its reference is discarded
(R57, R149). -/
def execRemoteOrder (fr : EthFrame) (s : State) : Step :=
  .next (s.takeEnvelope (· == kindRemoteOrder)
    (fun content s => if s.running then offerRemote content s else s) fr)

/-- Whether a late answer calls for a LATE_ANSWER record (R96). -/
def lateNeedsRecord : ExpiryOutcome → Verdict → Bool
  | .removed, .approve => true
  | .removed, .decline => false
  | .deferred, .approve => false
  | .deferred, .decline => true
  | .voided, .approve => true
  | .voided, .decline => false

/-- An answer settled without the check: a LATE_ANSWER record, or the reservation released (R93, R96). -/
def Work.settleLate (e : AuthEntry) (o : ExpiryOutcome) (v : Verdict) (w : Work) : Work :=
  if lateNeedsRecord o v then w.append (.lateAnswer e.tag e.check e.amount o v) else w.release

/-- The live entry and the expired entry with a tag. -/
def Work.live? (tag : Nat) (w : Work) : Option AuthEntry := lookupBy AuthEntry.tag tag w.tu.live
def Work.expired? (tag : Nat) (w : Work) : Option ExpiredEntry :=
  w.tu.expired.find? fun e => e.entry.tag == tag

/-- An answer whose tag is not live: a late answer, or UNKNOWN_TAG (R96, R97). -/
def Work.answerNotLive (tag : Nat) (v : Verdict) (w : Work) : Work :=
  match w.expired? tag with
  | some e =>
    ({ w with tu.expired := w.tu.expired.filter fun x => x.entry.tag != tag } : Work).settleLate e.entry e.outcome v
  | none => w.raise (.unknownTag tag v)

/-- An answer on arrival: a live tag's answer is offered to the Check Engine (R90). -/
def Work.answerArrives (tag : Nat) (v : Verdict) (w : Work) : Work :=
  if (w.live? tag).isSome then { w with ce.answers := w.ce.answers ++ [(tag, v)] } else w.answerNotLive tag v

/-- AUTH_ANSWER: handed to the Tender Unit in every uplink state while the part is RUNNING; one that is not well formed
is discarded (R90, R149). -/
def execAuthAnswer (fr : EthFrame) (s : State) : Step :=
  .next (s.takeEnvelope (· == kindAuthAnswer)
    (fun content s =>
      match readAuthAnswer content with
      | some (tag, v) => if s.running then s.doWork (Work.answerArrives tag v) else s
      | none => s) fr)

/-- KEEPALIVE: no content to act on (R149, R152). -/
def execKeepalive (fr : EthFrame) (s : State) : Step :=
  .next (s.takeEnvelope (· == kindKeepalive) (fun _ s => s) fr)

/-- The kind is none of the four that the part acts on (R149). -/
def otherKind (k : Byte) : Bool :=
  k != kindControl && k != kindRemoteOrder && k != kindAuthAnswer && k != kindKeepalive

/-- OTHER_ENVELOPE_KIND: counted, then discarded (R149). -/
def execOtherEnvelopeKind (fr : EthFrame) (s : State) : Step := .next (s.takeEnvelope otherKind (fun _ s => s) fr)

end Sys2Proof.Machine
end

