-- ==== Sys2Proof/Machine/Auth.lean ====
section
/-! DEFINITION. AUTH_ANSWER_TAKEN, AUTH_WAIT_EXPIRY, LATE_WINDOW_EXPIRY, SET_AUTH_TIMES (5.5 to 5.9). -/
namespace Sys2Proof.Machine

/-- Free a live entry: its timer stops, its tag is free (R91, R93). -/
def Work.freeEntry (tag : Nat) (w : Work) : Work := { w with tu.live := eraseBy AuthEntry.tag tag w.tu.live }

/-- An answer taken for a live entry that is not orphan (R91). -/
def Work.answerLive (e : AuthEntry) (v : Verdict) (w : Work) : Work :=
  let w := match v with
    | .approve => w.applyOutcome e .approved (Share.settle e.tag e.amount .approved)
    | .decline => w.applyOutcome e .declined (Share.unsettle e.tag)
  (w.freeEntry e.tag).release

/-- An answer taken: the tag is looked up again (R90, R91, R93, R96, R97). -/
def Work.answerTaken (tag : Nat) (v : Verdict) (w : Work) : Work :=
  match w.live? tag with
  | some e => if e.orphan then (w.freeEntry tag).settleLate e .voided v else w.answerLive e v
  | none => w.answerNotLive tag v

/-- Take one offer out of a list of offers, the first that matches. -/
def takeFirst {α : Type} (p : α → Bool) : List α → Option (α × List α)
  | [] => none
  | x :: xs => if p x then some (x, xs) else (takeFirst p xs).map fun r => (r.1, x :: r.2)

/-- AUTH_ANSWER_TAKEN: the Check Engine takes an answer that the Tender Unit has offered (R90). -/
def execAuthAnswerTaken (tag : Nat) (v : Verdict) (s : State) : Step :=
  .next (match takeFirst (fun a => decide (a = (tag, v))) s.ce.answers with
    | some (_, rest) => ({ s with ce.answers := rest } : State).doWork (Work.answerTaken tag v)
    | none => s)

/-- The size of the Expired Auth List (R95). -/
def expiredSize : Nat := 32

/-- Drop the head of the Expired Auth List; its reservation is released (R95). -/
def Work.dropOldest (w : Work) : Work :=
  match w.tu.expired with
  | [] => w
  | _ :: rest => ({ w with tu.expired := rest } : Work).release

/-- An expired entry joins the tail, the oldest making room (R95). -/
def Work.joinExpired (e : AuthEntry) (o : ExpiryOutcome) (w : Work) : Work :=
  let w := if expiredSize ≤ w.tu.expired.length then w.dropOldest else w
  { w with tu.expired := w.tu.expired ++ [{ entry := e, outcome := o, age := 0 }] }

/-- The outcome at expiry (R94). -/
def Work.outcomeOf (w : Work) (e : AuthEntry) : ExpiryOutcome :=
  if e.orphan then .voided
  else if w.uplink ≠ .online ∧ e.amount ≤ (w.stand e.stand).floor then .deferred
  else .removed

/-- The expiry of a live entry, taken (R94). -/
def Work.expire (e : AuthEntry) (w : Work) : Work :=
  let o := w.outcomeOf e
  let w := match o with
    | .voided => w
    | .deferred => w.applyOutcome e .deferred (Share.settle e.tag e.amount .deferred)
    | .removed => w.applyOutcome e .timeout (Share.unsettle e.tag)
  (w.freeEntry e.tag).joinExpired e o

/-- A timer has run out. -/
def Timer.due (t : Timer) : Bool := decide (t.limit ≤ t.elapsed)

/-- AUTH_WAIT_EXPIRY: nothing happens when the tag is not live or its timer has not run out (R90, R94; log 5). -/
def execAuthWaitExpiry (tag : Nat) (s : State) : Step :=
  .next (match lookupBy AuthEntry.tag tag s.tu.live with
    | some e => if e.wait.due then s.doWork (Work.expire e) else s
    | none => s)

/-- LATE_WINDOW_EXPIRY: the head of the list is dropped when its late window has passed (R95). -/
def execLateWindowExpiry (s : State) : Step :=
  .next (match s.tu.expired with
    | e :: _ => if s.tu.lateWindow ≤ e.age then s.doWork Work.dropOldest else s
    | [] => s)

/-- Drop the entries, oldest first, whose time since expiry reaches the late window; `n` bounds them (R99). -/
def Work.dropLate : Nat → Work → Work
  | 0, w => w
  | n + 1, w =>
    match w.tu.expired with
    | e :: _ => if w.tu.lateWindow ≤ e.age then Work.dropLate n w.dropOldest else w
    | [] => w

/-- SET AUTH TIMES (R99). -/
def setAuthTimes (wait window : Nat) (w : Work) : BlockReply × Work :=
  if wait < 5 ∨ 60 < wait then (.badField 1, w)
  else if window < 10 ∨ 600 < window then (.badField 2, w)
  else
    let w : Work := { w with tu.authWait := wait, tu.lateWindow := window }
    ({ result := .ok, operands := [.duration (some wait), .duration (some window)] },
      w.dropLate w.tu.expired.length)

/-- SET_AUTH_TIMES (R99). -/
def execSetAuthTimes (s : State) : Step :=
  .next (s.block fun
    | .setAuthTimes a b => some (asWork (setAuthTimes a b))
    | _ => none)

end Sys2Proof.Machine
end

