-- ==== Sys2Proof/Machine/CheckBlocks.lean ====
section
/-! DEFINITION. QUERY_CHECK and VOID_CHECK_BLOCK (R60, R61). -/
namespace Sys2Proof.Machine

/-- A line with all its fields, in the order of the line table of 3.1 (R60). -/
def Line.fields (l : Line) : List Field :=
  [.index (some l.index), .number (some l.item), .byteCount l.qty, .byteCount l.mods.length] ++ l.mods.map .code
    ++ [.price l.price, .station (some l.primary), .station l.overflow, .flag l.expo, .index l.owner,
      .code l.state.code, .number l.ticket, .number l.assembly]

/-- A tender as QUERY CHECK lists it (R60). -/
def Tender.fields (t : Tender) : List Field :=
  [.code t.kind.code, .amount t.amount, .code t.state.code, .number t.tag]

/-- A share with its tenders (R60). -/
def Share.whole (s : Share) : List Field :=
  s.fields ++ .byteCount s.tenders.length :: s.tenders.flatMap Tender.fields

/-- The whole check record (R60). -/
def Check.fields (c : Check) : List Field :=
  [.stand c.stand, .origin c.origin, .flag c.notify, .number (some c.pickup), .code c.state.code, .code c.mode.code,
    .amount c.total, .flag c.readySent, .byteCount c.lines.length] ++ c.lines.flatMap Line.fields
    ++ .byteCount c.shares.length :: c.shares.flatMap Share.whole

/-- QUERY CHECK (R60). -/
def queryCheck (n : Nat) (w : Work) : BlockReply × Work :=
  if n = 0 then (.bad, w)
  else match w.check? n with
    | some c => ({ result := .ok, operands := c.fields }, w)
    | none => ({ result := .notFound }, w)

/-- QUERY_CHECK (R60). -/
def execQueryCheck (s : State) : Step :=
  .next (s.block fun
    | .queryCheck n => some (asWork (queryCheck n))
    | _ => none)

/-- VOID CHECK as a control block (R61). -/
def voidCheckBlock (n : Nat) (w : Work) : BlockReply × Work :=
  if n = 0 then (.bad, w)
  else match w.check? n with
    | none => ({ result := .notFound }, w)
    | some c =>
      match w.voidCheck c .remote with
      | none => ({ result := .refused, operands := [.code Reason.kitchenFull.code] }, w)
      | some (r, w) => ({ result := .ok, operands := [.count r.1, .amount r.2] }, w)

/-- VOID_CHECK_BLOCK (R61). -/
def execVoidCheckBlock (s : State) : Step :=
  .next (s.block fun
    | .voidCheck n => some (asWork (voidCheckBlock n))
    | _ => none)

end Sys2Proof.Machine
end

