-- ==== Sys2Proof/Machine/Kitchen.lean ====
section
/-! DEFINITION. FIRE_BACKLOG_TRY, COMPLETION, RECALL_OFFER: what the Kitchen Router has offered and the Check Engine
takes (6.3, 6.4, 6.6). -/
namespace Sys2Proof.Machine

/-- FIRE_BACKLOG_TRY: the offers that are waiting together are taken as one try (R108). -/
def execFireBacklogTry (s : State) : Step :=
  .next (if s.ce.tryOffered then ({ s with ce.tryOffered := false } : State).doWork Work.tryBacklog else s)

/-! ### Completions (R110 to R112) -/

/-- The slot still holds the ticket, its frame ended and its taken mark set. -/
def OutSlot.awaits (n : Nat) (x : OutSlot) : Bool := x.ticket == n && x.ended && x.marked

/-- The completion offer still stands: the ticket is where it was when the offer was made (R110). -/
def Work.stillThere (o : CompletionOffer) (w : Work) : Bool :=
  match o.via with
  | .slot x => ((w.port o.station).slot x).any (OutSlot.awaits o.ticket)
  | .bump => (w.station o.station).shown.contains o.ticket

/-- The lines of a check as the completion of one of its tickets leaves them: a FIRED line of a NORMAL ticket becomes
COOKED while its ASSEMBLY is still to complete, and DONE otherwise; a COOKED line of an ASSEMBLY becomes DONE (R111,
R112; log 22). -/
def Work.completeLine (w : Work) (t : Ticket) (c : Check) (l : Line) : Line :=
  if l.index ∈ t.unmarked then
    match t.kind, l.state with
    | .normal, .fired => { l with state := if (w.assemblyOf c l).isSome then .cooked else .done }
    | .assembly, .cooked => { l with state := .done }
    | _, _ => l
  else l

/-- The check that a ticket carries. -/
def Work.checkOf (w : Work) (t : Ticket) : Option Check := t.check.bind fun n => w.check? n

/-- A ticket completes: its lines, its ASSEMBLY's wait count, its own leaving, then READY and closure (R111, R112). -/
def Work.complete (t : Ticket) (via : Via) (w : Work) : Work :=
  let check := w.checkOf t
  let w := match check with
    | some c => w.onCheck c.number fun d => { d with lines := d.lines.map (w.completeLine t c) }
    | none => w
  let w := match t.assembly with
    | some a => w.settleAssembly (some t.number) a
    | none => w
  let w := match via with
    | .slot _ => w.freeTicket t.number
    | .bump => w.enterRecall t.number t
  match check with
  | some c => w.lineTests c.number
  | none => w

/-- A completion offer taken (R110). -/
def Work.completionTaken (o : CompletionOffer) (w : Work) : Work :=
  match w.ticket? o.ticket with
  | some t => if w.stillThere o then w.complete t o.via else w
  | none => w

/-- COMPLETION: the Check Engine takes the completion that the Router offered for a ticket (R110). -/
def execCompletion (n : Nat) (s : State) : Step :=
  .next (match takeFirst (fun (o : CompletionOffer) => o.ticket == n) s.kr.completions with
    | some (o, rest) => ({ s with kr.completions := rest } : State).doWork (Work.completionTaken o)
    | none => s)

/-! ### Recalls (R118) -/

/-- The recall would find room and the ticket: it is in the station's list, and the station's load is below 128. -/
def Work.recallable (n : Nat) (st : StationId) (w : Work) : Bool :=
  (w.station st).recallL.contains n && decide (w.load st < loadSize)

/-- The ticket leaves the list and becomes SHOWN as a remake (R118). -/
def Work.remake (n : Nat) (st : StationId) (w : Work) : Work :=
  (w.show n st).onTicket n fun t =>
    { t with remake := true, check := none, entries := t.entries.map fun e => { e with line := none } }

/-- The ASSEMBLY of which a NORMAL ticket is judged a component: live, of the same check, with a line in its entry
list that the ticket names unmarked (R118). -/
def Work.componentOf (w : Work) (t : Ticket) : Option Ticket :=
  (t.assembly.bind fun a => w.ticket? a).filter fun a =>
    decide (a.kind = .assembly) && decide (a.check = t.check) && t.unmarked.any a.names

/-- The recall reopens the ticket: its lines are FIRED again, READY-sent is clear, and its ASSEMBLY waits for it
(R118). -/
def Work.reopen (t : Ticket) (c : Check) (w : Work) : Work :=
  let w := w.show t.number t.station
  let back := fun (l : Line) =>
    decide (l.index ∈ t.unmarked) && (decide (l.state = .done) || decide (l.state = .cooked))
  let w := w.onCheck c.number fun c =>
    { c.onLines back (fun l => { l with state := .fired }) with readySent := false }
  let w := match t.assembly with
    | some a => w.settleAssembly none a
    | none => w
  w.lineTests c.number

/-- Whether a recall reopens the ticket, or makes a remake of it (R118). -/
def Work.reopens (w : Work) (t : Ticket) : Bool :=
  match w.componentOf t with
  | some a => decide (a.state = .waiting)
  | none => !t.unmarked.isEmpty

/-- A recall offer taken (R118). -/
def Work.recallTaken (o : RecallOffer) (w : Work) : Work :=
  match w.ticket? o.ticket with
  | some t =>
    if w.recallable o.ticket o.station then
      match w.checkOf t with
      | some c => if w.reopens t then w.reopen t c else w.remake o.ticket o.station
      | none => w.remake o.ticket o.station
    else w
  | none => w

/-- RECALL_OFFER: the Check Engine takes the recall that the Router offered for a ticket (R118). -/
def execRecallOffer (n : Nat) (s : State) : Step :=
  .next (match takeFirst (fun (o : RecallOffer) => o.ticket == n) s.kr.recalls with
    | some (o, rest) => ({ s with kr.recalls := rest } : State).doWork (Work.recallTaken o)
    | none => s)

end Sys2Proof.Machine
end

