-- ==== Sys2Proof/Machine/Ports.lean ====
section
/-! DEFINITION. The station ports: tickets sent, frames and characters received, timers, STATION_CONTROL,
READ_STATIONS (chapter 7). -/
namespace Sys2Proof.Machine

/-! ### The port's part of a step -/

/-- The port of a loaded station works while the part is RUNNING; otherwise it sends nothing and discards what it
receives (R125). -/
def State.portWorks (s : State) (st : StationId) : Bool := s.running && s.kr.stations[st].cfg.loaded

/-- Work of the port of a loaded station with a wanted link state. -/
def State.atPort (st : StationId) (want : Link → Bool) (f : Work → Work) (s : State) : State :=
  if s.portWorks st ∧ want s.ports[st].link then s.doWork f else s

/-- UP, as a wanted link state. -/
def Link.isUp (l : Link) : Bool := decide (l = .up)
def Link.isDown (l : Link) : Bool := decide (l = .down)
/-- DOWN or UP: OFF discards what it receives (R136). -/
def Link.listens (l : Link) : Bool := decide (l ≠ .off)

/-- The hold flag clears, and its timer stops; the taken timers run on from where they paused (R135). -/
def Port.release (p : Port) : Port := { p with hold := false, holdTimer := none }

/-- Any character received while the flag is set clears it when GO-any is yes (R135). -/
def Work.goAny (st : StationId) (w : Work) : Work :=
  if (w.port st).link = .up ∧ (w.station st).cfg.goAny then w.onPort st Port.release else w

/-- Act on a good frame of a wanted sort: in UP by one function, in DOWN by another, in OFF not at all (R126, R127,
R136). -/
def State.onFrame (st : StationId) (cs : List PortChar) (up down : PortFrame → Option (Work → Work)) (s : State) :
    State :=
  match readPort cs with
  | [.frame f] =>
    if s.portWorks st then
      match s.ports[st].link with
      | .up =>
        match up f with
        | some g => s.doWork fun w => g (w.goAny st)
        | none => s
      | .down =>
        match down f with
        | some g => s.doWork g
        | none => s
      | .off => s
    else s
  | _ => s

/-- Frames that DOWN discards without effect. -/
def noFrame (_ : PortFrame) : Option (Work → Work) := none

/-! ### Sending (R124, R126, R130) -/

/-- Set a slot. -/
def Port.setSlot (x : Slot) (o : Option OutSlot) (p : Port) : Port :=
  match x with
  | .a => { p with slotA := o }
  | .b => { p with slotB := o }

/-- The other slot. -/
def otherSlot : Slot → Slot
  | .a => .b
  | .b => .a

/-- A port may take the head of its queue, but for the queue itself (R130). -/
def Port.maySend (p : Port) : Bool := p.link.isUp && !p.hold && !p.sending && (p.slot p.mark).isNone

/-- The queue of a station: VOID tickets, then the others (R103). -/
def Station.queue (s : Station) : List Nat := s.voidQ ++ s.normalQ

/-- Take the head out of the queue. -/
def Station.dropHead (s : Station) : Station :=
  match s.voidQ with
  | _ :: vs => { s with voidQ := vs }
  | [] => { s with normalQ := s.normalQ.tail }

/-- The head ticket goes into the slot that the next-slot mark names, and its frame begins (R109, R130). -/
def Work.sendHead (st : StationId) (w : Work) : Work :=
  if (w.port st).maySend then
    match (w.station st).queue.head?.bind fun n => w.ticket? n with
    | some t =>
      let x := (w.port st).mark
      let w := (w.onStation st Station.dropHead).onTicket t.number fun t => { t with state := .sending }
      let w := w.onPort st fun p =>
        { p.setSlot x (some { ticket := t.number, ended := false, marked := false, timer := none }) with
          mark := otherSlot x }
      w.emit (.output (.ticketBegin st (ticketFrame x t)))
    | none => w
  else w

/-- TICKET (R130). -/
def execTicket (st : StationId) (s : State) : Step := .next (s.atPort st Link.isUp (Work.sendHead st))

/-- The frame in progress has ended: its slot's taken timer starts (R130, R132). -/
def OutSlot.finish (limit : Nat) (x : OutSlot) : OutSlot :=
  if x.ended then x else { x with ended := true, timer := some { elapsed := 0, limit := limit } }

/-- TICKET_FRAME_END: a suspended frame does not end (R134). -/
def execTicketFrameEnd (st : StationId) (s : State) : Step :=
  .next (s.atPort st Link.isUp fun w =>
    if (w.port st).sending ∧ (w.port st).hold = false then
      let limit := (w.station st).cfg.takenTimeout
      (w.onPort st fun p =>
        { p with slotA := p.slotA.map (OutSlot.finish limit), slotB := p.slotB.map (OutSlot.finish limit) }).emit
        (.output (.ticketEnd st))
    else w)

/-- The time between probes (R126). -/
def probePeriod : Nat := 5

/-- PROBE_TIMER_EXPIRY (R126). -/
def execProbeTimerExpiry (st : StationId) (s : State) : Step :=
  .next (s.atPort st Link.isDown fun w =>
    if (w.port st).probe.any fun t => decide (probePeriod ≤ t) then
      (w.onPort st fun p => { p with probe := some 0 }).emit (.output (.probe st (probeFrame st)))
    else w)

/-! ### TAKEN, BUMP, RECALL (R109, R110, R118, R131, R133) -/

/-- Offer a completion to the Check Engine (R110). -/
def Work.offerCompletion (n : Nat) (st : StationId) (via : Via) (w : Work) : Work :=
  { w with kr.completions := w.kr.completions ++ [{ ticket := n, station := st, via := via }] }

/-- A TAKEN for a slot whose frame has ended and whose mark is clear (R109, R110, R131). -/
def Work.takenSlot (st : StationId) (x : Slot) (o : OutSlot) (w : Work) : Work :=
  match w.ticket? o.ticket with
  | none => w
  | some t =>
    if (w.station st).cfg.kind = .print then
      if t.linked then
        (w.onPort st (Port.setSlot x (some { o with marked := true, timer := none }))).offerCompletion t.number st
          (.slot x)
      else w.freeTicket t.number
    else ((w.show t.number st).divertTest st).offerTry

/-- A good TAKEN in UP (R131). -/
def Work.taken (st : StationId) (x : Slot) (w : Work) : Work :=
  match (w.port st).slot x with
  | some o => if o.ended ∧ o.marked = false then w.takenSlot st x o else w
  | none => w

/-- TAKEN (R131). -/
def execTaken (st : StationId) (cs : List PortChar) (s : State) : Step :=
  .next (s.onFrame st cs (fun
    | .taken x => some (Work.taken st x)
    | _ => none) noFrame)

/-- A good BUMP in UP (R110, R133). -/
def Work.bump (st : StationId) (n : Nat) (w : Work) : Work :=
  if (w.station st).shown.contains n then
    match w.ticket? n with
    | some t =>
      if t.linked then
        if w.kr.completions.any fun o => o.ticket == n then w else w.offerCompletion n st .bump
      else if t.kind = .void ∨ t.remake then w.freeTicket n
      else w.enterRecall n t
    | none => w
  else w

/-- BUMP (R110). -/
def execBump (st : StationId) (cs : List PortChar) (s : State) : Step :=
  .next (s.onFrame st cs (fun
    | .bump n => some (Work.bump st n)
    | _ => none) noFrame)

/-- A good RECALL in UP (R118, R133). -/
def Work.recallArrives (st : StationId) (n : Nat) (w : Work) : Work :=
  if (w.station st).recallL.contains n then
    match w.ticket? n with
    | some t =>
      if t.kind = .normal ∧ t.linked then
        { w with kr.recalls := w.kr.recalls ++ [{ ticket := n, station := st }] }
      else if w.recallable n st then w.remake n st
      else w
    | none => w
  else w

/-- RECALL (R118). -/
def execRecallFrame (st : StationId) (cs : List PortChar) (s : State) : Step :=
  .next (s.onFrame st cs (fun
    | .recallOf n => some (Work.recallArrives st n)
    | _ => none) noFrame)

/-! ### FAULT, HELLO (R127, R129) -/

/-- Record a fault code (R129). -/
def Work.recordFault (st : StationId) (code : Nat) (w : Work) : Work :=
  w.onPort st fun p => { p with lastFault := some code }

/-- FAULT (R129). -/
def execFault (st : StationId) (cs : List PortChar) (s : State) : Step :=
  .next (s.onFrame st cs (fun
    | .fault code => some fun w => (w.recordFault st code).goDown st .fault
    | _ => none) (fun
    | .fault code => some (Work.recordFault st code)
    | _ => none))

/-- A port that comes UP (R127). -/
def Port.comeUp (p : Port) : Port :=
  { p with link := .up, probe := none, mark := .a, slotA := none, slotB := none, hold := false, holdTimer := none,
           kindMismatch := false }

/-- A good HELLO in DOWN (R127, R138). -/
def Work.helloDown (st : StationId) (k : StationKind) (w : Work) : Work :=
  if (w.station st).cfg.kind = k then
    (w.onPort st Port.comeUp).raise (.stationUp st k (w.station st).queue.length)
  else w.onPort st fun p => { p with kindMismatch := true }

/-- HELLO_FRAME (R127). -/
def execHelloFrame (st : StationId) (cs : List PortChar) (s : State) : Step :=
  .next (s.onFrame st cs (fun
    | .hello _ => some fun w => w.goDown st .restart
    | _ => none) (fun
    | .hello k => some (Work.helloDown st k)
    | _ => none))

/-! ### HOLD, GO (R134, R135) -/

/-- The hold flag is set, and its timer starts unless it was set already (R134). -/
def Port.holdOn (limit : Nat) (p : Port) : Port :=
  if p.hold then p else { p with hold := true, holdTimer := some { elapsed := 0, limit := limit } }

/-- A HOLD character arrives in UP: with GO-any, a flag that is set clears first (R134, R135). -/
def Work.holdArrives (st : StationId) (w : Work) : Work :=
  (w.goAny st).onPort st (Port.holdOn (w.station st).cfg.holdLimit)

/-- HOLD (R134). -/
def execHold (st : StationId) (s : State) : Step := .next (s.atPort st Link.isUp (Work.holdArrives st))

/-- GO: the character that clears the hold flag: GO, or any character under GO-any, of which a HOLD sets the flag again
(R135). What a character of a frame does beside is its frame's command (log 34). -/
def execGo (st : StationId) (c : PortChar) (s : State) : Step :=
  .next (s.atPort st Link.isUp fun w =>
    if c.framingError = false ∧ c.data = chGO then w.onPort st Port.release
    else if c.framingError = false ∧ c.data = chHOLD then w.holdArrives st
    else w.goAny st)

/-! ### Discarded frames (R123) -/

/-- Some bad frames more (R123). -/
def Work.countBad (st : StationId) (k : Nat) (w : Work) : Work :=
  w.onPort st fun p => { p with badFrames := badFramesAfter k p.badFrames }

/-- The characters hold something to discard, and nothing else (R123; log 42). -/
def onlyDiscards (rs : List PortRead) : Bool := !rs.isEmpty && rs.all (· == .discard)

/-- STATION_FRAME_DISCARD: malformed or bad frames and stray characters, each of which counts (R123). -/
def execStationFrameDiscard (st : StationId) (cs : List PortChar) (s : State) : Step :=
  .next (if onlyDiscards (readPort cs) then
    s.atPort st Link.listens fun w => (w.goAny st).countBad st (readPort cs).length
  else s)

/-- STATION_FRAME_GAP_TIMEOUT: a frame whose next character does not come in time (R123). DESIGN CHOICE: the frame ends
at the gap, and what comes behind it is read as between frames (log 51). -/
def execStationFrameGapTimeout (st : StationId) (s : State) : Step :=
  .next (s.atPort st Link.listens (Work.countBad st 1))

/-! ### Timers (R132, R135) -/

/-- TAKEN_TIMEOUT: a taken timer paused by a hold does not run out (R132). -/
def execTakenTimeout (st : StationId) (x : Slot) (s : State) : Step :=
  .next (s.atPort st Link.isUp fun w =>
    if (w.port st).hold = false ∧ ((w.port st).slot x).any (fun o => o.timer.any Timer.due) then
      w.goDown st .takenTimeout
    else w)

/-- HOLD_LIMIT (R135). -/
def execHoldLimit (st : StationId) (s : State) : Step :=
  .next (s.atPort st Link.isUp fun w =>
    if (w.port st).hold ∧ (w.port st).holdTimer.any Timer.due then w.goDown st .holdLimit else w)

/-! ### Control blocks (R136, R137) -/

/-- The actions of STATION CONTROL, in the order R136 names them. -/
inductive StationAction where
  | off | on | resume
  deriving DecidableEq, Repr

def actionOf (n : Nat) : Option StationAction :=
  if n = 1 then some .off else if n = 2 then some .on else if n = 3 then some .resume else none

/-- An action, by the link state (R136). -/
def Work.act (st : StationId) (a : StationAction) (w : Work) : Work :=
  match a, (w.port st).link with
  | .off, .up => w.goDown st .off
  | .off, .down => w.onPort st fun p => { p with link := .off, probe := none }
  | .off, .off => w
  | .on, .off =>
    (w.onPort st fun p => { p with link := .down, probe := some 0 }).emit (.output (.probe st (probeFrame st)))
  | .on, .up => w
  | .on, .down => w
  | .resume, .up => w.onPort st Port.release
  | .resume, .down => w
  | .resume, .off => w

/-- STATION CONTROL (R136). DESIGN CHOICE: a BAD_VALUE reply carries nothing (log 48). -/
def stationControl (station action : Nat) (w : Work) : BlockReply × Work :=
  match stationOf station, actionOf action with
  | some st, some a =>
    if (w.station st).cfg.loaded then
      let w' := w.act st a
      ({ result := .ok,
         operands := [.station (some st), .code (w.port st).link.code, .code (w'.port st).link.code,
           .flag (w'.port st).hold] }, w')
    else (.bad, w)
  | _, _ => (.bad, w)

/-- STATION_CONTROL (R136). -/
def execStationControl (s : State) : Step :=
  .next (s.block fun
    | .stationControl a b => some (asWork (stationControl a b))
    | _ => none)

/-- What READ STATIONS reports of a slot (R137): an EMPTY one holds no ticket and no taken mark (7.2). -/
def slotFields (o : Option OutSlot) : List Field :=
  [.number (o.map OutSlot.ticket), .flagOrAbsent (o.map OutSlot.marked)]

/-- An entry of READ STATIONS (R137). -/
def Work.stationFields (w : Work) (st : StationId) : List Field :=
  let s := w.station st
  let p := w.port st
  [.flag s.cfg.loaded, .codeOrAbsent (if s.cfg.loaded then some s.cfg.kind.code else none), .code p.link.code,
    .code (divertCode s.diverting), .flag p.hold, .duration (p.holdTimer.map Timer.elapsed)]
    ++ slotFields p.slotA ++ slotFields p.slotB
    ++ [.code (markCode p.mark), .count s.voidQ.length, .count s.normalQ.length, .count (w.backlog st),
      .count (w.load st), .byteCount s.recallL.length]
    ++ s.recallL.map (fun n => .number (some n))
    ++ [.codeOrAbsent (p.lastDown.map DownCause.code), .codeOrAbsent p.lastFault,
      .codeOrAbsent (if p.kindMismatch then some 1 else none), .count p.badFrames]

/-- READ STATIONS (R137). -/
def readStations (w : Work) : BlockReply × Work :=
  ({ result := .ok, operands := allStations.flatMap w.stationFields }, w)

/-- READ_STATIONS (R137). -/
def execReadStations (s : State) : Step :=
  .next (s.block fun
    | .readStations => some (asWork readStations)
    | _ => none)

end Sys2Proof.Machine
end

