-- ==== Sys2Proof/Machine/Power.lean ====
section
/-! DEFINITION. POWER_ON, SELF_TEST_DONE and VENUE_CLOCK_TICK (10.5, 10.6). -/
namespace Sys2Proof.Machine

/-- POWER_ON: every block takes its power-on values and the part enters STARTING, whatever it was doing. The link
status is an input and stays as it is; the queue of commands and the log of what was sent are not the part's
(R169; log 7). DESIGN CHOICE: a TICKET frame that this breaks off is logged with no end and no cut (log 47). -/
def execPowerOn (s : State) : Step :=
  .next { State.reset with pending := s.pending, out := s.out, upc := { State.reset.upc with linkUp := s.upc.linkUp } }

/-- The first memory that failed, in the order R169 lists them. -/
def firstFailed (ms : List Memory) : Option Memory :=
  [Memory.itemTable, .checkTable, .ticketStore, .authTables, .journal].find? fun m => m ∈ ms

/-- SELF_TEST_DONE: the part becomes RUNNING, or FAILED when a memory failed, and sends HELLO (R169, R171). -/
def execSelfTestDone (failed : List Memory) (s : State) : Step :=
  .next (if s.upc.part = .starting then
    ({ s with upc.part := if (firstFailed failed).isNone then .running else .failed,
              upc.selfTest := firstFailed failed } : State).hello .powerOn
  else s)

/-- The clock after a second: it rolls over from 86,399 to 0, and the UNSET flag stays as it was (R172). -/
def Clock.next (c : Clock) : Clock := { c with secs := if 86399 ≤ c.secs then 0 else c.secs + 1 }

/-- A timer after a second. -/
def Timer.next (t : Timer) : Timer := { t with elapsed := t.elapsed + 1 }

/-- A port's timers after a second: while the hold flag is set the taken timers are paused (R132, R134). -/
def Port.tick (p : Port) : Port :=
  let tickSlot := fun (x : OutSlot) => if p.hold then x else { x with timer := x.timer.map Timer.next }
  { p with slotA := p.slotA.map tickSlot, slotB := p.slotB.map tickSlot,
           holdTimer := p.holdTimer.map Timer.next, probe := p.probe.map (· + 1) }

/-- A stand's deadline timer after a second (R164). -/
def Stand.tick (d : Stand) : Stand :=
  { d with closing := d.closing.map fun c => { c with timer := c.timer.map (· + 1) } }

/-- VENUE_CLOCK_TICK: the clock advances, and every running timer has run one second more (R172; log 5). -/
def execVenueClockTick (s : State) : Step :=
  .next { s with
    clock := s.clock.next
    ce.stands := mapAll Stand.tick s.ce.stands
    tu := { s.tu with live := s.tu.live.map fun e => { e with wait := e.wait.next },
                      expired := s.tu.expired.map fun e => { e with age := e.age + 1 } }
    ports := mapAll Port.tick s.ports
    upc.silence := s.upc.silence.map (· + 1) }

end Sys2Proof.Machine
end

