-- ==== Sys2Proof/Machine/Slips.lean ====
section
/-! DEFINITION. The slips taken from the intake: ORDER, ADD, SPLIT, TENDER, VOID_LINE, VOID_CHECK, QUERY,
REMOTE_ORDER_PROCESS, UNKNOWN_SLIP_KIND (R41 to R59, R66 to R72, R80 to R87). -/
namespace Sys2Proof.Machine

/-! ### Taking a till slip -/

/-- What an ANSWER carries beside the slip kind: the check named or opened, and the result (R42). -/
structure SlipAnswer where
  check  : Option Nat
  result : SlipResult
  deriving DecidableEq, Repr

/-- A refusal (R42). -/
def SlipAnswer.no (check : Option Nat) (why : Reason) (i : Option Nat) : SlipAnswer :=
  { check := check, result := .refused why i }

/-- An acceptance with its result fields (R42). -/
def SlipAnswer.yes (check : Nat) (fields : List Field) : SlipAnswer :=
  { check := some check, result := .accepted fields }

/-- The slip came from a till (R32). -/
def Origin.isTill : Origin → Bool
  | .till _ => true
  | .remote _ => false

/-- The slip came from a till, with this kind byte (R174). -/
def Slip.isKind (k : Byte) (x : Slip) : Bool := x.source.isTill && x.kind == k

/-- Process a slip of a till as one piece of work, the till's stand and role read as they stand now; the ANSWER is
posted after all that the slip causes (R37, R41, R42). -/
def processTill (f : TillId → Till → List Byte → Work → SlipAnswer × Work) (x : Slip) (s : State) : State :=
  match x.source with
  | .till t =>
    s.doWork fun w =>
      let (a, w) := f t (s.till t) x.content w
      w.emit (.notice t (.answer x.kind a.check a.result))
  | .remote _ => s

/-- The access checks of a slip that names a check: the check is open, and a CASHIER acts only on its own stand
(R43). -/
def Work.openTo (w : Work) (till : Till) (n : Nat) : Except Reason Check :=
  match w.check? n with
  | none => .error .noCheck
  | some c => if till.role = .supervisor ∨ c.stand = till.stand then .ok c else .error .wrongStand

/-! ### ORDER and ADD (R44 to R46) -/

/-- ORDER (R44, R45). -/
def orderSlip (t : TillId) (till : Till) (content : List Byte) (w : Work) : SlipAnswer × Work :=
  match readOrder content with
  | .error i => (.no none .badSlip i, w)
  | .ok (notify, ls) =>
    match (w.stand till.stand).refusal.or (w.lineRefusal 0 0 ls) with
    | some (why, i) => (.no none why i, w)
    | none =>
      if tableSize ≤ w.ce.checks.length then (.no none .tableFull none, w)
      else match w.reserve with
        | none => (.no none .journalFull none, w)
        | some w =>
          let (c, w) := w.openCheck till.stand (.till t) notify ls false
          (.yes c.number [.number (some c.pickup), .amount c.total], w)

/-- ORDER. -/
def execOrder (s : State) : Step := .next (s.takeSlip (Slip.isKind 1) (processTill orderSlip))

/-- The highest line index a check holds. -/
def Check.lastIndex (c : Check) : Nat := (c.lines.map Line.index).foldl max 0

/-- Tests 2 to 6 of R44 on a check that is open to the till. -/
def Work.addRefusal (w : Work) (c : Check) (ls : List SlipLine) : Option (Reason × Option Nat) :=
  if c.hasTender then some (.tendered, none) else w.lineRefusal c.lines.length c.total ls

/-- An ADD that is accepted (R46). -/
def Work.addLines (c : Check) (ls : List SlipLine) (w : Work) : Work :=
  let w := w.takeStock ls
  let new := w.newLines (c.lastIndex + 1) ls
  let w := w.onCheck c.number fun c => { ({ c with lines := c.lines ++ new } : Check).dissolved with readySent := false }
  w.fireAccepted c (new.map Line.index)

/-- ADD (R44, R46). -/
def addSlip (_ : TillId) (till : Till) (content : List Byte) (w : Work) : SlipAnswer × Work :=
  match readAdd content with
  | .error i => (.no (namedCheck content) .badSlip i, w)
  | .ok (n, ls) =>
    match w.openTo till n with
    | .error why => (.no (some n) why none, w)
    | .ok c =>
      match w.addRefusal c ls with
      | some (why, i) => (.no (some n) why i, w)
      | none =>
        (.yes n [.index (some (c.lastIndex + 1)), .count ls.length, .amount (c.total + w.priceOf ls)],
          w.addLines c ls)

/-- ADD. -/
def execAdd (s : State) : Step := .next (s.takeSlip (Slip.isKind 2) (processTill addSlip))

/-! ### SPLIT (R66 to R72) -/

/-- The number of new shares a split asks for. -/
def SplitOperand.count : SplitOperand → Nat
  | .even n => n
  | .byLine n _ => n
  | .byAmount as => as.length

def SplitOperand.mode : SplitOperand → SplitMode
  | .even _ => .even
  | .byLine _ _ => .byLine
  | .byAmount _ => .byAmount

/-- The first number that a list names twice. -/
def firstRepeat : List Nat → List Nat → Option Nat
  | _, [] => none
  | seen, i :: is => if i ∈ seen then some i else firstRepeat (i :: seen) is

/-- The tests of a BY_LINE assignment, in order; a failure carries its failing index (R70). DESIGN CHOICE: where several
entries fail the first or the third test, the index is that of the first of them in list order (log 18). -/
def Check.assignFault (c : Check) (n : Nat) (a : List (Nat × Nat)) : Option (Option Nat) :=
  match a.find? fun e => !c.lines.any fun l => l.index == e.1 && l.live with
  | some e => some (some e.1)
  | none =>
    match firstRepeat [] (a.map Prod.fst) with
    | some i => some (some i)
    | none =>
      match a.find? fun e => decide (n < e.2) with
      | some e => some (some e.1)
      | none =>
        match c.lines.find? fun l => l.live && !a.any fun e => e.1 == l.index with
        | some l => some (some l.index)
        | none => if (List.range n).all fun g => a.any fun e => e.2 == g + 1 then none else some none

/-- The PAID shares of a check: those a split keeps. -/
def Check.kept (c : Check) : List Share := c.shares.filter Share.isPaid

/-- The index of the first share, in index order, with a property. -/
def Check.firstShare (c : Check) (p : Share → Bool) : Option Nat := (c.shares.find? p).map Share.index

/-- Tests 3 to 8 of R67. -/
def Check.splitRefusal (c : Check) (o : SplitOperand) : Option (Reason × Option Nat) :=
  match c.firstShare fun s => decide (s.state = .authorizing) with
  | some i => some (.pending, some i)
  | none =>
    match c.firstShare fun s => decide (0 < s.tendered) && !s.isPaid with
    | some i => some (.partPaid, some i)
    | none =>
      if c.balance = 0 ∧ c.kept ≠ [] then some (.paidAll, none)
      else
        let byLine : Option (Reason × Option Nat) :=
          match o with
          | .byLine n a =>
            match c.firstShare Share.isPaid with
            | some i => some (.tendered, some i)
            | none => (c.assignFault n a).map fun i => (.badSplit, i)
          | _ => none
        byLine.or
          (if 8 < c.kept.length + o.count then some (.badSplit, none)
          else match o with
            | .byAmount as => if as.sum = c.balance then none else some (.sum, none)
            | _ => none)

/-- The dues of the new shares, in the mode's order (R69 to R71). -/
def Check.splitDues (c : Check) : SplitOperand → List Nat
  | .even n => (List.range n).map fun k => c.balance / n + if k = 0 then c.balance % n else 0
  | .byLine n a => (List.range n).map fun k =>
      lineTotal (c.lines.filter fun l => a.any fun e => e.1 == l.index && e.2 == k + 1)
  | .byAmount as => as

/-- The lowest indices that no kept share holds (R68). -/
def Check.freeIndices (c : Check) (k : Nat) : List Nat :=
  ([1, 2, 3, 4, 5, 6, 7, 8].filter fun i => !c.kept.any fun s => s.index == i).take k

/-- The owner share of a line after a split (R72). -/
def Check.splitOwner (c : Check) (o : SplitOperand) (l : Line) : Option Nat :=
  match o with
  | .byLine _ a => if l.live then (a.find? fun e => e.1 == l.index).map Prod.snd else none
  | _ => l.owner.filter fun i => c.kept.any fun s => s.index == i

/-- The check with its shares split (R68, steps 1 to 5). -/
def Check.splitBy (o : SplitOperand) (c : Check) : Check :=
  { c with
    shares := (List.zipWith Share.new (c.freeIndices o.count) (c.splitDues o)).foldl
      (fun ss s => putBy Share.index s ss) c.kept
    lines := c.lines.map fun l => { l with owner := c.splitOwner o l }
    mode := o.mode }

/-- SPLIT (R67, R68). -/
def splitSlip (_ : TillId) (till : Till) (content : List Byte) (w : Work) : SlipAnswer × Work :=
  match readSplit content with
  | none => (.no (namedCheck content) .badSlip none, w)
  | some (n, o) =>
    match w.openTo till n with
    | .error why => (.no (some n) why none, w)
    | .ok c =>
      match c.splitRefusal o with
      | some (why, i) => (.no (some n) why i, w)
      | none =>
        (.yes n ([.code o.mode.code, .amount c.balance] ++ shareListFields (c.splitBy o).shares),
          (w.onCheck n (Check.splitBy o)).payments n)

/-- SPLIT. -/
def execSplit (s : State) : Step := .next (s.takeSlip (Slip.isKind 3) (processTill splitSlip))

/-! ### TENDER (R81 to R87) -/

/-- Tests 3 to 7 of R81 on a share. -/
def Share.refusal (kind : TenderKind) (amount : Nat) (s : Share) : Option Reason :=
  if s.isPaid then some .paid
  else if s.state = .authorizing then some .pending
  else if 3 ≤ s.tenders.length then some .tendersFull
  else if kind = .card ∧ s.remaining < amount then some .over
  else none

/-- The fields of an accepted TENDER (R87), with the share and the check as the tender leaves them. DEDUCED: R87 lists
the tag for CARD only; the ANSWER to CASH holds the field too, as an absent tag (log 14). -/
def tenderFields (t : Tender) (change : Nat) (s : Share) (c : Check) : List Field :=
  [.index (some s.index), .code t.kind.code, .code t.state.code, .amount t.amount, .amount change, .number t.tag,
    .amount s.due, .amount s.tendered, .code s.state.code, .code c.payState.code]

/-- A tender is taken on a share, and the payment it may be follows (R63, R82, R84, R86). -/
def Work.takeTender (c : Check) (s : Share) (t : Tender) (change : Nat) (f : Share → Share) (w : Work) :
    SlipAnswer × Work :=
  let c' := c.onShare s.index f
  (.yes c.number (tenderFields t change (f s) c'), (w.onCheck c.number (Check.onShare s.index f)).payments c.number)

/-- The largest number of live authorization entries (R88). -/
def authTableSize : Nat := 32

/-- The authorization begins: a live entry, the PENDING tender, the AUTH REQUEST (R84, R89). -/
def Work.beginAuth (t : TillId) (c : Check) (s : Share) (amount : Nat) (w : Work) : SlipAnswer × Work :=
  let (tag, w) := w.takeTag
  let tender : Tender := { kind := .card, amount := amount, state := .pending, tag := some tag }
  let e : AuthEntry :=
    { tag := tag, check := c.number, share := s.index, amount := amount, stand := c.stand, till := t,
      started := w.now.secs, orphan := false, wait := { elapsed := 0, limit := w.tu.authWait } }
  let w : Work := { w with tu.live := putBy AuthEntry.tag e w.tu.live }
  let w := w.onCheck c.number (Check.onShare s.index (Share.authorize tender))
  (.yes c.number (tenderFields tender 0 (s.authorize tender) (c.onShare s.index (Share.authorize tender))),
    w.emit (.authRequest { tag := tag, check := c.number, share := s.index, amount := amount, stand := c.stand,
                           till := t, started := w.now.secs }))

/-- A CARD tender on the path that the uplink state names (R83, R84, R86). -/
def Work.cardTender (t : TillId) (c : Check) (s : Share) (amount : Nat) (w : Work) : SlipAnswer × Work :=
  if w.uplink = .online then
    if authTableSize ≤ w.tu.live.length then (.no (some c.number) .authFull (some s.index), w)
    else match w.reserve with
      | none => (.no (some c.number) .journalFull (some s.index), w)
      | some w => w.beginAuth t c s amount
  else if (w.stand c.stand).floor < amount then (.no (some c.number) .offline (some s.index), w)
  else
    let (tag, w) := w.takeTag
    let tender : Tender := { kind := .card, amount := amount, state := .deferred, tag := some tag }
    w.takeTender c s tender 0 (Share.credit tender)

/-- A CASH tender: the smaller of the amount and the remaining due is applied, the rest is change (R82). -/
def Work.cashTender (c : Check) (s : Share) (amount : Nat) (w : Work) : SlipAnswer × Work :=
  let applied := min amount s.remaining
  let tender : Tender := { kind := .cash, amount := applied, state := .applied, tag := none }
  w.takeTender c s tender (amount - applied) (Share.credit tender)

/-- TENDER (R81). -/
def tenderSlip (t : TillId) (till : Till) (content : List Byte) (w : Work) : SlipAnswer × Work :=
  match readTender content with
  | none => (.no (namedCheck content) .badSlip none, w)
  | some (n, i, kind, amount) =>
    match w.openTo till n with
    | .error why => (.no (some n) why none, w)
    | .ok c =>
      match c.share? i with
      | none => (.no (some n) .badShare (some i), w)
      | some s =>
        match s.refusal kind amount with
        | some why => (.no (some n) why (some i), w)
        | none => if kind = .card then w.cardTender t c s amount else w.cashTender c s amount

/-- TENDER. -/
def execTender (s : State) : Step := .next (s.takeSlip (Slip.isKind 4) (processTill tenderSlip))

/-! ### VOID LINE, VOID CHECK, QUERY (R48 to R53) -/

/-- The line stands in the kitchen: FIRED or COOKED (R48, R50). -/
def Line.inKitchen (l : Line) : Bool := decide (l.state = .fired) || decide (l.state = .cooked)

/-- A VOID LINE that has passed its tests (R49). -/
def Work.voidLine (c : Check) (l : Line) (w : Work) : Work :=
  let w := if l.state = .firing then w.dropFromBacklog c.number (fun i => i == l.index) else w
  let w := w.onCheck c.number (Check.onLines (fun x => x.index == l.index) fun x => { x with state := .voided })
  let w := w.returnStock l
  (w.onCheck c.number Check.dissolved).payments c.number

/-- The total of a check once a line is voided. -/
def Check.totalWithout (c : Check) (l : Line) : Nat := lineTotal (c.lines.filter fun x => x.index != l.index)

/-- VOID LINE (R48, R49). -/
def voidLineSlip (_ : TillId) (till : Till) (content : List Byte) (w : Work) : SlipAnswer × Work :=
  match readVoidLine content with
  | none => (.no (namedCheck content) .badSlip none, w)
  | some (n, i) =>
    match w.openTo till n with
    | .error why => (.no (some n) why none, w)
    | .ok c =>
      if c.hasTender then (.no (some n) .tendered none, w)
      else match c.lines.find? fun l => l.index == i && l.live with
        | none => (.no (some n) .badLine (some i), w)
        | some l =>
          if l.state = .done then (.no (some n) .done (some i), w)
          else if l.inKitchen ∧ till.role ≠ .supervisor then (.no (some n) .role (some i), w)
          else match if l.inKitchen then w.kitchenVoid c [l] else some w with
            | none => (.no (some n) .kitchenFull none, w)
            | some w => (.yes n [.index (some i), .amount (c.totalWithout l)], w.voidLine c l)

/-- VOID_LINE. -/
def execVoidLine (s : State) : Step := .next (s.takeSlip (Slip.isKind 5) (processTill voidLineSlip))

/-- VOID CHECK (R50, R51). -/
def voidCheckSlip (_ : TillId) (till : Till) (content : List Byte) (w : Work) : SlipAnswer × Work :=
  match readCheckNumber content with
  | none => (.no (namedCheck content) .badSlip none, w)
  | some n =>
    if till.role ≠ .supervisor then (.no (some n) .role none, w)
    else match w.check? n with
      | none => (.no (some n) .noCheck none, w)
      | some c =>
        match w.voidCheck c .till with
        | none => (.no (some n) .kitchenFull none, w)
        | some (r, w) => (.yes n [.count r.1], w)

/-- VOID_CHECK. -/
def execVoidCheck (s : State) : Step := .next (s.takeSlip (Slip.isKind 6) (processTill voidCheckSlip))

/-- QUERY (R53). -/
def querySlip (_ : TillId) (till : Till) (content : List Byte) (w : Work) : SlipAnswer × Work :=
  match readCheckNumber content with
  | none => (.no (namedCheck content) .badSlip none, w)
  | some n =>
    match w.openTo till n with
    | .error why => (.no (some n) why none, w)
    | .ok c =>
      (.yes n ([.number (some c.pickup), .code c.state.code, .code c.mode.code, .amount c.total]
        ++ shareListFields c.shares), w)

/-- QUERY. -/
def execQuery (s : State) : Step := .next (s.takeSlip (Slip.isKind 7) (processTill querySlip))

/-- The kind byte is none of the seven (R42, R174). -/
def Slip.isUnknown (x : Slip) : Bool := x.source.isTill && (x.kind == 0 || decide (7 < x.kind.toNat))

/-- A slip of a kind the Check Engine does not know (R42). -/
def unknownSlip (_ : TillId) (_ : Till) (_ : List Byte) (w : Work) : SlipAnswer × Work := (.no none .badSlip none, w)

/-- UNKNOWN_SLIP_KIND. -/
def execUnknownSlipKind (s : State) : Step := .next (s.takeSlip Slip.isUnknown (processTill unknownSlip))

/-! ### Remote orders (R58, R59) -/

/-- A remote order: the tests of R58, and the check it opens (R58, R59). -/
def remoteOrder (ref : Nat) (content : List Byte) (w : Work) : OrderResult × Work :=
  match readRemote content with
  | .error i => (.refused .badSlip i, w)
  | .ok (sd, prepaid, ls) =>
    match (w.stand sd).refusal.or (w.lineRefusal 0 0 ls) with
    | some (why, i) => (.refused why i, w)
    | none =>
      if prepaid ≠ w.priceOf ls then (.refused .amount none, w)
      else if tableSize ≤ w.ce.checks.length then (.refused .tableFull none, w)
      else match w.reserve with
        | none => (.refused .journalFull none, w)
        | some w =>
          let (c, w) := w.openCheck sd (.remote ref) true ls true
          (.accepted c.number sd c.pickup c.total, w)

/-- Process a remote order as one piece of work; ORDER_RESULT comes last (R41, R59). -/
def processRemote (x : Slip) (s : State) : State :=
  match x.source with
  | .remote ref =>
    s.doWork fun w =>
      let (r, w) := remoteOrder ref x.content w
      w.raise (.orderResult ref r)
  | .till _ => s

/-- REMOTE_ORDER_PROCESS. -/
def execRemoteOrderProcess (s : State) : Step := .next (s.takeSlip (fun x => !x.source.isTill) processRemote)

end Sys2Proof.Machine
end

