-- ==== Sys2Proof/Machine/Stands.lean ====
section
/-! DEFINITION. OPEN_STAND, CLOSE_STAND, CLEARANCE_REPORT, CLOSE_DEADLINE_EXPIRY (10.1 to 10.3). -/
namespace Sys2Proof.Machine

/-- A stand that becomes OPEN: a close is cancelled (R162, R163). -/
def Stand.openUp (d : Stand) : Stand := { d with state := .opened, closing := none }

/-- OPEN STAND (R163). The reply carries the pickup counter too (R162; log 29). DESIGN CHOICE: a BAD_VALUE reply carries
nothing (log 48). -/
def openStand (n : Nat) (w : Work) : BlockReply × Work :=
  match standOf n with
  | none => (.bad, w)
  | some sd =>
    if (w.stand sd).loaded then
      ({ result := .ok,
         operands := [.stand sd, .code (w.stand sd).state.code, .code StandState.opened.code,
           .number (some (w.stand sd).pickup)] },
        (w.onStand sd Stand.openUp).request sd false)
    else (.bad, w)

/-- OPEN_STAND (R163). -/
def execOpenStand (s : State) : Step :=
  .next (s.block fun
    | .openStand n => some (asWork (openStand n))
    | _ => none)

/-- A close takes its deadline and force flag, and its deadline timer starts when the deadline is above 0 (R164). -/
def Stand.close (deadline : Nat) (force : Bool) (d : Stand) : Stand :=
  { d with state := .closing,
           closing := some { deadline := deadline, force := force,
                             timer := if 0 < deadline then some 0 else none } }

/-- The reply of CLOSE STAND, with the counts found and the state after the block (R162, R164; log 29). -/
def closeReply (r : Result) (sd : StandId) (found after : Work) : BlockReply :=
  { result := r,
    operands := [.stand sd, .code (after.stand sd).state.code, .count (found.openChecks sd),
      .count (found.standCount sd), .number (some (after.stand sd).pickup)] }

/-- CLOSE STAND (R164). DESIGN CHOICE: a BAD_VALUE reply carries nothing (log 48). -/
def closeStand (n deadline force : Nat) (w : Work) : BlockReply × Work :=
  match standOf n, flagOf force with
  | some sd, some f =>
    if 3600 < deadline then (.bad, w)
    else match (w.stand sd).state with
      | .opened =>
        let w' := ((w.onStand sd (Stand.close deadline f)).request sd true).closeTest sd
        (closeReply .accepted sd w w', w')
      | .closing =>
        let w' := w.onStand sd (Stand.close deadline f)
        (closeReply .accepted sd w w', w')
      | .unopened | .closed => (closeReply .ok sd w w, w)
  | _, _ => (.bad, w)

/-- CLOSE_STAND (R164). -/
def execCloseStand (s : State) : Step :=
  .next (s.block fun
    | .closeStand n d f => some (asWork (closeStand n d f))
    | _ => none)

/-- CLEARANCE_REPORT: the Check Engine takes the Router's report and makes the completion test, which does nothing for
a stand that is not CLOSING (R163, R165). -/
def execClearanceReport (sd : StandId) (s : State) : Step :=
  .next (if s.kr.clearance[sd].reported then
    ({ s with kr.clearance := modify s.kr.clearance sd fun c => { c with reported := false } } : State).doWork
      (Work.closeTest sd)
  else s)

/-- The deadline timer of a CLOSING stand has run out (R166). -/
def Closing.due (c : Closing) : Bool := c.timer.any fun t => decide (c.deadline ≤ t)

/-- An expiry without force: the close goes on with no deadline (R166). -/
def Work.closeTimeout (sd : StandId) (w : Work) : Work :=
  (w.raise (.closeTimeout sd (w.openChecks sd) (w.standCount sd))).onStand sd fun d =>
    { d with closing := d.closing.map fun c => { c with deadline := 0, timer := none } }

/-- The open checks of a stand, in ascending number. -/
def Work.checksOf (w : Work) (sd : StandId) : List Nat :=
  (w.ce.checks.filter fun c => decide (c.stand = sd)).map Check.number

/-- The live tickets of a stand. -/
def Work.ticketsOf (w : Work) (sd : StandId) : List Nat :=
  (w.kr.tickets.filter fun t => decide (t.stand = sd)).map Ticket.number

/-- A forced expiry: the checks are voided, the tickets freed, divert tested, and the stand shut (R167). DESIGN CHOICE:
the stations are tested in ascending number (log 46). -/
def Work.forceShut (sd : StandId) (w : Work) : Work :=
  let checks := w.checksOf sd
  let w := checks.foldl (fun w n => (w.voidCheckRest n .forced).2) w
  let tickets := w.ticketsOf sd
  let w := tickets.foldl (fun w n => w.freeRaw n) w
  let w := allStations.foldl (fun w st => w.divertTest st) w
  ((w.request sd false).onStand sd Stand.shut).raise (.closeDone sd true checks.length tickets.length)

/-- CLOSE_DEADLINE_EXPIRY (R166, R167). -/
def execCloseDeadlineExpiry (sd : StandId) (s : State) : Step :=
  .next (match s.ce.stands[sd].closing with
    | some c =>
      if c.due then s.doWork (if c.force then Work.forceShut sd else Work.closeTimeout sd) else s
    | none => s)

end Sys2Proof.Machine
end

