-- ==== Sys2Proof/Machine/Status.lean ====
section
/-! DEFINITION. READ_STATUS, SET_EVENTS, SET_UPLINK_TIMES, SERVICE_RESET, SET_CLOCK (9.3, 9.6, 9.7, 10.4, 10.6). -/
namespace Sys2Proof.Machine

/-! ### READ STATUS (R161) -/

/-- A count as READ STATUS gives it: in FAILED every count is 0 (R161). -/
def State.statusCount (s : State) (n : Nat) : Field := .count (if s.upc.part = .failed then 0 else n)

/-- READ STATUS (R161). -/
def readStatus (s : State) : BlockReply × State :=
  ({ result := .ok,
     operands := [.code s.upc.part.code, .code (selfTestCode s.upc.selfTest), .address Config.stationAddress,
       .code s.upc.state.code, .count s.upc.progress, .flag s.upc.linkUp, .address s.upc.replyAddr,
       s.statusCount s.intake.slips.length, .flag s.intake.paused, s.statusCount s.ce.checks.length,
       s.statusCount s.ce.backlog.length, s.statusCount s.kr.tickets.length, s.statusCount s.sj.records.length,
       s.statusCount s.sj.reservations, s.statusCount s.sj.free, s.statusCount s.tu.live.length,
       s.statusCount s.tu.expired.length, .clock s.clock] }, s)

/-- READ_STATUS (R161). -/
def execReadStatus (s : State) : Step :=
  .next (s.block fun
    | .readStatus => some readStatus
    | _ => none)

/-! ### SET EVENTS (R160) -/

/-- SET EVENTS: sixteen bits, of which the top one is a kind the part does not have; the reply carries the mask as the
command leaves it (R160). -/
def setEvents (mask : Nat) (s : State) : BlockReply × State :=
  if 2 ^ 15 ≤ mask then ({ result := .badValue, operands := [.count s.upc.mask.toNat] }, s)
  else ({ result := .ok, operands := [.count mask] }, { s with upc.mask := BitVec.ofNat 15 mask })

/-- SET_EVENTS (R160). -/
def execSetEvents (s : State) : Step :=
  .next (s.block fun
    | .setEvents m => some (setEvents m)
    | _ => none)

/-! ### SET UPLINK TIMES (R154) -/

/-- SET UPLINK TIMES (R154). DESIGN CHOICE: a BAD_VALUE reply carries the failing field alone (log 48), and where both
values fail it names the silence limit (log 18). -/
def setUplinkTimes (limit count : Nat) (s : State) : BlockReply × State :=
  if limit < 2 ∨ 30 < limit then (.badField 1, s)
  else if count < 1 ∨ 64 < count then (.badField 2, s)
  else
    let s := ({ s with upc.limit := limit, upc.needed := count } : State).onlineTest
    ({ result := .ok,
       operands := [.duration (some limit), .count count, .code s.upc.state.code, .count s.upc.progress] }, s)

/-- SET_UPLINK_TIMES (R154). -/
def execSetUplinkTimes (s : State) : Step :=
  .next (s.block fun
    | .setUplinkTimes l c => some (setUplinkTimes l c)
    | _ => none)

/-! ### SERVICE RESET (R168) -/

/-- The stands in ascending order. -/
def allStands : List StandId := [0, 1, 2, 3, 4, 5, 6, 7, 8, 9, 10, 11, 12, 13, 14, 15]

/-- The first condition of R168 that refuses a reset without FORCE, as NOT_QUIET carries it (R179). -/
def State.notQuiet (s : State) : Option (List Field) :=
  match allStands.find? fun sd =>
    decide (s.ce.stands[sd].state = .opened) || decide (s.ce.stands[sd].state = .closing) with
  | some sd => some [.code 1, .stand sd]
  | none =>
    if 1 ≤ s.sj.records.length then some [.code 2, .count s.sj.records.length]
    else if 1 ≤ s.sj.reservations then some [.code 3, .count s.sj.reservations]
    else none

/-- A reset is to be carried out: the blocks after it are answered NOT_RUN, and it takes effect after the reply (R158,
R168). -/
def State.planReset (force : Bool) (s : State) : State :=
  { s with upc.run := s.upc.run.map fun r => { r with skip := true, reset := some force } }

/-- SERVICE RESET (R168). -/
def serviceReset (force : Nat) (s : State) : BlockReply × State :=
  match flagOf force with
  | none => (.bad, s)
  | some true => ({ result := .ok }, s.planReset true)
  | some false =>
    match s.notQuiet with
    | some why => ({ result := .notQuiet, operands := why }, s)
    | none => ({ result := .ok }, s.planReset false)

/-- SERVICE_RESET (R168). -/
def execServiceReset (s : State) : Step :=
  .next (s.block fun
    | .serviceReset f => some (serviceReset f)
    | _ => none)

/-! ### SET CLOCK (R172) -/

/-- SET CLOCK (R172; log 21). DESIGN CHOICE: a BAD_VALUE reply carries nothing (log 48). -/
def setClock (value : Nat) (s : State) : BlockReply × State :=
  if 86399 < clockSecs value then (.bad, s)
  else
    let c : Clock := { secs := clockSecs value, unset := false }
    ({ result := .ok, operands := [.clock s.clock, .clock c] }, { s with clock := c })

/-- SET_CLOCK (R172). -/
def execSetClock (s : State) : Step :=
  .next (s.block fun
    | .setClock v => some (setClock v)
    | _ => none)

end Sys2Proof.Machine
end

