-- ==== Sys2Proof/Machine/Tables.lean ====
section
/-! DEFINITION. LOAD_ITEMS, DELETE_ITEMS, READ_ITEM, SET_STOCK, LOAD_STAND, LOAD_STATION (chapter 1). -/
namespace Sys2Proof.Machine

/-! ### Items -/

/-- A loaded station of kind PRINT or DISPLAY (R2). -/
def Work.cooks (w : Work) (st : StationId) : Bool :=
  (w.station st).cfg.loaded && decide ((w.station st).cfg.kind ≠ .expo)

/-- The item a valid entry gives; none: the entry is not valid (R2, R179). -/
def Work.validItem (w : Work) (o : ItemOperand) : Option Item :=
  match stationOf o.primary, optStationOf o.overflow, flagOf o.expo, stockOf o.stock with
  | some p, some v, some e, some k =>
    if o.code ≠ 0 ∧ o.price ≤ 99999 ∧ w.cooks p ∧ (∀ x ∈ v, w.cooks x ∧ x ≠ p) then
      some { code := o.code, price := o.price, primary := p, overflow := v, expo := e, stock := k }
    else none
  | _, _, _, _ => none

/-- The size of the Item Table (1.2). -/
def itemTableSize : Nat := 2048

/-- Apply one valid entry: replace, with the event its stock change calls for, or insert; none: the table is full
(R4). -/
def Work.putItem (i : Item) (w : Work) : Option Work :=
  match w.item? i.code with
  | some old =>
    some (({ w with ce.items := putBy Item.code i w.ce.items } : Work).raiseAll (stockEvents i.code old.stock i.stock))
  | none =>
    if w.ce.items.length < itemTableSize then some { w with ce.items := putBy Item.code i w.ce.items } else none

/-- Apply the entries in list order, from the one at position `applied + 1` (R4). -/
def loadItemsFrom : Nat → List ItemOperand → Work → BlockReply × Work
  | applied, [], w => ({ result := .ok, operands := [.count applied, .index none] }, w)
  | applied, o :: os, w =>
    match w.validItem o with
    | none => ({ result := .badValue, operands := [.count applied, .index (some (applied + 1))] }, w)
    | some i =>
      match w.putItem i with
      | none => ({ result := .full, operands := [.count applied, .index (some (applied + 1))] }, w)
      | some w => loadItemsFrom (applied + 1) os w

/-- LOAD ITEMS: 1 to 64 entries (R4). -/
def loadItems (os : List ItemOperand) (w : Work) : BlockReply × Work :=
  if os = [] ∨ 64 < os.length then ({ result := .badValue, operands := [.count 0, .index none] }, w)
  else loadItemsFrom 0 os w

/-- LOAD_ITEMS (R4). -/
def execLoadItems (s : State) : Step :=
  .next (s.block fun
    | .loadItems os => some (asWork (loadItems os))
    | _ => none)

/-- Take codes out in list order: the number removed, the number passed over, the position of the first passed over
(R5). -/
def deleteFrom : Nat → List Nat → Nat × Nat × Option Nat → Work → (Nat × Nat × Option Nat) × Work
  | _, [], r, w => (r, w)
  | i, c :: cs, (gone, skipped, first), w =>
    if (w.item? c).isSome then
      deleteFrom (i + 1) cs (gone + 1, skipped, first) { w with ce.items := eraseBy Item.code c w.ce.items }
    else deleteFrom (i + 1) cs (gone, skipped + 1, first.or (some i)) w

/-- DELETE ITEMS: 1 to 128 codes; the code 0 is an absence where none is allowed (R5, R179; log 17). DESIGN CHOICE: a
BAD_VALUE reply carries 0 removed, 0 passed over and no position (log 48). -/
def deleteItems (cs : List Nat) (w : Work) : BlockReply × Work :=
  if cs = [] ∨ 128 < cs.length ∨ 0 ∈ cs then
    ({ result := .badValue, operands := [.count 0, .count 0, .index none] }, w)
  else
    let ((gone, skipped, first), w) := deleteFrom 1 cs (0, 0, none) w
    ({ result := if skipped = 0 then .ok else .notFound, operands := [.count gone, .count skipped, .index first] }, w)

/-- DELETE_ITEMS (R5). -/
def execDeleteItems (s : State) : Step :=
  .next (s.block fun
    | .deleteItems cs => some (asWork (deleteItems cs))
    | _ => none)

/-- The six fields of an entry, in the order of the Item Table (R6, R178). -/
def Item.fields (i : Item) : List Field :=
  [.number (some i.code), .price i.price, .station (some i.primary), .station i.overflow, .flag i.expo,
    .stock i.stock]

/-- READ ITEM (R6). -/
def readItem (code : Nat) (w : Work) : BlockReply × Work :=
  if code = 0 then (.bad, w)
  else match w.item? code with
    | some i => ({ result := .ok, operands := i.fields }, w)
    | none => ({ result := .notFound, operands := [.number (some code)] }, w)

/-- READ_ITEM (R6). -/
def execReadItem (s : State) : Step :=
  .next (s.block fun
    | .readItem c => some (asWork (readItem c))
    | _ => none)

/-- SET STOCK (R9, R10). -/
def setStock (code value : Nat) (w : Work) : BlockReply × Work :=
  match stockOf value with
  | none => (.bad, w)
  | some k =>
    if code = 0 then (.bad, w)
    else match w.item? code with
      | none => ({ result := .notFound }, w)
      | some i => ({ result := .ok, operands := [.stock i.stock, .stock k] }, w.setStock i k)

/-- SET_STOCK (R9). -/
def execSetStock (s : State) : Step :=
  .next (s.block fun
    | .setStock c v => some (asWork (setStock c v))
    | _ => none)

/-! ### Stands -/

/-- A loaded station of kind EXPO (R12). -/
def Work.gathers (w : Work) (st : StationId) : Bool :=
  (w.station st).cfg.loaded && decide ((w.station st).cfg.kind = .expo)

/-- LOAD STAND, with its checks in order (R12). -/
def loadStand (sd policy expo floor : Nat) (w : Work) : BlockReply × Work :=
  match standOf sd, policyOf policy, optStationOf expo with
  | some sd, some p, some e =>
    if 50000 < floor then (.bad, w)
    else if ∃ x ∈ e, w.gathers x = false then (.bad, w)
    else if 0 < w.openChecks sd ∧ ¬ ((w.stand sd).policy = p ∧ (w.stand sd).expo = e) then
      ({ result := .inUse }, w)
    else
      ({ result := .ok },
        w.onStand sd fun d => { d with loaded := true, policy := p, expo := e, floor := floor })
  | _, _, _ => (.bad, w)

/-- LOAD_STAND (R12). -/
def execLoadStand (s : State) : Step :=
  .next (s.block fun
    | .loadStand sd p e f => some (asWork (loadStand sd p e f))
    | _ => none)

/-! ### Stations -/

/-- PRINT and DISPLAY are one family, EXPO is a family alone (R15). -/
def sameFamily (a b : StationKind) : Bool := decide (a = .expo) == decide (b = .expo)

/-- An absent duration takes its default (R15). -/
def durationOr (default n : Nat) : Nat := if n = 0xFFFF then default else n

/-- GO-any: absent is no (R15). -/
def goAnyOf (n : Nat) : Option Bool := if n = 0xFF then some false else flagOf n

/-- The value checks of R15, in order: the new settings, or the position of the failing field among the operands. -/
def Work.stationSettings (w : Work) (st : StationId) (o : StationOperand) : Except Nat StationCfg :=
  match kindOf o.kind with
  | none => .error 2
  | some kind =>
    if o.rate ∉ [19200, 38400, 57600, 115200] then .error 3
    else if 128 < o.divertLevel then .error 4
    else if (o.divertLevel = 0 ∧ o.returnLevel ≠ 0) ∨ (0 < o.divertLevel ∧ o.divertLevel ≤ o.returnLevel) then
      .error 5
    else if durationOr 5 o.takenTimeout < 1 ∨ 30 < durationOr 5 o.takenTimeout then .error 7
    else if durationOr 60 o.holdLimit < 5 ∨ 300 < durationOr 60 o.holdLimit then .error 8
    else match goAnyOf o.goAny with
      | none => .error 9
      | some g =>
        match optStationOf o.fallback with
        | none => .error 6
        | some fb =>
          if ∃ x ∈ fb, x = st ∨ (w.station x).cfg.loaded = false ∨ sameFamily (w.station x).cfg.kind kind = false then
            .error 6
          else
            .ok { loaded := true, kind := kind, rate := o.rate, divertLevel := o.divertLevel,
                  returnLevel := o.returnLevel, fallback := fb, takenTimeout := durationOr 5 o.takenTimeout,
                  holdLimit := durationOr 60 o.holdLimit, goAny := g }

/-- The first condition of R16 that refuses a change of kind, by its number. -/
def Work.kindInUse (w : Work) (st : StationId) (kind : StationKind) : Option Nat :=
  let old := (w.station st).cfg
  if old.loaded = false ∨ old.kind = kind then none
  else if w.kr.tickets.any (fun t => decide (t.station = st)) then some 1
  else if kind = .expo ∧ (∃ i ∈ w.ce.items, i.primary = st ∨ i.overflow = some st) then some 2
  else if old.kind = .expo ∧ (∃ d ∈ w.ce.stands.toList, d.loaded ∧ d.expo = some st) then some 3
  else if sameFamily old.kind kind = false ∧
      (∃ x ∈ allStations, x ≠ st ∧ (w.station x).cfg.loaded ∧ (w.station x).cfg.fallback = some st) then some 4
  else none

/-- The new settings act: a first load puts the port into service with a PROBE at once, a later one compares the
backlog with the new levels (R14, R17, R125). -/
def Work.applyStation (st : StationId) (c : StationCfg) (w : Work) : Work :=
  let first := !(w.station st).cfg.loaded
  let w := w.onStation st fun s => { s with cfg := c }
  if first then
    (w.onPort st fun p => { p with probe := some 0 }).emit (.output (.probe st (probeFrame st)))
  else w.divertTest st

/-- LOAD STATION (R14 to R17). -/
def loadStation (o : StationOperand) (w : Work) : BlockReply × Work :=
  match stationOf o.station with
  | none => (.badField 1, w)
  | some st =>
    match w.stationSettings st o with
    | .error f => (.badField f, w)
    | .ok c =>
      match w.kindInUse st c.kind with
      | some n => ({ result := .inUse, operands := [.code n] }, w)
      | none => ({ result := .ok }, w.applyStation st c)

/-- LOAD_STATION (R15). -/
def execLoadStation (s : State) : Step :=
  .next (s.block fun
    | .loadStation o => some (asWork (loadStation o))
    | _ => none)

end Sys2Proof.Machine
end

