-- ==== Sys2Proof/Machine/TillLines.lean ====
section
/-! DEFINITION. The till lines: LOAD_LINE, LOAD_TILL, READ_TILLS, SET_INTAKE_MARKS, and the calls with their answers
(chapter 2). -/
namespace Sys2Proof.Machine

/-- The drops of a line in ascending order. -/
def allDrops : List DropId := [0, 1, 2, 3, 4, 5, 6, 7, 8, 9, 10, 11, 12, 13, 14, 15]

/-! ### The call ring (R25) -/

/-- The till is in the call ring. -/
def TillLine.inRing (l : TillLine) (d : DropId) : Bool := l.tills[d].enabled

/-- The till is due in the present round (R25). -/
def TillLine.isDue (l : TillLine) (d : DropId) : Bool :=
  l.inRing d && (l.tills[d].present || l.round == 0)

/-- The next due till of the present round (R25). -/
def TillLine.nextDue (l : TillLine) : Option DropId :=
  allDrops.find? fun d => l.isDue d && l.roundPos.all fun p => decide (p < d)

/-- The round count advances, wrapping from 15 to 0, and the next round begins (R25). -/
def TillLine.nextRound (l : TillLine) : TillLine :=
  { l with round := if 15 ≤ l.round then 0 else l.round + 1, roundPos := none }

/-- A round whose last due till has been called has ended (R25). An empty ring does not advance. DESIGN CHOICE: when a
round ends that LOAD TILL has left with no due till, or that a pause has held open (log 52). -/
def TillLine.closeRound (l : TillLine) : TillLine :=
  if l.roundPos.isSome ∧ l.nextDue = none ∧ allDrops.any l.inRing then l.nextRound else l

/-- The TLC may choose its next call: the part is RUNNING, the line enabled, and no call in progress (R20, R26). -/
def State.lineFree (s : State) (l : LineId) : Bool :=
  s.running && s.lines[l].enabled && s.lines[l].call.isNone

/-! ### Calls (R26, R34) -/

/-- Record a till given a slip call, with the settings the call starts with (R21, R25, R26). -/
def TillLine.beginCall (d : DropId) (l : TillLine) : TillLine :=
  { l with ringPos := some d, roundPos := some d,
           call := some { drop := d, malformed := false, rate := l.rate, window := l.window, turn := l.turn } }

/-- SLIP_CALL: the next due till is called, unless the intake is paused; the response window opens as the driver is
released (R25, R26, R33). DESIGN CHOICE: a round left with no due till ends as this call is chosen, and stays as it is
where the round after it has none due either (log 52). -/
def execSlipCall (l : LineId) (s : State) : Step :=
  .next (if s.lineFree l ∧ s.intake.paused = false then
    let t := s.lines[l].closeRound
    match t.nextDue with
    | some d => (s.onLine l fun _ => t.beginCall d).talk l 0 t.turn fun s => s.send (.till l [slipCallChar d])
    | none => s
  else s)

/-- EMPTY_ROUND: a round in which no till is due has lasted one response window, with the driver released (R25).
DESIGN CHOICE: where the round before it was left with no due till by LOAD TILL, or held open by a pause, both end
here: the round count advances by two in one step, and no state shows the value between (log 52). -/
def execEmptyRound (l : LineId) (s : State) : Step :=
  .next (if s.lineFree l ∧ s.intake.paused = false then
    let t := s.lines[l].closeRound
    if t.roundPos = none ∧ t.nextDue = none ∧ allDrops.any t.inRing then s.onLine l fun _ => t.nextRound else s
  else s)

/-- The oldest notice of a till leaves its queue and is sent, with the LOST mark, which clears the flag (R30, R36). -/
def State.deliver (l : LineId) (d : DropId) (s : State) : State :=
  match s.lines[l].tills[d].notices with
  | [] => s
  | n :: rest =>
    (s.onLine l (TillLine.onTill d fun t => { t with notices := rest, lost := false })).send
      (.till l (n.frame s.lines[l].tills[d].lost))

/-- The drops in the order a walk searches them: from the one after `p` round to `p` itself (R34). -/
def walkFrom (p : Option DropId) : List DropId :=
  match p with
  | none => allDrops
  | some p => allDrops.filter (fun d => decide (p < d)) ++ allDrops.filter fun d => decide (d ≤ p)

/-- The till that the next deliver call goes to (R34). -/
def TillLine.nextWalk (l : TillLine) : Option DropId :=
  (walkFrom (l.walkPos.or l.ringPos)).find? fun d => l.inRing d && !l.tills[d].notices.isEmpty

/-- DELIVER_CALL: while the intake is paused, the next enabled till with a notice waiting is called and sent its
oldest notice; the driver is held from the call character to one turnaround after the notice (R34; log 50). -/
def execDeliverCall (l : LineId) (s : State) : Step :=
  .next (if s.lineFree l ∧ s.intake.paused = true then
    match s.lines[l].nextWalk with
    | some d =>
      let turn := s.lines[l].turn
      (s.onLine l fun t => { t with walkPos := some d }).talk l 0 turn fun s =>
        ((s.send (.till l [deliverCallChar d])).drive l true turn).deliver l d
    | none => s
  else s)

/-! ### Answers (R27 to R31) -/

/-- The tills of a line that has been disabled return to PRESENT with miss count 0 (R21). -/
def TillLine.calm (l : TillLine) : TillLine :=
  { l with tills := mapAll (fun t => { t with present := true, misses := 0 }) l.tills }

/-- A call is complete: a line disabled meanwhile falls silent (R21); the round ends with its last due till, unless
the intake is paused (R25). DESIGN CHOICE: the round may end on the silent line too, and the tills are calmed first, so
that a till that was ABSENT counts as due (log 52). -/
def State.endCall (l : LineId) (s : State) : State :=
  s.onLine l fun t =>
    let t := { t with call := none }
    let t := if t.enabled then t else t.calm
    if s.intake.paused then t else t.closeRound

/-- Any answer clears the miss count, and makes an ABSENT till PRESENT with TILL_PRESENT (R31). -/
def State.answered (l : LineId) (d : DropId) (s : State) : State :=
  let s' := s.onLine l (TillLine.onTill d fun t => { t with present := true, misses := 0 })
  if s.lines[l].tills[d].present then s' else s'.raise (.tillPresent (tillIndex l d))

/-- The answer character, then the notice, then the end of the call; where there is nothing to send the driver stays
released (R26, R30). -/
def State.closeCall (l : LineId) (c : Call) (chars : List Byte) (s : State) : State :=
  let say := fun (s : State) => (if chars = [] then s else s.send (.till l (plainChars chars))).deliver l c.drop
  (if chars = [] ∧ s.lines[l].tills[c.drop].notices = [] then s else s.talk l c.turn c.turn say).endCall l

/-- MISS: the response window has closed with no character (R27, R31). -/
def execMiss (l : LineId) (s : State) : Step :=
  .next (match s.lines[l].call with
    | some c =>
      if c.malformed then s
      else
        let t := s.lines[l].tills[c.drop]
        let gone := decide (t.misses = 2)
        let s' := s.onLine l (TillLine.onTill c.drop fun t =>
          { t with misses := missed t.misses, present := t.present && !gone })
        (if gone then s'.raise (.tillAbsent (tillIndex l c.drop)) else s').endCall l
    | none => s)

/-- IDLE: the till has nothing to send (R27, R30, R31). -/
def execIdle (l : LineId) (s : State) : Step :=
  .next (match s.lines[l].call with
    | some c => if c.malformed then s else (s.answered l c.drop).closeCall l c []
    | none => s)

/-- The answer of the call in progress has been found malformed (R27). -/
def State.spoilCall (l : LineId) (s : State) : State :=
  s.onLine l fun t => { t with call := t.call.map fun c => { c with malformed := true } }

/-- Offer a good slip to the intake: RECEIVED when it joins, BUSY when it is declined (R28). -/
def State.takeFrame (l : LineId) (c : Call) (kind : Byte) (content : List Byte) (s : State) : State :=
  match s.offerSlip { source := .till (tillIndex l c.drop), kind := kind, content := content } with
  | some s' => s'.closeCall l c [chRECEIVED]
  | none => s.closeCall l c [chBUSY]

/-- SLIP_FRAME: the characters from SOF to EOF. A good frame is offered, a bad one is answered REPEAT, a malformed one
waits for a quiet line (R27 to R30). -/
def execSlipFrame (l : LineId) (cs : List TillChar) (s : State) : Step :=
  .next (match s.lines[l].call with
    | some c =>
      if c.malformed then s
      else match readAnswer cs with
        | .good kind content => (s.answered l c.drop).takeFrame l c kind content
        | .bad => (s.answered l c.drop).closeCall l c [chREPEAT]
        | .malformed => s.spoilCall l
        | .none | .idle | .unfinished => s
    | none => s)

/-- FRAME_GAP_TIMEOUT: the gap after the characters of an unfinished slip frame exceeds the response window (R27). -/
def execFrameGapTimeout (l : LineId) (cs : List TillChar) (s : State) : Step :=
  .next (match s.lines[l].call with
    | some _ => if readAnswer cs = .unfinished then s.spoilCall l else s
    | none => s)

/-- MALFORMED_ANSWER: the line has been quiet for one response window after a malformed answer (R27, R29, R30). -/
def execMalformedAnswer (l : LineId) (cs : List TillChar) (s : State) : Step :=
  .next (match s.lines[l].call with
    | some c =>
      if c.malformed ∨ readAnswer cs = .malformed then (s.answered l c.drop).closeCall l c [chREPEAT] else s
    | none => s)

/-! ### Control blocks -/

/-- The new settings of a line act (R21, R34). -/
def TillLine.load (enabled : Bool) (rate window turn : Nat) (l : TillLine) : TillLine :=
  let l' := { l with enabled := enabled, rate := rate, window := window, turn := turn }
  if enabled && !l.enabled then { l' with ringPos := none, roundPos := none, round := 0, walkPos := none }
  else if !enabled && l.enabled then l'.calm
  else l'

/-- LOAD LINE (R21). -/
def loadLine (line enabled rate window turn : Nat) (s : State) : BlockReply × State :=
  match lineOf line with
  | none => (.badField 1, s)
  | some l =>
    match flagOf enabled with
    | none => (.badField 2, s)
    | some e =>
      if rate ∉ [38400, 115200, 230400] then (.badField 3, s)
      else if window < 2 ∨ 50 < window then (.badField 4, s)
      else if 15 < turn then (.badField 5, s)
      else ({ result := .ok }, s.onLine l (TillLine.load e rate window turn))

/-- LOAD_LINE (R21). -/
def execLoadLine (s : State) : Step :=
  .next (s.block fun
    | .loadLine l e r w t => some (loadLine l e r w t)
    | _ => none)

/-- A Till Table entry is applied (R23). -/
def Till.load (enabled : Bool) (stand : StandId) (role : Role) (t : Till) : Till :=
  let t' := { t with enabled := enabled, stand := stand, role := role }
  if enabled = t.enabled then t'
  else if enabled then { t' with present := true, misses := 0 }
  else { t' with present := true, misses := 0, notices := [], lost := t.lost || !t.notices.isEmpty }

/-- Apply entries in list order, from the one at position `applied + 1` (R22). -/
def loadTillFrom : Nat → List TillOperand → State → BlockReply × State
  | applied, [], s => ({ result := .ok, operands := [.count applied, .index none] }, s)
  | applied, o :: os, s =>
    match tillOf o.till, flagOf o.enabled, standOf o.stand, roleOf o.role with
    | some t, some e, some d, some r =>
      loadTillFrom (applied + 1) os (s.onLine (tillLine t) (TillLine.onTill (tillDrop t) (Till.load e d r)))
    | _, _, _, _ => ({ result := .badValue, operands := [.count applied, .index (some (applied + 1))] }, s)

/-- LOAD TILL: 1 to 64 entries (R22). -/
def loadTill (os : List TillOperand) (s : State) : BlockReply × State :=
  if os = [] ∨ 64 < os.length then ({ result := .badValue, operands := [.count 0, .index none] }, s)
  else loadTillFrom 0 os s

/-- LOAD_TILL (R22). -/
def execLoadTill (s : State) : Step :=
  .next (s.block fun
    | .loadTill os => some (loadTill os)
    | _ => none)

/-- What READ TILLS reports of a till (R24). -/
def Till.fields (t : Till) : List Field :=
  [.flag t.enabled, .stand t.stand, .code t.role.code, .code (presenceCode t.present), .count t.misses,
    .count t.notices.length, .flag t.lost]

/-- READ TILLS (R24). The pause state is written as a flag (DEDUCED: log 15). -/
def readTills (line : Nat) (s : State) : BlockReply × State :=
  match lineOf line with
  | none => (.bad, s)
  | some l =>
    let t := s.lines[l]
    ({ result := .ok,
       operands := [.flag t.enabled, .rate t.rate, .duration (some t.window), .duration (some t.turn),
         .index (t.ringPos.map fun d => d.val + 1), .count t.round, .flag s.intake.paused]
         ++ allDrops.flatMap fun d => t.tills[d].fields }, s)

/-- READ_TILLS (R24). -/
def execReadTills (s : State) : Step :=
  .next (s.block fun
    | .readTills l => some (readTills l)
    | _ => none)

/-- SET INTAKE MARKS (R35). The reply writes the pause state as a flag (DEDUCED: log 15). DESIGN CHOICE: a BAD_VALUE
reply carries the failing field alone (log 48). -/
def setIntakeMarks (high low : Nat) (s : State) : BlockReply × State :=
  if high < 8 ∨ 56 < high then (.badField 1, s)
  else if high ≤ low then (.badField 2, s)
  else
    let s : State := { s with intake := { s.intake with high := high, low := low } }
    let s := s.setPaused s.intake.pausedAtMarks
    ({ result := .ok, operands := [.flag s.intake.paused] }, s)

/-- SET_INTAKE_MARKS (R35). -/
def execSetIntakeMarks (s : State) : Step :=
  .next (s.block fun
    | .setIntakeMarks h l => some (setIntakeMarks h l)
    | _ => none)

end Sys2Proof.Machine
end

