-- ==== Sys2Proof/Machine/Dispatch.lean ====
section
/-! DEFINITION. The meaning of each command: one arm per constructor, one direct call. -/
namespace Sys2Proof.Machine

/-- What a command does to everything but the queue. -/
def exec (i : Instr) (s : State) : Host.Outcome State Fault Refusal :=
  match i with
  | .powerOn => Sys2Proof.Machine.execPowerOn s
  | .selfTestDone failed => Sys2Proof.Machine.execSelfTestDone failed s
  | .venueClockTick => Sys2Proof.Machine.execVenueClockTick s
  | .ethernetLinkLost => Sys2Proof.Machine.execEthernetLinkLost s
  | .ethernetLinkUp => Sys2Proof.Machine.execEthernetLinkUp s
  | .silenceTimeout => Sys2Proof.Machine.execSilenceTimeout s
  | .envelopeSent => Sys2Proof.Machine.execEnvelopeSent s
  | .control f => Sys2Proof.Machine.execControl f s
  | .remoteOrder f => Sys2Proof.Machine.execRemoteOrder f s
  | .authAnswer f => Sys2Proof.Machine.execAuthAnswer f s
  | .keepalive f => Sys2Proof.Machine.execKeepalive f s
  | .otherEnvelopeKind f => Sys2Proof.Machine.execOtherEnvelopeKind f s
  | .loadItems => Sys2Proof.Machine.execLoadItems s
  | .deleteItems => Sys2Proof.Machine.execDeleteItems s
  | .readItem => Sys2Proof.Machine.execReadItem s
  | .setStock => Sys2Proof.Machine.execSetStock s
  | .loadStand => Sys2Proof.Machine.execLoadStand s
  | .loadStation => Sys2Proof.Machine.execLoadStation s
  | .loadLine => Sys2Proof.Machine.execLoadLine s
  | .loadTill => Sys2Proof.Machine.execLoadTill s
  | .readTills => Sys2Proof.Machine.execReadTills s
  | .setIntakeMarks => Sys2Proof.Machine.execSetIntakeMarks s
  | .queryCheck => Sys2Proof.Machine.execQueryCheck s
  | .voidCheckBlock => Sys2Proof.Machine.execVoidCheckBlock s
  | .setAuthTimes => Sys2Proof.Machine.execSetAuthTimes s
  | .stationControl => Sys2Proof.Machine.execStationControl s
  | .readStations => Sys2Proof.Machine.execReadStations s
  | .drainJournal => Sys2Proof.Machine.execDrainJournal s
  | .drainBurstRecord => Sys2Proof.Machine.execDrainBurstRecord s
  | .setJournalWarning => Sys2Proof.Machine.execSetJournalWarning s
  | .setUplinkTimes => Sys2Proof.Machine.execSetUplinkTimes s
  | .setEvents => Sys2Proof.Machine.execSetEvents s
  | .readStatus => Sys2Proof.Machine.execReadStatus s
  | .openStand => Sys2Proof.Machine.execOpenStand s
  | .closeStand => Sys2Proof.Machine.execCloseStand s
  | .serviceReset => Sys2Proof.Machine.execServiceReset s
  | .setClock => Sys2Proof.Machine.execSetClock s
  | .emptyRound l => Sys2Proof.Machine.execEmptyRound l s
  | .slipCall l => Sys2Proof.Machine.execSlipCall l s
  | .miss l => Sys2Proof.Machine.execMiss l s
  | .idle l => Sys2Proof.Machine.execIdle l s
  | .slipFrame l cs => Sys2Proof.Machine.execSlipFrame l cs s
  | .frameGapTimeout l cs => Sys2Proof.Machine.execFrameGapTimeout l cs s
  | .malformedAnswer l cs => Sys2Proof.Machine.execMalformedAnswer l cs s
  | .deliverCall l => Sys2Proof.Machine.execDeliverCall l s
  | .order => Sys2Proof.Machine.execOrder s
  | .add => Sys2Proof.Machine.execAdd s
  | .split => Sys2Proof.Machine.execSplit s
  | .tender => Sys2Proof.Machine.execTender s
  | .voidLine => Sys2Proof.Machine.execVoidLine s
  | .voidCheck => Sys2Proof.Machine.execVoidCheck s
  | .query => Sys2Proof.Machine.execQuery s
  | .remoteOrderProcess => Sys2Proof.Machine.execRemoteOrderProcess s
  | .unknownSlipKind => Sys2Proof.Machine.execUnknownSlipKind s
  | .fireBacklogTry => Sys2Proof.Machine.execFireBacklogTry s
  | .authAnswerTaken tag v => Sys2Proof.Machine.execAuthAnswerTaken tag v s
  | .authWaitExpiry tag => Sys2Proof.Machine.execAuthWaitExpiry tag s
  | .lateWindowExpiry => Sys2Proof.Machine.execLateWindowExpiry s
  | .completion ticket => Sys2Proof.Machine.execCompletion ticket s
  | .recallOffer ticket => Sys2Proof.Machine.execRecallOffer ticket s
  | .ticket st => Sys2Proof.Machine.execTicket st s
  | .ticketFrameEnd st => Sys2Proof.Machine.execTicketFrameEnd st s
  | .probeTimerExpiry st => Sys2Proof.Machine.execProbeTimerExpiry st s
  | .taken st cs => Sys2Proof.Machine.execTaken st cs s
  | .bump st cs => Sys2Proof.Machine.execBump st cs s
  | .recallFrame st cs => Sys2Proof.Machine.execRecallFrame st cs s
  | .fault st cs => Sys2Proof.Machine.execFault st cs s
  | .helloFrame st cs => Sys2Proof.Machine.execHelloFrame st cs s
  | .hold st => Sys2Proof.Machine.execHold st s
  | .go st c => Sys2Proof.Machine.execGo st c s
  | .stationFrameDiscard st cs => Sys2Proof.Machine.execStationFrameDiscard st cs s
  | .stationFrameGapTimeout st => Sys2Proof.Machine.execStationFrameGapTimeout st s
  | .takenTimeout st slot => Sys2Proof.Machine.execTakenTimeout st slot s
  | .holdLimit st => Sys2Proof.Machine.execHoldLimit st s
  | .clearanceReport sd => Sys2Proof.Machine.execClearanceReport sd s
  | .closeDeadlineExpiry sd => Sys2Proof.Machine.execCloseDeadlineExpiry sd s

end Sys2Proof.Machine
end

