-- ==== Sys2Proof/WellFormed.lean ====
section
/-! DEFINITION. Which commands are well formed: the operands that name a numbered thing name a number the part can
give out, and what is received has a size its medium can carry. The meanings are total and do not rely on it. -/
namespace Sys2Proof

/-- A tag or a ticket number runs from 1 to 65,535 (R85, R102). -/
def WellFormed.number (n : Nat) : Bool := decide (1 ≤ n) && decide (n ≤ 65535)

/-- The payload of an Ethernet frame is at most 1,500 bytes. PRESUMED (Ethernet): log 35. -/
def WellFormed.frame (f : EthFrame) : Bool := decide (f.payload.length ≤ 1500)

/-- A self-test names each memory at most once. -/
def WellFormed.memories (ms : List Memory) : Bool := decide ms.Nodup

/-- An answer or a frame whose characters have come in holds at least one. -/
def WellFormed.chars {α : Type} (cs : List α) : Bool := !cs.isEmpty

/-- The well-formed commands. -/
def WellFormed : Instr → Bool
  | .selfTestDone ms => WellFormed.memories ms
  | .control f | .remoteOrder f | .authAnswer f | .keepalive f | .otherEnvelopeKind f => WellFormed.frame f
  | .slipFrame _ cs | .frameGapTimeout _ cs => WellFormed.chars cs
  | .authAnswerTaken tag _ | .authWaitExpiry tag => WellFormed.number tag
  | .completion n | .recallOffer n => WellFormed.number n
  | .taken _ cs | .bump _ cs | .recallFrame _ cs | .fault _ cs | .helloFrame _ cs
  | .stationFrameDiscard _ cs => WellFormed.chars cs
  | .powerOn | .venueClockTick | .ethernetLinkLost | .ethernetLinkUp | .silenceTimeout | .envelopeSent => true
  | .loadItems | .deleteItems | .readItem | .setStock | .loadStand | .loadStation | .loadLine | .loadTill
  | .readTills | .setIntakeMarks | .queryCheck | .voidCheckBlock | .setAuthTimes | .stationControl
  | .readStations | .drainJournal | .drainBurstRecord | .setJournalWarning | .setUplinkTimes | .setEvents
  | .readStatus | .openStand | .closeStand | .serviceReset | .setClock => true
  | .emptyRound _ | .slipCall _ | .miss _ | .idle _ | .malformedAnswer _ _ | .deliverCall _ => true
  | .order | .add | .split | .tender | .voidLine | .voidCheck | .query | .remoteOrderProcess
  | .unknownSlipKind => true
  | .fireBacklogTry | .lateWindowExpiry => true
  | .ticket _ | .ticketFrameEnd _ | .probeTimerExpiry _ | .hold _ | .go _ _ | .stationFrameGapTimeout _
  | .takenTimeout _ _ | .holdLimit _ => true
  | .clearanceReport _ | .closeDeadlineExpiry _ => true

end Sys2Proof
end

