-- ==== Sys2Proof/Safety.lean ====
section
/-! DEFINITION. The properties that the statements are about: what every step keeps, and what a command leaves
alone. -/
namespace Sys2Proof.Machine

/-! ### What every step keeps -/

/-- Keys of a table in strictly rising order. -/
def Rising {α : Type} (key : α → Nat) (l : List α) : Prop := (l.map key).Pairwise (· < ·)

/-- Queues and stores within their sizes: the intake (R32), the send queue (R151), the control queue (R155), the notice
queues (R36), the recall lists (R117), the Ticket Store, keyed by number (R101). Counters within their ranges: the clock
(R172), the silence limit, the recovery count and the progress (9.3, R152, R154), the ticket counter (R102), the record
counter (R140), the pickup counters (R40), the round and miss counts (R25, R31), the bad-frame counts (R123). -/
def State.QueuesBounded (s : State) : Prop :=
  s.intake.slips.length ≤ 64 ∧ s.upc.sendQueue.length ≤ 64 ∧ s.upc.waiting.length ≤ 4 ∧
  s.kr.tickets.length ≤ 1024 ∧ Rising Ticket.number s.kr.tickets ∧
  s.clock.secs ≤ 86399 ∧ 2 ≤ s.upc.limit ∧ s.upc.limit ≤ 30 ∧ 1 ≤ s.upc.needed ∧ s.upc.needed ≤ 64 ∧
  s.upc.progress ≤ 64 ∧ (s.upc.state = .recovering → s.upc.progress < s.upc.needed) ∧
  1 ≤ s.kr.ticketCtr ∧ s.kr.ticketCtr ≤ 65535 ∧ 1 ≤ s.sj.recordCtr ∧ s.sj.recordCtr ≤ 4294967295 ∧
  (∀ sd : StandId, 1 ≤ s.ce.stands[sd].pickup ∧ s.ce.stands[sd].pickup ≤ 999) ∧
  (∀ st : StationId, s.kr.stations[st].recallL.length ≤ 8 ∧ s.ports[st].badFrames ≤ 65535) ∧
  (∀ l : LineId, s.lines[l].round ≤ 15) ∧
  ∀ (l : LineId) (d : DropId), s.lines[l].tills[d].notices.length ≤ 4 ∧ s.lines[l].tills[d].misses ≤ 3

/-- The tickets that stand at a station, with the state that goes with their place (R103). -/
def State.ticketsAt (s : State) (st : StationId) : List (Nat × TicketState) :=
  (s.kr.stations[st].voidQ ++ s.kr.stations[st].normalQ).map (·, .queued) ++
  (s.ports[st].slotA.toList ++ s.ports[st].slotB.toList).map (fun x => (x.ticket, .sending)) ++
  s.kr.stations[st].shown.map (·, .shown) ++ s.kr.stations[st].recallL.map (·, .bumped)

/-- Every live ticket is in exactly one place, which goes with its state and its kind (R103), and a place names live
tickets only. What this rests on: the out slots of a port that is not UP, or not loaded, are EMPTY (R122, R125, R127),
and no station is its own fallback (R15). -/
def State.TicketsPlaced (s : State) : Prop :=
  (∀ st, ((s.ticketsAt st).map Prod.fst).Nodup) ∧
  (∀ st n x, (n, x) ∈ s.ticketsAt st ↔
    x ≠ .waiting ∧ ∃ k ∈ s.kr.tickets, k.number = n ∧ k.station = st ∧ k.state = x) ∧
  (∀ k ∈ s.kr.tickets, k.state = .waiting → k.kind = .assembly) ∧
  (∀ st : StationId, ∀ k ∈ s.kr.tickets,
    (k.number ∈ s.kr.stations[st].voidQ → k.kind = .void) ∧ (k.number ∈ s.kr.stations[st].normalQ → k.kind ≠ .void)) ∧
  (∀ st : StationId, s.ports[st].link ≠ .up ∨ s.kr.stations[st].cfg.loaded = false →
    s.ports[st].slotA = none ∧ s.ports[st].slotB = none) ∧
  (∀ st : StationId, s.kr.stations[st].cfg.fallback ≠ some st)

/-- The driver of every till line is released between two commands (R25, R26, R34). -/
def State.DriversReleased (s : State) : Prop := ∀ l : LineId, s.lines[l].driver = false

/-- The intake is paused from the high mark down to the low mark (R33, R35). -/
def State.PauseMatches (s : State) : Prop :=
  s.intake.low < s.intake.high ∧
  (s.intake.paused = false → s.intake.slips.length < s.intake.high) ∧
  (s.intake.paused = true → s.intake.low < s.intake.slips.length)

/-- While the link is down nothing is in the send queue (R151), and the recovery is below its count while it goes on
(R152, R154). -/
def State.UplinkSound (s : State) : Prop :=
  (s.upc.linkUp = false → s.upc.sendQueue = []) ∧ (s.upc.state = .recovering → s.upc.progress < s.upc.needed)

/-- In STARTING the uplink is LOST, nothing is run for the host, no till is called and no slip is taken (R169). -/
def State.StartingQuiet (s : State) : Prop :=
  s.upc.part = .starting →
    s.upc.state = .lost ∧ s.upc.silence = none ∧ s.upc.run = none ∧ s.upc.waiting = [] ∧ s.intake.slips = [] ∧
    s.sj.burst = none ∧ ∀ l : LineId, s.lines[l].call = none

/-- Each open check and each authorization entry, live or expired, holds one reservation, and no other reservation is
held; records and reservations together stay within the journal (R38, R88, R95, R141). -/
def State.ReservationsMatch (s : State) : Prop :=
  s.sj.reservations = s.ce.checks.length + s.tu.live.length + s.tu.expired.length ∧
  s.sj.records.length + s.sj.reservations ≤ journalSize ∧
  Rising Check.number s.ce.checks ∧ s.ce.checks.length ≤ tableSize ∧
  (∀ c ∈ s.ce.checks, 1 ≤ c.number ∧ c.number ≤ 9999) ∧ 1 ≤ s.ce.checkCtr ∧ s.ce.checkCtr ≤ 9999 ∧
  Rising AuthEntry.tag s.tu.live ∧ s.tu.live.length ≤ authTableSize ∧ s.tu.expired.length ≤ expiredSize ∧
  ((s.tu.live.map AuthEntry.tag) ++ (s.tu.expired.map fun e => e.entry.tag)).Nodup ∧
  (∀ e ∈ s.tu.live, 1 ≤ e.tag ∧ e.tag ≤ 65535) ∧ (∀ e ∈ s.tu.expired, 1 ≤ e.entry.tag ∧ e.entry.tag ≤ 65535) ∧
  1 ≤ s.tu.tagCtr ∧ s.tu.tagCtr ≤ 65535

/-- No reset waits for the end of its envelope between two steps (R158, R168). -/
def State.NoResetPends (s : State) : Prop := ∀ r, s.upc.run = some r → r.reset = none

/-- The bill of an open check balances: the total is the sum over its lines that are not VOIDED, the dues of its
shares sum to the total, and no line index stands twice (R38, R68, 3.1). -/
def Check.balanced (c : Check) : Prop :=
  c.total = lineTotal c.lines ∧ (c.shares.map Share.due).sum = c.total ∧ (c.lines.map Line.index).Nodup

/-- Every bill balances, the Check Table is keyed by number, and the Fire Backlog holds one entry for a check that has
FIRING lines, with just those lines, and so at most as many entries as the Check Table (R38, R64, R107). -/
def State.BillsBalance (s : State) : Prop :=
  Rising Check.number s.ce.checks ∧ s.ce.checks.length ≤ tableSize ∧ (∀ c ∈ s.ce.checks, c.balanced) ∧
  (s.ce.backlog.map Firing.check).Nodup ∧
  (∀ f ∈ s.ce.backlog, f.lines ≠ [] ∧ ∃ c ∈ s.ce.checks, c.number = f.check ∧
    ∀ i ∈ f.lines, ∃ l ∈ c.lines, l.index = i ∧ l.state = .firing) ∧
  (∀ c ∈ s.ce.checks, ∀ l ∈ c.lines, l.state = .firing →
    ∃ f ∈ s.ce.backlog, f.check = c.number ∧ l.index ∈ f.lines)

/-! ### A slip as it is taken, and what it asks -/

/-- The head slip of the intake is this one, from this till (R32). -/
def State.headSlip (s : State) (t : TillId) (kind : Byte) (content : List Byte) (rest : List Slip) : Prop :=
  s.intake.slips = { source := .till t, kind := kind, content := content } :: rest

/-- The state once the head slip has left the intake: the pause ends when the length has come down to the low mark, and
the walk positions with it (R32 to R34). -/
def State.afterTaking (rest : List Slip) (s : State) : State :=
  let paused := s.intake.paused && decide (s.intake.low < rest.length)
  { s with
    intake := { s.intake with slips := rest, paused := paused }
    lines := if s.intake.paused = true ∧ paused = false then mapAll (fun l => { l with walkPos := none }) s.lines
      else s.lines }

/-- The command that takes a till slip of a kind (R174). -/
def slipCommand (kind : Byte) : Instr :=
  if kind = 1 then .order else if kind = 2 then .add else if kind = 3 then .split else if kind = 4 then .tender
  else if kind = 5 then .voidLine else if kind = 6 then .voidCheck else if kind = 7 then .query else .unknownSlipKind

/-- The open check with a number. -/
def State.hasCheck (s : State) (n : Nat) (c : Check) : Prop := lookupBy Check.number n s.ce.checks = some c

/-- A till may act on a check: a SUPERVISOR on any, a CASHIER on those of its own stand (R43). -/
def State.mayAct (s : State) (t : TillId) (c : Check) : Prop :=
  (s.till t).role = .supervisor ∨ c.stand = (s.till t).stand

/-- Another check is as it was, but that its lines may have gone to the kitchen (R108). -/
def Check.SameBill (c d : Check) : Prop :=
  d.shares = c.shares ∧ d.total = c.total ∧ d.state = c.state ∧ d.mode = c.mode ∧
  d.lines.map Line.index = c.lines.map Line.index

/-- The item a slip's line names is in the Item Table, and every counted item has enough for all the lines of the slip
that name it (R8, R44). -/
def State.canSell (s : State) (ls : List SlipLine) : Prop :=
  (∀ l ∈ ls, ∃ i, lookupBy Item.code l.item s.ce.items = some i) ∧
  (∀ l ∈ ls, ∀ i k, lookupBy Item.code l.item s.ce.items = some i → i.stock = .count k →
    ((ls.filter fun x => x.item == l.item).map SlipLine.qty).sum ≤ k)

/-- The sum of quantity × unit price over the lines of a slip, at the Item Table's present prices (R44). -/
def State.priceOf (s : State) (ls : List SlipLine) : Nat :=
  (ls.map fun l => l.qty * ((lookupBy Item.code l.item s.ce.items).map Item.price).getD 0).sum

/-- A line of a check is the snapshot of a slip's line (R7, R45). -/
def State.snapshot (s : State) (x : SlipLine) (l : Line) : Prop :=
  ∃ i, lookupBy Item.code x.item s.ce.items = some i ∧ l.item = x.item ∧ l.qty = x.qty ∧ l.mods = x.mods ∧
    l.price = i.price ∧ l.primary = i.primary ∧ l.overflow = i.overflow ∧ l.expo = i.expo ∧ l.owner = none

/-- The stock counts after a slip's lines are accepted (R8): a counted item falls by what the slip asks of it, and no
other field of the table changes. -/
def State.stockTaken (s u : State) (ls : List SlipLine) : Prop :=
  ∀ code, lookupBy Item.code code u.ce.items = (lookupBy Item.code code s.ce.items).map fun i =>
    match i.stock with
    | .uncounted => i
    | .count k => { i with stock := .count (k - ((ls.filter fun x => x.item == code).map SlipLine.qty).sum) }

/-- The stock counts after lines are voided (R8): a counted item rises by their quantities, up to 65,535. -/
def State.stockReturned (s u : State) (ls : List Line) : Prop :=
  ∀ code, lookupBy Item.code code u.ce.items = (lookupBy Item.code code s.ce.items).map fun i =>
    match i.stock with
    | .uncounted => i
    | .count k =>
      if ∃ l ∈ ls, l.item = code then
        { i with stock := .count (min 65535 (k + ((ls.filter fun x => x.item == code).map Line.qty).sum)) }
      else i

/-- The lines of a check that a firing carries have gone to the kitchen together, or wait for it together in the Fire
Backlog (R45, R106, R107). -/
def State.fired (u : State) (n : Nat) (ls : List Line) : Prop :=
  (∀ l ∈ ls, l.state = .fired) ∨
  (∀ l ∈ ls, l.state = .firing ∧ ∃ f ∈ u.ce.backlog, f.check = n ∧ l.index ∈ f.lines)

/-- A check has been opened over the lines of a slip: its number was free, its stand's pickup number too, its lines are
the slip's in order, its one share is the whole total, and one reservation is held for it (R38, R40, R45, R58). -/
def State.OpenedCheck (s u : State) (d : Check) (sd : StandId) (o : Origin) (notify : Bool) (ls : List SlipLine)
    (prepaid : Bool) : Prop :=
  (∀ c ∈ s.ce.checks, c.number ≠ d.number) ∧ (∀ c ∈ s.ce.checks, c.stand = sd → c.pickup ≠ d.pickup) ∧
  u.hasCheck d.number d ∧ (∀ m, m ≠ d.number → lookupBy Check.number m u.ce.checks = lookupBy Check.number m s.ce.checks) ∧
  d.stand = sd ∧ d.origin = o ∧ d.notify = notify ∧ d.mode = .whole ∧ d.readySent = false ∧
  d.total = s.priceOf ls ∧ d.lines.map Line.index = (List.range ls.length).map (· + 1) ∧
  List.Forall₂ s.snapshot ls d.lines ∧
  d.shares = [if prepaid = true ∧ 0 < d.total then
      { index := 1, due := d.total, tendered := d.total, state := .paid,
        tenders := [{ kind := .prepaid, amount := d.total, state := .approved, tag := none }] }
    else { index := 1, due := d.total, tendered := 0, state := if d.total = 0 then .paid else .due, tenders := [] }] ∧
  (d.state = .paid ↔ prepaid = true ∨ d.total = 0) ∧
  (s.ce.stands[sd].policy = .fireOnPay → d.state = .opened → ∀ l ∈ d.lines, l.state = .held) ∧
  (s.ce.stands[sd].policy = .fireOnOrder ∨ d.state = .paid → u.fired d.number d.lines) ∧
  u.ce.checkCtr = (if d.number < 9999 then d.number + 1 else 1) ∧
  u.ce.stands[sd].pickup = (if d.pickup < 999 then d.pickup + 1 else 1) ∧
  s.stockTaken u ls ∧ u.sj.reservations = s.sj.reservations + 1 ∧ u.sj.records = s.sj.records ∧ u.tu = s.tu

/-! ### Splits (R66 to R72) -/

/-- The number of shares a split creates (4.4). -/
def SplitOperand.shares : SplitOperand → Nat
  | .even n => n
  | .byLine n _ => n
  | .byAmount as => as.length

/-- The due of the new share number `k`, counted from 0 in the mode's order (R69 to R71). -/
def Check.dueOf (c : Check) (o : SplitOperand) (k : Nat) : Nat :=
  match o with
  | .even n => if k = 0 then c.balance / n + c.balance % n else c.balance / n
  | .byLine _ a =>
    ((c.lines.filter fun l => decide (l.state ≠ .voided) && decide ((l.index, k + 1) ∈ a)).map
      fun l => l.qty * l.price).sum
  | .byAmount as => as.getD k 0

/-- The indices that no PAID share holds, in ascending order (R68). -/
def Check.openIndices (c : Check) : List Nat :=
  [1, 2, 3, 4, 5, 6, 7, 8].filter fun i => ! c.shares.any fun x => decide (x.state = .paid) && decide (x.index = i)

/-- The tests of R67 on the shares and the operands, 3 to 8. -/
def Check.splitFits (c : Check) (o : SplitOperand) : Prop :=
  (∀ x ∈ c.shares, x.state ≠ .authorizing) ∧ (∀ x ∈ c.shares, x.state ≠ .paid → x.tendered = 0) ∧ 0 < c.balance ∧
  (c.shares.countP fun x => decide (x.state = .paid)) + o.shares ≤ 8 ∧
  match o with
  | .even n => 1 ≤ n
  | .byLine n a =>
    (∀ x ∈ c.shares, x.state ≠ .paid) ∧
    (∀ e ∈ a, ∃ l ∈ c.lines, l.index = e.1 ∧ l.state ≠ .voided) ∧ (a.map Prod.fst).Nodup ∧ (∀ e ∈ a, e.2 ≤ n) ∧
    (∀ l ∈ c.lines, l.state ≠ .voided → ∃ e ∈ a, e.1 = l.index) ∧ (∀ g, 1 ≤ g → g ≤ n → ∃ e ∈ a, e.2 = g)
  | .byAmount as => as.sum = c.balance ∧ ∀ a ∈ as, 1 ≤ a

/-! ### Voided checks (R51, R56) -/

/-- What the CHECK_VOIDED record of a check holds: its DONE lines make the total, and every other line is marked
voided (R51, R56). -/
def Check.voidSummary (c : Check) : CheckSummary :=
  { stand := c.stand, check := c.number, pickup := c.pickup, origin := c.origin,
    total := ((c.lines.filter fun l => decide (l.state = .done)).map fun l => l.qty * l.price).sum,
    lines := c.lines.map fun l =>
      { item := l.item, qty := l.qty, price := l.price, voided := decide (l.state ≠ .done) },
    tenders := c.shares.flatMap fun x => x.tenders.map fun t => { share := x.index, tender := t } }

/-- A check has closed: it has left the table with one CHECK_CLOSED record, which used its reservation (R55). -/
def State.ClosedCheck (s u : State) (n total : Nat) : Prop :=
  (∀ d ∈ u.ce.checks, d.number ≠ n) ∧
  ∃ x : CheckSummary, x.check = n ∧ x.total = total ∧
    u.sj.records = s.sj.records ++ [Record.mk s.sj.recordCtr s.clock (.checkClosed x)] ∧
    u.sj.reservations = s.sj.reservations - 1

/-- A check has been voided: it has left the table with one CHECK_VOIDED record, which used its reservation, and the
entries of its PENDING tenders are orphan (R51). -/
def State.VoidedCheck (s u : State) (c : Check) (why : VoidReason) : Prop :=
  (∀ d ∈ u.ce.checks, d.number ≠ c.number) ∧
  (∀ d ∈ s.ce.checks, d.number ≠ c.number → ∃ d' ∈ u.ce.checks, d'.number = d.number ∧ d.SameBill d') ∧
  (∀ f ∈ u.ce.backlog, f.check ≠ c.number) ∧
  (∀ t ∈ u.kr.tickets, t.check ≠ some c.number) ∧
  u.sj.records = s.sj.records ++ [Record.mk s.sj.recordCtr s.clock (.checkVoided c.voidSummary why)] ∧
  u.sj.reservations = s.sj.reservations - 1 ∧
  u.tu = { s.tu with live := s.tu.live.map fun e =>
    if ∃ x ∈ c.shares, ∃ t ∈ x.tenders, t.state = .pending ∧ t.tag = some e.tag then { e with orphan := true } else e }

/-! ### Refusals (R42, R44) -/

/-- A command that takes the head slip refuses it: the ANSWER carries the reason and the failing index, and nothing else
happens (R42). -/
def State.refuses (s : State) (i : Instr) (kind : Byte) (t : TillId) (rest : List Slip) (check : Option Nat)
    (why : Reason) (index : Option Nat) : Prop :=
  exec i s = .next ((s.afterTaking rest).post t (.answer kind check (.refused why index)))

/-- Tests 3 and 4 of R44 on the lines of a slip, the first line at fault named by its slip position. -/
def State.refusesItems (s : State) (ls : List SlipLine) (refused : Reason → Option Nat → Prop) : Prop :=
  (∀ good x more, ls = good ++ x :: more → (∀ l ∈ good, (lookupBy Item.code l.item s.ce.items).isSome) →
    lookupBy Item.code x.item s.ce.items = none → refused .unknownItem (some (good.length + 1))) ∧
  (∀ good x more i k, ls = good ++ x :: more → (∀ l ∈ ls, (lookupBy Item.code l.item s.ce.items).isSome) →
    s.canSell (ls.filter fun l => good.any fun g => g.item == l.item) →
    lookupBy Item.code x.item s.ce.items = some i → i.stock = .count k →
    k < ((ls.filter fun l => l.item == x.item).map SlipLine.qty).sum →
    refused .soldOut (some (good.length + 1)))

/-- The tests of the check and of access, where a slip names a check: it is open, and the till may act on it (R43). -/
def State.refusesCheck (s : State) (t : TillId) (n : Nat) (refused : Reason → Option Nat → Prop) : Prop :=
  ((∀ c ∈ s.ce.checks, c.number ≠ n) → refused .noCheck none) ∧
  (∀ c, s.hasCheck n c → ¬ s.mayAct t c → refused .wrongStand none)

/-- Tests 3 to 8 of R67 with the conditions of R70, each where all before it pass: the reason and the failing index.
Where several entries of an assignment fail one condition, the first of them is named (log 18). -/
def Check.refusesSplit (c : Check) (o : SplitOperand) (refused : Reason → Option Nat → Prop) : Prop :=
  let lowest := fun (p : Share → Prop) (x : Share) => x ∈ c.shares ∧ p x ∧ ∀ y ∈ c.shares, p y → x.index ≤ y.index
  let partPaid := fun (x : Share) => 0 < x.tendered ∧ x.state ≠ .paid
  let paid := c.shares.countP fun x => decide (x.state = .paid)
  let names := fun (e : Nat × Nat) => ∃ l ∈ c.lines, l.index = e.1 ∧ l.state ≠ .voided
  (∀ x, lowest (fun y => y.state = .authorizing) x → refused .pending (some x.index)) ∧
  ((∀ x ∈ c.shares, x.state ≠ .authorizing) →
    (∀ x, lowest partPaid x → refused .partPaid (some x.index)) ∧
    ((∀ x ∈ c.shares, ¬ partPaid x) →
      (c.balance = 0 → 0 < paid → refused .paidAll none) ∧
      (0 < c.balance ∨ paid = 0 →
        (∀ n a, o = .byLine n a →
          (∀ x, lowest (fun y => y.state = .paid) x → refused .tendered (some x.index)) ∧
          (paid = 0 →
            (∀ good e more, a = good ++ e :: more → (∀ g ∈ good, names g) → ¬ names e →
              refused .badSplit (some e.1)) ∧
            ((∀ e ∈ a, names e) →
              (∀ good e more, a = good ++ e :: more → (good.map Prod.fst).Nodup → e.1 ∈ good.map Prod.fst →
                refused .badSplit (some e.1)) ∧
              ((a.map Prod.fst).Nodup →
                (∀ good e more, a = good ++ e :: more → (∀ g ∈ good, g.2 ≤ n) → n < e.2 →
                  refused .badSplit (some e.1)) ∧
                ((∀ e ∈ a, e.2 ≤ n) →
                  (∀ l ∈ c.lines, l.state ≠ .voided → (∀ e ∈ a, e.1 ≠ l.index) →
                    (∀ m ∈ c.lines, m.state ≠ .voided → (∀ e ∈ a, e.1 ≠ m.index) → l.index ≤ m.index) →
                    refused .badSplit (some l.index)) ∧
                  ((∀ l ∈ c.lines, l.state ≠ .voided → ∃ e ∈ a, e.1 = l.index) →
                    (∃ g, 1 ≤ g ∧ g ≤ n ∧ ∀ e ∈ a, e.2 ≠ g) → refused .badSplit none)))))) ∧
        ((∀ n a, o ≠ .byLine n a) → 8 < paid + o.shares → refused .badSplit none) ∧
        (∀ as, o = .byAmount as → paid + o.shares ≤ 8 → as.sum ≠ c.balance → refused .sum none))))

/-! ### Drain bursts (R145) -/

/-- A drain burst has ended: its block is answered with the records sent, the number of the oldest record still held or
else the next number, and the counts (R145). -/
def State.burstEnded (sent : Nat) (s : State) : State :=
  State.finishBlock { result := .ok, operands := [.count sent,
    .amount ((s.sj.records.map Record.number).headD s.sj.recordCtr), .count s.sj.records.length,
    .count s.sj.reservations] } { s with sj := { s.sj with burst := none } }

/-! ### Voids in the kitchen (R113 to R116) -/

/-- The NORMAL ticket that last carried a line of a check. -/
def Ticket.cooks (k : Ticket) (c : Check) (l : Line) : Bool :=
  decide (k.kind = .normal) && decide (k.check = some c.number) && decide (l.ticket = some k.number)

/-- The ASSEMBLY that gathers a line of a check and has not completed. -/
def Ticket.gathers (k : Ticket) (c : Check) (l : Line) : Bool :=
  decide (k.kind = .assembly) && decide (k.check = some c.number) && decide (l.assembly = some k.number) &&
    decide (k.state ≠ .bumped)

/-- Which lines of a void event are told to a station, each with the ticket that is out there with it (R113). -/
def State.told (s : State) (c : Check) (ls : List Line) (st : StationId) : List (Nat × Line) :=
  let out := fun (k : Ticket) =>
    decide (k.station = st) && (decide (k.state = .sending) || decide (k.state = .shown))
  ls.flatMap fun l =>
    ((s.kr.tickets.filter fun k => out k && decide (l.state = .fired) && k.cooks c l)
      ++ s.kr.tickets.filter fun k => out k && k.gathers c l).map fun k => (k.number, l)

/-- The stations that need a VOID ticket for a void event (R113). -/
def State.toldStations (s : State) (c : Check) (ls : List Line) : List StationId :=
  allStations.filter fun st => !(s.told c ls st).isEmpty

/-- The lines of a void event that a ticket carries or gathers. -/
def Ticket.touched (k : Ticket) (c : Check) (ls : List Line) : List Line :=
  ls.filter fun l => k.cooks c l || k.gathers c l

/-- The entries that a ticket not yet sent keeps (R114, R115). -/
def Ticket.keptBy (k : Ticket) (c : Check) (ls : List Line) : List TicketEntry :=
  k.entries.filter fun e => !(k.touched c ls).any fun l => e.line == some l.index

/-- The entries of a ticket that keeps them, marked (R114, R115). -/
def Ticket.markedBy (k : Ticket) (c : Check) (ls : List Line) : List TicketEntry :=
  k.entries.map fun e => if (k.touched c ls).any fun l => e.line == some l.index then { e with voided := true } else e

/-- A ticket that stands in no station yet, or in a queue, and loses its last entry to a void event: it is freed (R114,
R115). -/
def Ticket.emptiedBy (k : Ticket) (c : Check) (ls : List Line) : Bool :=
  (decide (k.state = .waiting) || decide (k.state = .queued)) && !(k.touched c ls).isEmpty && (k.keptBy c ls).isEmpty

/-- The reference of a NORMAL ticket to its ASSEMBLY after a void event: lost with an ASSEMBLY that is freed (R115). -/
def State.refAfter (s : State) (c : Check) (ls : List Line) (k : Ticket) : Option Nat :=
  if k.kind = .normal ∧ k.check = some c.number then
    k.assembly.filter fun n => !s.kr.tickets.any fun m =>
      decide (m.number = n) && decide (m.kind = .assembly) && m.emptiedBy c ls
  else k.assembly

/-- A ticket holds an ASSEMBLY back (R112): it is a component that has not completed and names, unmarked, a line that the
ASSEMBLY names unmarked. -/
def Ticket.waitedFor (t a : Ticket) : Prop :=
  t.kind = .normal ∧ t.check = a.check ∧ t.assembly = some a.number ∧ t.state ≠ .bumped ∧
  ∃ e ∈ t.entries, ∃ f ∈ a.entries, e.voided = false ∧ f.voided = false ∧ e.line.isSome ∧ e.line = f.line

/-- A station's load (R103). -/
def State.loadOf (s : State) (st : StationId) : Nat :=
  s.kr.tickets.countP fun k => decide (k.station = st) && decide (k.state ≠ .bumped)

/-- A station's backlog (R119). -/
def State.backlogOf (s : State) (st : StationId) : Nat :=
  s.kr.stations[st].voidQ.length + s.kr.stations[st].normalQ.length +
    s.ports[st].slotA.toList.length + s.ports[st].slotB.toList.length

/-! ### Station ports -/

/-- Whether a station diverts at a backlog (R119). -/
def Station.turns (x : Station) (b : Nat) : Bool :=
  if x.diverting then decide (0 < x.cfg.divertLevel ∧ x.cfg.returnLevel < b)
  else decide (0 < x.cfg.divertLevel ∧ x.cfg.divertLevel ≤ b)

/-- The event of a divert state that a backlog changes (R119). -/
def Station.turnEvents (x : Station) (st : StationId) (b : Nat) : List Event :=
  if x.turns b = x.diverting then [] else [if x.turns b then .divertOn st b else .divertOff st b]

/-- The SHOWN tickets of a station, in order, and then the SENDING ones, the older first (R122): of two occupied slots
the next-slot mark names the older (R130). -/
def State.heldAt (s : State) (st : StationId) : List Nat :=
  let a := s.ports[st].slotA.toList.map OutSlot.ticket
  let b := s.ports[st].slotB.toList.map OutSlot.ticket
  s.kr.stations[st].shown ++ (match s.ports[st].mark with | .a => a ++ b | .b => b ++ a)

/-- A ticket of this number is a VOID ticket. -/
def State.isVoid (s : State) (n : Nat) : Bool := s.kr.tickets.any fun k => k.number == n && decide (k.kind = .void)

/-- The queue of a station that went down, before any of it moves: what reverts, then what was queued, without the VOID
tickets (R122). -/
def State.queueBack (s : State) (st : StationId) : List Nat :=
  (s.heldAt st ++ s.kr.stations[st].normalQ).filter fun n => !s.isVoid n

/-- How many of the tickets of a station that went down its fallback takes: none unless it is UP, and then as many as
its load leaves room for (R122). -/
def State.fits (s : State) (st : StationId) : Nat :=
  match s.kr.stations[st].cfg.fallback with
  | none => 0
  | some f => if s.ports[f].link = .up then min (s.queueBack st).length (128 - s.loadOf f) else 0

/-- What a station's going down leaves (R122, R128, R138): the port; the queue that stays and the queue of the fallback;
the tickets freed, moved and kept; the offers made void; the divert states; the events and what goes out. The fault
code is that of the FAULT which is the cause. A restart alone sends a PROBE at once. -/
def State.WentDown (s t : State) (st : StationId) (cause : DownCause) (fault : Option Nat) : Prop :=
  let p := s.ports[st]
  let x := s.kr.stations[st]
  let moved := (s.queueBack st).take (s.fits st)
  let left := (s.queueBack st).drop (s.fits st)
  let stood := s.heldAt st ++ x.normalQ ++ x.voidQ ++ x.recallL
  let after := fun (f : StationId) => s.backlogOf f + moved.length
  let p' : Port := { p with
    link := if cause = .off then .off else .down, slotA := none, slotB := none, hold := false, holdTimer := none,
    probe := if cause = .off then none else some 0, lastDown := some cause, lastFault := fault.or p.lastFault }
  let x' : Station := { x with
    diverting := x.turns left.length, voidQ := [], normalQ := left, shown := [], recallL := [] }
  let events : List Event := x.turnEvents st left.length ++
    (match x.cfg.fallback with | some f => s.kr.stations[f].turnEvents f (after f) | none => []) ++
    [.stationDown st cause (if cause = .fault then fault else none) x.cfg.fallback moved.length left.length]
  let stands := fun (n : Nat) => decide (n ∉ stood) || decide (n ∈ x.normalQ) && !s.isVoid n
  t.ports = s.ports.set st p' ∧ t.kr.stations[st] = x' ∧
  (∀ f, f ≠ st → (x.cfg.fallback ≠ some f → t.kr.stations[f] = s.kr.stations[f]) ∧
    (x.cfg.fallback = some f → t.kr.stations[f] = { s.kr.stations[f] with
      normalQ := s.kr.stations[f].normalQ ++ moved, diverting := s.kr.stations[f].turns (after f) })) ∧
  (∀ k ∈ s.kr.tickets,
    (k.number ∉ stood → k ∈ t.kr.tickets) ∧
    (k.number ∈ left → { k with state := .queued } ∈ t.kr.tickets) ∧
    (∀ f, x.cfg.fallback = some f → k.number ∈ moved → { k with state := .queued, station := f } ∈ t.kr.tickets)) ∧
  t.kr.tickets.map Ticket.number =
    (s.kr.tickets.map Ticket.number).filter (fun n => decide (n ∉ stood) || decide (n ∈ moved ++ left)) ∧
  t.kr.completions = s.kr.completions.filter (fun o => stands o.ticket) ∧
  t.kr.recalls = s.kr.recalls.filter (fun o => stands o.ticket) ∧
  t.upc = (events.foldl (fun (u : State) e => u.raise e) s).upc ∧
  t.out = s.out ++ (if p.sending then [.ticketCut st] else []) ++
    (if cause = .restart then [.probe st (probeFrame st)] else [])

/-- What any character received does at an UP port whose station has GO-any set: the hold flag clears (R135). -/
def State.heard (s : State) (st : StationId) : State :=
  let released : Port := { s.ports[st] with hold := false, holdTimer := none }
  if s.ports[st].link = .up ∧ s.kr.stations[st].cfg.goAny = true then { s with ports := s.ports.set st released }
  else s

/-! ### What a command leaves alone -/

/-- Two states of a till that differ in its notices and its LOST flag at most. -/
def Till.SameButNotices (t u : Till) : Prop := { u with notices := t.notices, lost := t.lost } = t

/-- Two states that differ in what the part has sent, and in the notices it has posted, at most. -/
def State.SameButSent (s t : State) : Prop :=
  s.out <+: t.out ∧
  (∃ q, t.upc = { s.upc with sendQueue := q }) ∧
  (∀ l : LineId, { t.lines[l] with tills := s.lines[l].tills } = s.lines[l]) ∧
  (∀ (l : LineId) (d : DropId), s.lines[l].tills[d].SameButNotices t.lines[l].tills[d])

/-- What a piece of work of the Check Engine, the Tender Unit, the Router, a port or the journal leaves alone: the
commands that wait, the intake, the clock, the uplink but for its send queue, and the till lines but for notices
(R41). -/
def State.WorkFrame (s t : State) : Prop :=
  t.pending = s.pending ∧ t.intake = s.intake ∧ t.clock = s.clock ∧ s.SameButSent t

/-- What a station port and the Router leave alone when they work without the Check Engine: all of a work frame, and
the checks, the tables, the tenders and the journal; a try of the Fire Backlog may be offered (R108, R109, R133). -/
def State.StationFrame (s t : State) : Prop :=
  s.WorkFrame t ∧ t.lines = s.lines ∧ t.ce = { s.ce with tryOffered := t.ce.tryOffered } ∧ t.tu = s.tu ∧ t.sj = s.sj

/-- A control block that is one piece of work has changed nothing but the named parts of the Check Engine, the Tender
Unit, the Router, the ports and the journal, and what has been sent. -/
def State.OnlyBlocks (s t : State) (ce : CheckEngine) (tu : TenderUnit) (kr : KitchenRouter) (ports : Vector Port 8)
    (sj : Journal) : Prop :=
  s.WorkFrame t ∧ t.lines = s.lines ∧ t.out = s.out ∧ t.ce = ce ∧ t.tu = tu ∧ t.kr = kr ∧ t.ports = ports ∧ t.sj = sj

/-! ### Operands as the host writes them (R178, R179) -/

/-- An optional station as it is written (R179). -/
def optStationByte (o : Option StationId) : Nat := match o with | none => 0xFF | some x => x.val

/-- A flag as it is written (R179). -/
def flagByte (b : Bool) : Nat := if b then 1 else 0

/-- A stock count as it is written (R179). -/
def stockValue : Stock → Nat
  | .uncounted => 0xFFFFFF
  | .count n => n

/-- A fire policy as it is written (R179). -/
def policyByte : FirePolicy → Nat
  | .fireOnOrder => 1
  | .fireOnPay => 2

/-- The operand that carries an item. -/
def Item.operand (i : Item) : ItemOperand :=
  { code := i.code, price := i.price, primary := i.primary.val, overflow := optStationByte i.overflow,
    expo := flagByte i.expo, stock := stockValue i.stock }

/-- An item that LOAD ITEMS may load (R2). -/
def State.itemFits (s : State) (i : Item) : Prop :=
  1 ≤ i.code ∧ i.price ≤ 99999 ∧
  (s.kr.stations[i.primary].cfg.loaded = true ∧ s.kr.stations[i.primary].cfg.kind ≠ .expo) ∧
  (∀ x ∈ i.overflow, s.kr.stations[x].cfg.loaded = true ∧ s.kr.stations[x].cfg.kind ≠ .expo ∧ x ≠ i.primary) ∧
  (∀ n, i.stock = .count n → n ≤ 65535)

/-- An operand carries a station's settings: each field as it is written, or a duration of 0xFFFF or a GO-any of 0xFF,
which are absent, for a setting at its default; an absent fallback is 0xFF (R15, R179). -/
def StationCfg.writtenAs (c : StationCfg) (st : StationId) (o : StationOperand) : Prop :=
  o.station = st.val ∧ o.kind = c.kind.code ∧ o.rate = c.rate ∧ o.divertLevel = c.divertLevel ∧
  o.returnLevel = c.returnLevel ∧ o.fallback = optStationByte c.fallback ∧
  (o.takenTimeout = c.takenTimeout ∨ o.takenTimeout = 0xFFFF ∧ c.takenTimeout = 5) ∧
  (o.holdLimit = c.holdLimit ∨ o.holdLimit = 0xFFFF ∧ c.holdLimit = 60) ∧
  (o.goAny = flagByte c.goAny ∨ o.goAny = 0xFF ∧ c.goAny = false)

/-- Settings that LOAD STATION may load for a station (R15). -/
def State.settingsFit (s : State) (st : StationId) (c : StationCfg) : Prop :=
  c.loaded = true ∧ (c.rate = 19200 ∨ c.rate = 38400 ∨ c.rate = 57600 ∨ c.rate = 115200) ∧ c.divertLevel ≤ 128 ∧
  (c.divertLevel = 0 → c.returnLevel = 0) ∧ (0 < c.divertLevel → c.returnLevel < c.divertLevel) ∧
  1 ≤ c.takenTimeout ∧ c.takenTimeout ≤ 30 ∧ 5 ≤ c.holdLimit ∧ c.holdLimit ≤ 300 ∧
  ∀ x ∈ c.fallback, x ≠ st ∧ s.kr.stations[x].cfg.loaded = true ∧
    (s.kr.stations[x].cfg.kind = .expo ↔ c.kind = .expo)

/-- A Till Table entry as LOAD TILL carries it. -/
structure TillEntry where
  till    : TillId
  enabled : Bool
  stand   : StandId
  role    : Role
  deriving DecidableEq, Repr

def TillEntry.operand (e : TillEntry) : TillOperand :=
  { till := e.till.val, enabled := flagByte e.enabled, stand := e.stand.val, role := e.role.code }

/-! ### Sorts of command -/

/-- The commands of the station ports. -/
def isStationCommand : Instr → Bool
  | .ticket _ | .ticketFrameEnd _ | .probeTimerExpiry _ | .taken _ _ | .bump _ _ | .recallFrame _ _ | .fault _ _
  | .helloFrame _ _ | .hold _ | .go _ _ | .stationFrameDiscard _ _ | .stationFrameGapTimeout _ | .takenTimeout _ _
  | .holdLimit _ => true
  | _ => false

/-- The commands that are one piece of work of the Check Engine or the Tender Unit, taken from no queue of the uplink
or the intake. -/
def isWorkCommand : Instr → Bool
  | .fireBacklogTry | .authAnswerTaken _ _ | .authWaitExpiry _ | .lateWindowExpiry | .completion _ | .recallOffer _
  | .clearanceReport _ | .closeDeadlineExpiry _ => true
  | _ => false

/-- The commands that take a slip from the intake. -/
def isSlipCommand : Instr → Bool
  | .order | .add | .split | .tender | .voidLine | .voidCheck | .query | .remoteOrderProcess | .unknownSlipKind => true
  | _ => false

end Sys2Proof.Machine
end

