-- ==== Sys2Proof/Certificates/Slice0/Obligations.lean ====
section
/-! DEFINITION. The statements for the provers. A statement about a control block names the block that its owner may
carry out now (State.nextBlock), and its next state ends with State.finishBlock, about which BlocksAreAnsweredInOrder
says what it does. -/
open Sys2Proof Sys2Proof.Machine

/-! ### The machine -/

/-- A step takes the command at the front of the queue and is exec of it over the queue's rest; with none waiting the
part idles (the model's queue: log 4). -/
def Obligations.StepRunsFrontCommand : Prop :=
  (∀ (c : Instr) (rest : List Instr) (s : State), s.pending = c :: rest →
    step s = exec c { s with pending := rest }) ∧
  (∀ s : State, s.pending = [] → step s = .next s)

/-- No command faults or is refused, no command touches the queue, and what the part has sent stays sent: the log of
its transmissions only grows. For every command and every state exec answers a next state; the log of transmissions
(log 11) is extended at its end only. -/
def Obligations.EveryCommandCompletes : Prop :=
  (∀ (c : Instr) (s : State), ∃ t, exec c s = .next t ∧ t.pending = s.pending) ∧
  (∀ (c : Instr) (s t : State), exec c s = .next t → s.out <+: t.out)


/-- Every step keeps queues and stores within their sizes: the intake, the send queue, the control queue, the notice
queues, the recall lists and the Ticket Store, keyed by number. It keeps counters within their ranges: the clock, the
silence limit, the recovery count and the progress, the ticket, record and pickup counters, and the round, miss and
bad-frame counts (R25, R31, R32, R36, R40, R101, R102, R117, R123, R140, R151, R154, R155, R172). -/
def Obligations.QueuesStayBounded : Prop :=
  ∀ s t : State, s.QueuesBounded → step s = .next t → t.QueuesBounded

/-- Every step keeps the pause state in agreement with the marks (R33, R35). -/
def Obligations.PauseFollowsMarks : Prop :=
  ∀ s t : State, s.PauseMatches → step s = .next t → t.PauseMatches

/-- Every step keeps the send queue empty while the link is down, and ends a recovery at its count (R151, R152,
R154). -/
def Obligations.UplinkStaysSound : Prop :=
  ∀ s t : State, s.UplinkSound → step s = .next t → t.UplinkSound

/-- Every step keeps a STARTING part quiet, and leaves the driver of every till line released (R20, R25, R26, R34, R169).
That a command takes and releases the driver within itself is the model's choice (log 50). -/
def Obligations.StartingStaysQuiet : Prop :=
  (∀ s t : State, s.StartingQuiet → step s = .next t → t.StartingQuiet) ∧
  (∀ s t : State, s.DriversReleased → step s = .next t → t.DriversReleased)

/-- Every step keeps one reservation for each open check and each authorization entry, and no more records and
reservations than the journal holds (R38, R88, R95, R141). The premise that no reset is pending rules out states that
no run reaches: a planned reset takes effect in the step that plans it, which every step keeps too (R158, R168). -/
def Obligations.ReservationsMatchOwners : Prop :=
  (∀ s t : State, s.NoResetPends → step s = .next t → t.NoResetPends) ∧
  (∀ s t : State, s.NoResetPends → s.ReservationsMatch → step s = .next t → t.ReservationsMatch)

/-- Every step keeps every live ticket in exactly one place, which goes with its state and its kind: a queue, an out slot,
the screen or the recall list of its station, or WAITING (R103). Its premise QueuesBounded is kept by every step too
(QueuesStayBounded). -/
def Obligations.TicketsStandInOnePlace : Prop :=
  ∀ s t : State, s.QueuesBounded → s.TicketsPlaced → step s = .next t → t.TicketsPlaced

/-- The part right after power-on has all that the steps keep. -/
def Obligations.ResetMeetsInvariants : Prop :=
  State.reset.QueuesBounded ∧ State.reset.PauseMatches ∧ State.reset.UplinkSound ∧ State.reset.StartingQuiet ∧
  State.reset.DriversReleased ∧ State.reset.ReservationsMatch ∧ State.reset.NoResetPends ∧
  State.reset.TicketsPlaced ∧ State.reset.BillsBalance

/-- What the commands leave alone that are one piece of work of the Check Engine or the Tender Unit, that act at a station
port, or that take a slip: of the intake a slip takes its head at most, of the uplink a piece of work reaches the send
queue alone (R32, R41, R109, R133, R136). -/
def Obligations.CommandsKeepTheirFrames : Prop :=
  (∀ (c : Instr) (s t : State), isWorkCommand c = true → exec c s = .next t → s.WorkFrame t) ∧
  (∀ (c : Instr) (s t : State), isStationCommand c = true → exec c s = .next t → s.StationFrame t) ∧
  (∀ (c : Instr) (s t : State), isSlipCommand c = true → exec c s = .next t →
     t.pending = s.pending ∧ t.clock = s.clock ∧ s.out <+: t.out ∧ (∃ q, t.upc = { s.upc with sendQueue := q }) ∧
     (t.intake.slips = s.intake.slips ∨ ∃ x, s.intake.slips = x :: t.intake.slips) ∧
     ∀ (l : LineId) (d : DropId), s.lines[l].tills[d].SameButNotices t.lines[l].tills[d])


/-! ### Wire formats (R27, R173, R176, R177) -/

/-- A slip frame written by the rules of R173 is read back whole, kind and content, for every content that fits
(R27, R173). -/
def Obligations.SlipFrameReadBack : Prop :=
  ∀ (kind : Byte) (content : List Byte), content.length ≤ 240 →
    readAnswer (plainChars (frameBytes (kind :: content))) = .good kind content

/-- The frames of a station are read back as what they say, a BUMP or RECALL of ticket number 0 as something to discard,
and stray characters as one discard each; a HOLD or GO anywhere among the characters does not disturb the reading. An
envelope to broadcast or to the station address, with any padding after its content, is read back as its kind and
content (R123, R149, R173, R176, R177, R179). That a HOLD or GO between an escape character and its value is passed over
too, and that a character with a framing error between frames is discarded whatever its value, is the model's choice
(log 43). -/
def Obligations.StationFramesAndEnvelopesReadBack : Prop :=
  (let sent := fun (body : List Byte) => (frameBytes body).map fun b => ({ data := b } : PortChar)
   (∀ x : Slot, readPort (sent (3 :: bytesOf 1 (slotByte x))) = [.frame (.taken x)]) ∧
   (∀ n : Nat, 1 ≤ n → n < 65536 → readPort (sent (4 :: bytesOf 2 n)) = [.frame (.bump n)]) ∧
   (∀ n : Nat, 1 ≤ n → n < 65536 → readPort (sent (5 :: bytesOf 2 n)) = [.frame (.recallOf n)]) ∧
   readPort (sent (4 :: bytesOf 2 0)) = [.discard] ∧ readPort (sent (5 :: bytesOf 2 0)) = [.discard] ∧
   (∀ n : Nat, 0 < n → n < 256 → readPort (sent (6 :: bytesOf 1 n)) = [.frame (.fault n)]) ∧
   (∀ k : StationKind, readPort (sent (7 :: bytesOf 1 k.code)) = [.frame (.hello k)])) ∧
  (∀ cs : List PortChar,
     (∀ c ∈ cs, c.framingError = true ∨ (c.data ≠ chSOF ∧ c.data ≠ chHOLD ∧ c.data ≠ chGO)) →
     readPort cs = List.replicate cs.length .discard) ∧
  (∀ cs : List PortChar,
     readPort (cs.filter fun c => c.framingError || decide (c.data ≠ chHOLD ∧ c.data ≠ chGO)) = readPort cs) ∧
  (∀ (src dst : EthAddr) (kind : Byte) (content padding : List Byte), content.length < 65536 →
     dst = broadcast ∨ dst = Config.stationAddress →
     readEnvelope { dst := dst, src := src, proto := envelopeType, fcsGood := true,
                    payload := kind :: bytesOf 2 content.length ++ content ++ padding } = some (kind, content))


/-- A number that a counter gives out is in its range and is held by nobody (R40, R85, R102). -/
def Obligations.NumbersGivenOutAreFree : Prop :=
  ∀ (top start : Nat) (held : List Nat), 1 ≤ start → start ≤ top → held.length < top →
    nextFree top held held.length start ∉ held ∧ 1 ≤ nextFree top held held.length start ∧
    nextFree top held held.length start ≤ top

/-! ### Power and time (R169, R171, R172) -/

/-- POWER_ON gives every block its power-on values and enters STARTING, whatever the part was doing: the uplink, the
clock, the intake, the tables, the Check Engine, the Tender Unit, the Router, the ports, the journal, and the till lines
with their drivers released and their tills (R11, R13, R20, R33, R39, R88, R101, R125, R140, R144, R150 to R154, R160,
R169, R172). The commands that wait, the log of transmissions and the link pin are not the part's (log 7, log 11), and a
frame that is broken off leaves nothing in that log (log 47); the self-test result before the first test is read as no
failure (log 30). -/
def Obligations.PowerOnTakesPowerOnValues : Prop :=
  ∀ s : State, ∃ t, exec .powerOn s = .next t ∧
    t.statusOutput = false ∧ t.pending = s.pending ∧ t.out = s.out ∧
    t.upc = { part := .starting, selfTest := none, linkUp := s.upc.linkUp, state := .lost, progress := 0,
              silence := none, limit := 6, needed := 8, replyAddr := 0xFFFFFFFFFFFF, mask := 0x7FFF, sendQueue := [],
              heldHello := none, run := none, waiting := [] } ∧
    t.clock = { secs := 0, unset := true } ∧
    t.intake = { slips := [], paused := false, high := 48, low := 32 } ∧
    t.ce.items = [] ∧ t.ce.checks = [] ∧ t.ce.checkCtr = 1 ∧ t.ce.backlog = [] ∧ t.ce.tryOffered = false ∧
    t.ce.answers = [] ∧
    (∀ sd : StandId,
      t.ce.stands[sd] = { loaded := false, policy := .fireOnOrder, expo := none, floor := 0, state := .unopened,
                          pickup := 1, closing := none } ∧
      t.kr.clearance[sd] = { requested := false, reported := false }) ∧
    t.tu = { live := [], expired := [], tagCtr := 1, authWait := 20, lateWindow := 120 } ∧
    t.kr.tickets = [] ∧ t.kr.ticketCtr = 1 ∧ t.kr.completions = [] ∧ t.kr.recalls = [] ∧
    (∀ st : StationId, t.kr.stations[st] = {
      cfg := { loaded := false, kind := .print, rate := 19200, divertLevel := 0, returnLevel := 0, fallback := none,
               takenTimeout := 5, holdLimit := 60, goAny := false }
      diverting := false, voidQ := [], normalQ := [], shown := [], recallL := [] } ∧
      t.ports[st] = { link := .down, slotA := none, slotB := none, mark := .a, hold := false, holdTimer := none,
                      probe := none, lastDown := none, lastFault := none, kindMismatch := false, badFrames := 0 }) ∧
    t.sj = { records := [], reservations := 0, recordCtr := 1, warnLevel := 256, low := false, burst := none } ∧
    (∀ l : LineId, t.lines[l] = {
      enabled := false, driver := false, rate := 38400, window := 10, turn := 2, ringPos := none, roundPos := none,
      round := 0, walkPos := none, call := none, tills := t.lines[l].tills }) ∧
    (∀ (l : LineId) (d : DropId), t.lines[l].tills[d] = {
      enabled := false, stand := 0, role := .cashier, present := true, misses := 0, notices := [], lost := false })

/-- SELF_TEST_DONE in STARTING: RUNNING when no memory failed, FAILED with the first failed memory of R169's list
otherwise, and HELLO with reset kind POWER_ON, held while the link is down (R169, R171). The result codes of the
memories follow the order of R169's list (log 30). -/
def Obligations.SelfTestDecidesPartState : Prop :=
  ∀ (s : State) (failed : List Memory), s.upc.part = .starting →
    ∃ t f, exec (.selfTestDone failed) s = .next t ∧ t.upc.selfTest = f ∧
      (f = none ↔ failed = []) ∧ t.upc.part = (if f = none then .running else .failed) ∧
      (∀ m ∈ f, m ∈ failed ∧ ∀ m' ∈ failed, selfTestCode (some m) ≤ selfTestCode (some m')) ∧
      (let h : Hello := { part := t.upc.part, selfTest := f, kind := .powerOn, clock := s.clock }
       (s.upc.linkUp = false →
          t = { s with upc := { s.upc with part := t.upc.part, selfTest := f, heldHello := some h } }) ∧
       (s.upc.linkUp = true → s.upc.sendQueue.length < 64 →
          t = { s with upc := { s.upc with
            part := t.upc.part, selfTest := f,
            sendQueue := s.upc.sendQueue ++ [{ dst := s.upc.replyAddr, body := .hello h }] } }))

/-- VENUE_CLOCK_TICK: the clock advances by a second and rolls over to 0 after 86,399 with its UNSET flag as it was
(R172); every running timer has run a second more, but a taken timer that a hold pauses (R132; log 5); nothing else
changes. That the timers run in whole seconds at the tick is the model's choice (log 5). -/
def Obligations.TickAdvancesClockAndTimers : Prop :=
  ∀ s : State, ∃ t, exec .venueClockTick s = .next t ∧
    t.clock.unset = s.clock.unset ∧
    (s.clock.secs < 86399 → t.clock.secs = s.clock.secs + 1) ∧ (s.clock.secs = 86399 → t.clock.secs = 0) ∧
    t.upc = { s.upc with silence := s.upc.silence.map (· + 1) } ∧
    t.tu = { s.tu with
      live := s.tu.live.map fun e => { e with wait := { e.wait with elapsed := e.wait.elapsed + 1 } },
      expired := s.tu.expired.map fun e => { e with age := e.age + 1 } } ∧
    (∀ sd : StandId, t.ce.stands[sd] = { s.ce.stands[sd] with
      closing := s.ce.stands[sd].closing.map fun c => { c with timer := c.timer.map (· + 1) } }) ∧
    (∀ st : StationId,
      t.ports[st].probe = s.ports[st].probe.map (· + 1) ∧
      t.ports[st].holdTimer = s.ports[st].holdTimer.map (fun x => { x with elapsed := x.elapsed + 1 }) ∧
      (s.ports[st].hold = true → t.ports[st].slotA = s.ports[st].slotA ∧ t.ports[st].slotB = s.ports[st].slotB) ∧
      (s.ports[st].hold = false →
        t.ports[st].slotA = s.ports[st].slotA.map (fun o => { o with timer := o.timer.map Timer.next }) ∧
        t.ports[st].slotB = s.ports[st].slotB.map (fun o => { o with timer := o.timer.map Timer.next })) ∧
      { t.ports[st] with slotA := s.ports[st].slotA, slotB := s.ports[st].slotB, probe := s.ports[st].probe,
                         holdTimer := s.ports[st].holdTimer } = s.ports[st]) ∧
    t.ce = { s.ce with stands := t.ce.stands } ∧ t.pending = s.pending ∧ t.out = s.out ∧ t.lines = s.lines ∧
    t.intake = s.intake ∧ t.kr = s.kr ∧ t.sj = s.sj

/-! ### The uplink port (R148 to R155, R57, R90) -/

/-- ETHERNET_LINK_LOST: LOST with progress 0 and an empty send queue; a drain burst ends with the records sent so far,
its block is answered, and the blocks and envelopes behind it go on; a REPLY that is due with it is lost with the link.
ETHERNET_LINK_UP: the queue starts empty, a held HELLO is handed over to the reply address as it stands, and the uplink
state is unchanged. ENVELOPE_SENT: the oldest envelope has left the wire, in the bytes of R177, and a burst that waits
for room sends its next record, or ends (R145, R146, R148, R151, R152, R171). That the envelope on the wire stays at the
head of the queue until it has left is log 10, and that a waiting burst goes on within ENVELOPE_SENT is log 13. -/
def Obligations.SendQueueFollowsTheLink : Prop :=
  (∀ s : State,
     let lost : Uplink := { s.upc with linkUp := false, sendQueue := [], state := .lost, progress := 0 }
     (s.sj.burst = none → exec .ethernetLinkLost s = .next { s with upc := lost }) ∧
     (∀ b, s.sj.burst = some b →
       exec .ethernetLinkLost s = .next (State.burstEnded b.sent { s with upc := lost })) ∧
     (∀ b r tag stop op rest, s.sj.burst = some b → s.upc.run = some r → r.blocks = .good tag stop op :: rest →
       r.skip = false → r.reset = none → s.upc.part = .running →
       let reply : ReplyBlock := { cmd := some op.code, tag := tag, result := .ok, operands := [.count b.sent,
         .amount ((s.sj.records.map Record.number).headD s.sj.recordCtr), .count s.sj.records.length,
         .count s.sj.reservations] }
       let ended := fun (run : Option Run) (waiting : List Waiting) => exec .ethernetLinkLost s = .next { s with
         sj := { s.sj with burst := none }
         upc := { lost with run := run, waiting := waiting } }
       (∀ tag' stop' op' more, rest = .good tag' stop' op' :: more →
         ended (some { r with blocks := rest, replies := r.replies ++ [reply] }) s.upc.waiting) ∧
       (rest = [] → s.upc.waiting = [] → ended none []) ∧
       (∀ x more tag' stop' op' later, rest = [] → s.upc.waiting = x :: more →
         x.blocks = .good tag' stop' op' :: later →
         ended (some { blocks := x.blocks, linked := x.linked, replies := [], skip := false, reset := none }) more))) ∧
  (∀ s : State, s.upc.linkUp = false →
     (s.upc.heldHello = none →
       exec .ethernetLinkUp s = .next { s with upc := { s.upc with linkUp := true, sendQueue := [] } }) ∧
     (∀ h, s.upc.heldHello = some h →
       exec .ethernetLinkUp s = .next { s with upc := { s.upc with
         linkUp := true, heldHello := none, sendQueue := [{ dst := s.upc.replyAddr, body := .hello h }] } })) ∧
  (∀ (s : State) (e : OutEnvelope) (rest : List OutEnvelope), s.upc.sendQueue = e :: rest →
     let sent : State := { s with out := s.out ++ [.envelope e.bytes], upc := { s.upc with sendQueue := rest } }
     ((∀ b ∈ s.sj.burst, b.waiting = false) → exec .envelopeSent s = .next sent) ∧
     (∀ b, s.sj.burst = some b → b.waiting = true → s.upc.linkUp = true → s.upc.sendQueue.length ≤ 64 →
       (s.sj.records = [] → exec .envelopeSent s = .next (State.burstEnded b.sent sent)) ∧
       (∀ r more, s.sj.records = r :: more →
         let next : State := { sent with
           upc := { s.upc with
             sendQueue := rest ++ [{ dst := s.upc.replyAddr, body := .journal b.tag (b.sent + 1) r }] }
           sj := { s.sj with
             records := more
             burst := some { b with sent := b.sent + 1, waiting := false }
             low := s.sj.low && decide (2048 - more.length - s.sj.reservations ≤ s.sj.warnLevel) } }
         (b.sent + 1 < b.asked → exec .envelopeSent s = .next next) ∧
         (b.asked ≤ b.sent + 1 → exec .envelopeSent s = .next (State.burstEnded (b.sent + 1) next)))))


/-- SILENCE_TIMEOUT: a RECOVERING or ONLINE uplink whose timer has reached the limit becomes LOST with progress 0; in
LOST, and before the limit, nothing happens. KEEPALIVE and OTHER_ENVELOPE_KIND: a taken envelope counts for silence
supervision and does nothing else; it restarts the timer, starts or advances a recovery, and at the recovery count
makes the uplink ONLINE with UPLINK_ONLINE (R149, R152). The expiry acts once the timer of whole seconds has reached
the limit (log 5). -/
def Obligations.SilenceAndEnvelopesMoveTheUplink : Prop :=
  (∀ (s : State) (n : Nat), s.upc.silence = some n →
     (s.upc.limit ≤ n → s.upc.state ≠ .lost →
       exec .silenceTimeout s = .next { s with upc := { s.upc with state := .lost, progress := 0 } }) ∧
     (n < s.upc.limit ∨ s.upc.state = .lost → exec .silenceTimeout s = .next s)) ∧
  (∀ (s : State) (fr : EthFrame) (k : Byte) (content : List Byte) (c : Instr),
     s.upc.part ≠ .starting → readEnvelope fr = some (k, content) →
     (k = 4 ∧ c = .keepalive fr) ∨ (k ∉ [1, 2, 3, 4] ∧ c = .otherEnvelopeKind fr) →
     (s.upc.state = .online → exec c s = .next { s with upc := { s.upc with silence := some 0 } }) ∧
     (s.upc.state = .lost → 1 < s.upc.needed →
       exec c s = .next { s with upc := { s.upc with state := .recovering, progress := 1, silence := some 0 } }) ∧
     (s.upc.state = .recovering → s.upc.progress + 1 < s.upc.needed →
       exec c s = .next { s with upc := { s.upc with progress := s.upc.progress + 1, silence := some 0 } }) ∧
     (s.upc.state = .lost → s.upc.needed ≤ 1 →
       exec c s = .next (({ s with upc := { s.upc with
         state := .online, progress := 1, silence := some 0 } } : State).raise (.uplinkOnline s.upc.needed))) ∧
     (s.upc.state = .recovering → s.upc.needed ≤ s.upc.progress + 1 →
       exec c s = .next (({ s with upc := { s.upc with
         state := .online, progress := s.upc.progress + 1, silence := some 0 } } : State).raise
           (.uplinkOnline s.upc.needed))))


/-- CONTROL: the envelope sets the reply address; it waits behind the running one, is declined with a BUSY REPLY when
four wait, and starts at once when none is running; in FAILED an envelope without READ STATUS is answered NOT_RUN
throughout (R150, R155, R156, R158). The reset at the end of its blocks apart, an idle part answers an empty envelope
with a REPLY of no blocks. UPLINK_ONLINE is counted before the reply address is set (log 12); that the envelope keeps
whether the link was up when it arrived is log 49. -/
def Obligations.ControlEnvelopesQueue : Prop :=
  ∀ (s : State) (fr : EthFrame) (content : List Byte),
    s.upc.part ≠ .starting → readEnvelope fr = some (1, content) →
    let s' : State := { s.countEnvelope with upc := { s.countEnvelope.upc with replyAddr := fr.src } }
    (∀ r, s.upc.run = some r → s.upc.waiting.length < 4 →
      exec (.control fr) s = .next { s' with upc := { s'.upc with
        waiting := s.upc.waiting ++ [{ blocks := readBlocks 32 content, linked := s.upc.linkUp }] } }) ∧
    (4 ≤ s.upc.waiting.length → exec (.control fr) s = .next (s'.handOver (.reply .busy []))) ∧
    (s.upc.run = none → s.upc.waiting = [] → content = [] →
      exec (.control fr) s = .next (s'.handOver (.reply .ok []))) ∧
    (s.upc.run = none → s.upc.waiting = [] → s.upc.part = .running →
      ∀ tag stop op rest, readBlocks 32 content = .good tag stop op :: rest →
        exec (.control fr) s = .next { s' with upc := { s'.upc with
          run := some { blocks := readBlocks 32 content, linked := s.upc.linkUp, replies := [], skip := false,
                        reset := none } } }) ∧
    (s.upc.run = none → s.upc.waiting = [] → s.upc.part = .failed →
      ∀ bs : List (Nat × Bool × ControlOp), (∀ x ∈ bs, x.2.2 ≠ .readStatus) →
        readBlocks 32 content = bs.map (fun x => .good x.1 x.2.1 x.2.2) →
        exec (.control fr) s = .next (s'.handOver (.reply .ok
          (bs.map fun x => { cmd := some x.2.2.code, tag := x.1, result := .notRun, operands := [] }))))

/-- REMOTE_ORDER while RUNNING: the order joins the tail of the intake under its reference, paused or not, or is
declined with ORDER_RESULT BUSY when the intake holds 64 slips (R32, R57). -/
def Obligations.RemoteOrdersJoinIntake : Prop :=
  ∀ (s : State) (fr : EthFrame) (r1 r2 r3 r4 : Byte) (rest : List Byte),
    s.upc.part = .running → readEnvelope fr = some (2, r1 :: r2 :: r3 :: r4 :: rest) →
    let ref := natOf [r1, r2, r3, r4]
    (s.intake.slips.length < 64 → ∃ t, exec (.remoteOrder fr) s = .next t ∧
      t.intake = { s.intake with
        slips := s.intake.slips ++ [{ source := .remote ref, kind := 0, content := rest }],
        paused := s.intake.paused || decide (s.intake.high ≤ s.intake.slips.length + 1) } ∧
      t.upc = s.countEnvelope.upc ∧ t.pending = s.pending ∧ t.out = s.out ∧ t.lines = s.lines ∧ t.ce = s.ce ∧
      t.tu = s.tu ∧ t.kr = s.kr ∧ t.ports = s.ports ∧ t.sj = s.sj ∧ t.clock = s.clock) ∧
    (64 ≤ s.intake.slips.length →
      exec (.remoteOrder fr) s = .next (s.countEnvelope.raise (.orderResult ref .busy)))

/-- AUTH_ANSWER while RUNNING, by where its tag is held: a live tag's answer is offered to the Check Engine; a late one
appends a LATE_ANSWER record or releases the reservation, by the outcome at expiry and the verdict, and frees the tag
(R90, R96). -/
def Obligations.AuthAnswersAreMatchedByTag : Prop :=
  ∀ (s : State) (fr : EthFrame) (content : List Byte) (tag : Nat) (v : Verdict),
    s.upc.part = .running → readEnvelope fr = some (3, content) → readAuthAnswer content = some (tag, v) →
    let s' := s.countEnvelope
    let recorded : List (ExpiryOutcome × Verdict) :=
      [(.removed, .approve), (.deferred, .decline), (.voided, .approve)]
    (∀ e ∈ s.tu.live, e.tag = tag →
      exec (.authAnswer fr) s = .next { s' with ce := { s.ce with answers := s.ce.answers ++ [(tag, v)] } }) ∧
    (∀ e, (∀ x ∈ s.tu.live, x.tag ≠ tag) → s.tu.expired.find? (fun x => x.entry.tag == tag) = some e →
      let tu := { s.tu with expired := s.tu.expired.filter fun x => x.entry.tag != tag }
      ((e.outcome, v) ∈ recorded →
        exec (.authAnswer fr) s = .next { s' with
          tu := tu
          sj := { s.sj with
            records := s.sj.records ++ [Record.mk s.sj.recordCtr s.clock
              (.lateAnswer tag e.entry.check e.entry.amount e.outcome v)]
            reservations := s.sj.reservations - 1
            recordCtr := if s.sj.recordCtr < 4294967295 then s.sj.recordCtr + 1 else 1 } }) ∧
      ((e.outcome, v) ∉ recorded →
        exec (.authAnswer fr) s = .next { s' with
          tu := tu, sj := ({ s.sj with reservations := s.sj.reservations - 1 } : Journal).rise }))

/-- An answer for a tag that is neither live nor expired changes no state and sends UNKNOWN_TAG with the tag and the
verdict, subject to the event mask: on arrival, and when it is taken (R97). -/
def Obligations.UnmatchedAnswersAreReported : Prop :=
  (∀ (s : State) (fr : EthFrame) (content : List Byte) (tag : Nat) (v : Verdict),
    s.upc.part = .running → readEnvelope fr = some (3, content) → readAuthAnswer content = some (tag, v) →
    (∀ e ∈ s.tu.live, e.tag ≠ tag) → (∀ e ∈ s.tu.expired, e.entry.tag ≠ tag) →
    exec (.authAnswer fr) s = .next (s.countEnvelope.raise (.unknownTag tag v))) ∧
  (∀ (s : State) (tag : Nat) (v : Verdict) (rest : List (Nat × Verdict)),
    s.ce.answers = (tag, v) :: rest →
    (∀ e ∈ s.tu.live, e.tag ≠ tag) → (∀ e ∈ s.tu.expired, e.entry.tag ≠ tag) →
    exec (.authAnswerTaken tag v) s =
      .next (({ s with ce := { s.ce with answers := rest } } : State).raise (.unknownTag tag v))) ∧
  (∀ (s : State) (tag : Nat) (v : Verdict), s.upc.enabled (.unknownTag tag v) = false →
    s.raise (.unknownTag tag v) = s)

/-! ### Running control envelopes (R156, R158, R168) -/

/-- A block that its owner has carried out is answered with its command, tag, result and operands, and the next block waits
for its owner; after the last block one REPLY envelope with result OK and the reply blocks in order is handed over, and
then the oldest envelope that waits is started. When a block fails with its stop-on-error flag set, every later block is
answered NOT_RUN; in FAILED every later block but READ STATUS is, which waits for its owner (R155, R156, R158). -/
def Obligations.BlocksAreAnsweredInOrder : Prop :=
  (∀ (s : State) (r : Run) (b : BlockReply) (tag : Nat) (stop : Bool) (op : ControlOp) (rest : List Block),
     s.upc.run = some r → r.blocks = .good tag stop op :: rest → r.skip = false → r.reset = none →
     s.upc.part = .running → (stop = false ∨ b.result = .ok ∨ b.result = .accepted) →
     let answered : List ReplyBlock :=
       r.replies ++ [{ cmd := some op.code, tag := tag, result := b.result, operands := b.operands }]
     let replied : State := State.handOver (.reply .ok answered) { s with upc := { s.upc with run := none } }
     (∀ tag' stop' op' rest', rest = .good tag' stop' op' :: rest' →
       s.finishBlock b = { s with upc := { s.upc with run := some { r with blocks := rest, replies := answered } } }) ∧
     (rest = [] → s.upc.waiting = [] → s.finishBlock b = replied) ∧
     (∀ x more tag' stop' op' later, rest = [] → s.upc.waiting = x :: more →
       x.blocks = .good tag' stop' op' :: later →
       s.finishBlock b = { replied with upc := { replied.upc with
         waiting := more
         run := some { blocks := x.blocks, linked := x.linked, replies := [], skip := false, reset := none } } }) ∧
     (∀ tag' cmd, rest = [.bad tag' cmd] → s.upc.waiting = [] →
       s.finishBlock b = State.handOver (.reply .ok
         (answered ++ [{ cmd := cmd, tag := tag', result := .malformed, operands := [] }]))
         { s with upc := { s.upc with run := none } })) ∧
  (∀ (s : State) (r : Run) (b : BlockReply) (tag : Nat) (op : ControlOp) (later : List (Nat × Bool × ControlOp)),
     s.upc.run = some r →
     r.blocks = .good tag true op :: later.map (fun x => .good x.1 x.2.1 x.2.2) → r.reset = none →
     s.upc.part = .running → s.upc.waiting = [] → b.result ≠ .ok → b.result ≠ .accepted →
     s.finishBlock b = State.handOver (.reply .ok (r.replies ++
       { cmd := some op.code, tag := tag, result := b.result, operands := b.operands } ::
         later.map (fun x => { cmd := some x.2.2.code, tag := x.1, result := .notRun, operands := [] })))
       { s with upc := { s.upc with run := none } }) ∧
  (∀ (s : State) (r : Run) (b : BlockReply) (tag : Nat) (stop : Bool) (op : ControlOp)
     (later : List (Nat × Bool × ControlOp)) (more : List Block),
     s.upc.run = some r →
     r.blocks = .good tag stop op :: (later.map (fun x => .good x.1 x.2.1 x.2.2) ++ more) → r.reset = none →
     s.upc.part = .failed → (∀ x ∈ later, x.2.2 ≠ .readStatus) →
     let answered : List ReplyBlock := r.replies ++
       { cmd := some op.code, tag := tag, result := b.result, operands := b.operands } ::
         later.map (fun x => { cmd := some x.2.2.code, tag := x.1, result := .notRun, operands := [] })
     (more = [] → s.upc.waiting = [] →
       s.finishBlock b = State.handOver (.reply .ok answered) { s with upc := { s.upc with run := none } }) ∧
     (∀ tag' stop' rest', more = .good tag' stop' .readStatus :: rest' →
       ∃ skip, s.finishBlock b = { s with upc := { s.upc with
         run := some { r with blocks := more, replies := answered, skip := skip } } }))


/-- SERVICE_RESET. Without FORCE it is refused with NOT_QUIET, naming the lowest OPEN or CLOSING stand, then the number
of records, then the number of reservations; a reset that is to be carried out is planned for the end of its envelope
(R168). -/
def Obligations.ServiceResetNeedsQuiet : Prop :=
  ∀ (s : State) (tag : Nat),
    (s.nextBlock = some (tag, .serviceReset 1) →
      exec .serviceReset s = .next ((s.planReset true).finishBlock { result := .ok })) ∧
    (s.nextBlock = some (tag, .serviceReset 0) →
      let busy := fun (sd : StandId) => s.ce.stands[sd].state = .opened ∨ s.ce.stands[sd].state = .closing
      (∀ sd, busy sd → (∀ sd' < sd, ¬ busy sd') →
        exec .serviceReset s = .next (s.finishBlock { result := .notQuiet, operands := [.code 1, .stand sd] })) ∧
      ((∀ sd, ¬ busy sd) →
        (s.sj.records ≠ [] →
          exec .serviceReset s = .next (s.finishBlock
            { result := .notQuiet, operands := [.code 2, .count s.sj.records.length] })) ∧
        (s.sj.records = [] → 0 < s.sj.reservations →
          exec .serviceReset s = .next (s.finishBlock
            { result := .notQuiet, operands := [.code 3, .count s.sj.reservations] })) ∧
        (s.sj.records = [] → s.sj.reservations = 0 →
          exec .serviceReset s = .next ((s.planReset false).finishBlock { result := .ok }))))

/-- The planned reset: the REPLY is handed over first, then the reset takes effect across every block, then HELLO
follows. What it clears and what it keeps: the intake, the checks, the stands, the Tender Unit, the Router, the ports
with the PROBE of every loaded station that is not OFF, the journal, the lines with their settings, and the tills, which
keep their settings too (R11, R13, R20, R39, R88, R95, R101, R125, R140, R158, R168, R171). That an answer offered and
not yet taken is dropped with no event is the model's choice (log 45). -/
def Obligations.ServiceResetClearsAndKeeps : Prop :=
  ∀ (s : State) (r : Run) (force : Bool) (tag : Nat) (stop : Bool) (op : ControlOp),
    s.upc.run = some r → r.blocks = [.good tag stop op] → r.reset = some force → s.upc.waiting = [] →
    let replied := State.handOver (.reply .ok
      (r.replies ++ [{ cmd := some op.code, tag := tag, result := .ok, operands := [] }]))
      { s with upc := { s.upc with run := none } }
    ∃ t : State, s.finishBlock { result := .ok } = t.hello (if force then .serviceForced else .service) ∧
      t.upc = replied.upc ∧ t.clock = s.clock ∧ t.pending = s.pending ∧
      t.intake = { s.intake with slips := [], paused := false } ∧
      t.ce.checks = [] ∧ t.ce.backlog = [] ∧ t.ce.checkCtr = s.ce.checkCtr ∧ t.ce.items = s.ce.items ∧
      t.ce.answers = [] ∧ t.ce.tryOffered = false ∧
      (∀ sd : StandId, t.ce.stands[sd] = { s.ce.stands[sd] with state := .unopened, pickup := 1, closing := none }) ∧
      t.tu = { s.tu with live := [], expired := [] } ∧
      t.kr.tickets = [] ∧ t.kr.ticketCtr = s.kr.ticketCtr ∧ t.kr.completions = [] ∧ t.kr.recalls = [] ∧
      (∀ st : StationId, t.kr.stations[st] = { s.kr.stations[st] with
        diverting := false, voidQ := [], normalQ := [], shown := [], recallL := [] }) ∧
      (∀ st : StationId,
        (s.kr.stations[st].cfg.loaded = true →
          t.ports[st] = (if s.ports[st].link = .off then { Port.reset with link := .off }
            else { Port.reset with probe := some 0 })) ∧
        (s.kr.stations[st].cfg.loaded = false → t.ports[st] = s.ports[st])) ∧
      t.out = s.out ++ allStations.flatMap (fun st =>
        if s.kr.stations[st].cfg.loaded then
          (if s.ports[st].sending then [.ticketCut st] else [])
            ++ (if s.ports[st].link = .off then [] else [.probe st (probeFrame st)])
        else []) ∧
      (force = false → t.sj = s.sj) ∧
      (force = true → t.sj = { s.sj with records := [], reservations := 0, low := false }) ∧
      (∀ l : LineId, t.lines[l] = { s.lines[l] with
        ringPos := none, roundPos := none, round := 0, walkPos := none, call := none, tills := t.lines[l].tills }) ∧
      (∀ (l : LineId) (d : DropId), t.lines[l].tills[d] = { s.lines[l].tills[d] with
        present := true, misses := 0, notices := [], lost := false })

/-! ### Tables (R2, R4 to R6, R9, R10, R12, R14, R15, R17) -/

/-- LOAD_ITEMS with 1 to 64 valid entries and room for them: all are applied in list order, the later of two entries
with one code standing; an entry that is not valid stops the block there (R2, R4). The second part covers an entry
with code 0, a price above 99,999 or a primary station above 7. -/
def Obligations.LoadedItemsStand : Prop :=
  ∀ (s : State) (tag : Nat) (items : List Item) (more : List ItemOperand),
    (∀ i ∈ items, s.itemFits i) → s.ce.items.length + items.length ≤ 2048 →
    items.length + more.length ≤ 64 → s.nextBlock = some (tag, .loadItems (items.map Item.operand ++ more)) →
    (more = [] → items ≠ [] →
      ∃ t : State, exec .loadItems s = .next (t.finishBlock { result := .ok, operands := [.count items.length, .index none] }) ∧
        (∃ table, s.OnlyBlocks t { s.ce with items := table } s.tu s.kr s.ports s.sj) ∧
        ∀ code, lookupBy Item.code code t.ce.items =
          (items.reverse.find? fun i => i.code == code).or (lookupBy Item.code code s.ce.items)) ∧
    (∀ bad rest, more = bad :: rest → (bad.code = 0 ∨ 99999 < bad.price ∨ 8 ≤ bad.primary) →
      ∃ t : State, exec .loadItems s = .next (t.finishBlock
          { result := .badValue, operands := [.count items.length, .index (some (items.length + 1))] }) ∧
        ∀ code, lookupBy Item.code code t.ce.items =
          (items.reverse.find? fun i => i.code == code).or (lookupBy Item.code code s.ce.items))

/-- DELETE_ITEMS with 1 to 128 codes removes the named entries and no other; its result is OK when each code was found as it
was reached, and NOT_FOUND otherwise. SET_STOCK on an item of the table: the count takes the new value, the reply
carries the old and the new, and the event goes out that R10 calls for (R5, R9, R10). -/
def Obligations.ItemsAreDeletedAndCounted : Prop :=
  (∀ (s : State) (tag : Nat) (codes : List Nat), codes ≠ [] → codes.length ≤ 128 → 0 ∉ codes →
     s.nextBlock = some (tag, .deleteItems codes) →
     ∃ r, exec .deleteItems s = .next (State.finishBlock r
         { s with ce := { s.ce with items := s.ce.items.filter fun i => i.code ∉ codes } }) ∧
       (r.result = .ok ∨ r.result = .notFound) ∧
       (r.result = .ok ↔ codes.Nodup ∧ ∀ c ∈ codes, ∃ i ∈ s.ce.items, i.code = c)) ∧
  (∀ (s : State) (tag : Nat) (i : Item) (k : Stock), lookupBy Item.code i.code s.ce.items = some i → i.code ≠ 0 →
     (∀ n, k = .count n → n ≤ 65535) → s.nextBlock = some (tag, .setStock i.code (stockValue k)) →
     let set : State := { s with ce := { s.ce with items := putBy Item.code { i with stock := k } s.ce.items } }
     let reply : BlockReply := { result := .ok, operands := [.stock i.stock, .stock k] }
     (i.stock ≠ .count 0 → k = .count 0 →
       exec .setStock s = .next ((set.raise (.soldOut i.code)).finishBlock reply)) ∧
     (i.stock = .count 0 → k ≠ .count 0 →
       exec .setStock s = .next ((set.raise (.backIn i.code k)).finishBlock reply)) ∧
     ((i.stock = .count 0 ↔ k = .count 0) → exec .setStock s = .next (set.finishBlock reply)))


/-- LOAD_STAND with valid settings: the stand is loaded and keeps its state, pickup counter and close, unless an open check
of the stand holds the policy or the expo station. LOAD_STATION: values that are not valid are refused with the first
failing field; absent fields take their defaults. A first load puts the port into service with a PROBE at once; a later
one takes every setting and compares the backlog with the new levels; one that changes the kind passes when none of the
four conditions of R16 holds, and is refused with the first that does (R12, R14 to R17, R125). The place of GO-any among
the tests is the model's choice (log 18), and so is the code of a condition (log 15). -/
def Obligations.StandAndStationLoadsApply : Prop :=
  (∀ (s : State) (tag : Nat) (sd : StandId) (p : FirePolicy) (expo : Option StationId) (floor : Nat),
     floor ≤ 50000 →
     (∀ x ∈ expo, s.kr.stations[x].cfg.loaded = true ∧ s.kr.stations[x].cfg.kind = .expo) →
     s.nextBlock = some (tag, .loadStand sd.val (policyByte p) (optStationByte expo) floor) →
     let taken : Stand := { s.ce.stands[sd] with loaded := true, policy := p, expo := expo, floor := floor }
     ((∀ c ∈ s.ce.checks, c.stand ≠ sd) ∨ (s.ce.stands[sd].policy = p ∧ s.ce.stands[sd].expo = expo) →
       exec .loadStand s = .next (State.finishBlock { result := .ok }
         { s with ce := { s.ce with stands := s.ce.stands.set sd taken } })) ∧
     ((∃ c ∈ s.ce.checks, c.stand = sd) → ¬ (s.ce.stands[sd].policy = p ∧ s.ce.stands[sd].expo = expo) →
       exec .loadStand s = .next (s.finishBlock { result := .inUse }))) ∧
  (∀ (s : State) (tag : Nat) (o : StationOperand), s.nextBlock = some (tag, .loadStation o) →
     let fails := fun (n : Nat) =>
       exec .loadStation s = .next (s.finishBlock { result := .badValue, operands := [.index (some n)] })
     (8 ≤ o.station → fails 1) ∧
     (∀ st : StationId, o.station = st.val →
       let taken := if o.takenTimeout = 0xFFFF then 5 else o.takenTimeout
       let hold := if o.holdLimit = 0xFFFF then 60 else o.holdLimit
       let levels := (o.divertLevel = 0 → o.returnLevel = 0) ∧ (0 < o.divertLevel → o.returnLevel < o.divertLevel)
       let relies := fun (x : StationId) => o.fallback = x.val ∧ x ≠ st ∧ s.kr.stations[x].cfg.loaded = true ∧
         (s.kr.stations[x].cfg.kind = .expo ↔ o.kind = 3)
       (o.kind ∉ [1, 2, 3] → fails 2) ∧
       (o.kind ∈ [1, 2, 3] →
         (o.rate ∉ [19200, 38400, 57600, 115200] → fails 3) ∧
         (o.rate ∈ [19200, 38400, 57600, 115200] →
           (128 < o.divertLevel → fails 4) ∧
           (o.divertLevel ≤ 128 → ¬ levels → fails 5) ∧
           (o.divertLevel ≤ 128 → levels →
             (taken < 1 ∨ 30 < taken → fails 7) ∧
             (1 ≤ taken → taken ≤ 30 →
               (hold < 5 ∨ 300 < hold → fails 8) ∧
               (5 ≤ hold → hold ≤ 300 →
                 (o.goAny ∉ [0, 1, 0xFF] → fails 9) ∧
                 (o.goAny ∈ [0, 1, 0xFF] → o.fallback ≠ 0xFF → (∀ x, ¬ relies x) → fails 6)))))))) ∧
  (∀ (s : State) (tag : Nat) (st : StationId) (c : StationCfg) (o : StationOperand), s.settingsFit st c →
     c.writtenAs st o → s.nextBlock = some (tag, .loadStation o) →
     let old := s.kr.stations[st].cfg
     let loaded : Station := { s.kr.stations[st] with cfg := c }
     let set : State := { s with kr := { s.kr with stations := s.kr.stations.set st loaded } }
     let b := s.backlogOf st
     let turned := fun (d : Bool) (e : Event) => State.raise e
       { s with kr := { s.kr with stations := s.kr.stations.set st ({ loaded with diverting := d } : Station) } }
     let refused := fun (n : Nat) =>
       exec .loadStation s = .next (s.finishBlock { result := .inUse, operands := [.code n] })
     let held := ∃ k ∈ s.kr.tickets, k.station = st
     let named := c.kind = .expo ∧ ∃ i ∈ s.ce.items, i.primary = st ∨ i.overflow = some st
     let gathers := old.kind = .expo ∧
       ∃ sd : StandId, s.ce.stands[sd].loaded = true ∧ s.ce.stands[sd].expo = some st
     let relied := (old.kind = .expo ↔ c.kind ≠ .expo) ∧
       ∃ x, x ≠ st ∧ s.kr.stations[x].cfg.loaded = true ∧ s.kr.stations[x].cfg.fallback = some st
     (old.loaded = false →
       exec .loadStation s = .next (State.finishBlock { result := .ok }
         { set with ports := s.ports.set st ({ s.ports[st] with probe := some 0 } : Port),
                    out := s.out ++ [.probe st (probeFrame st)] })) ∧
     (old.loaded = true → old.kind ≠ c.kind →
       (held → refused 1) ∧ (¬ held → named → refused 2) ∧ (¬ held → ¬ named → gathers → refused 3) ∧
       (¬ held → ¬ named → ¬ gathers → relied → refused 4)) ∧
     (old.loaded = true → old.kind = c.kind ∨ (¬ held ∧ ¬ named ∧ ¬ gathers ∧ ¬ relied) →
       (s.kr.stations[st].diverting = false → 0 < c.divertLevel → c.divertLevel ≤ b →
         exec .loadStation s = .next ((turned true (.divertOn st b)).finishBlock { result := .ok })) ∧
       (s.kr.stations[st].diverting = true → (c.divertLevel = 0 ∨ b ≤ c.returnLevel) →
         exec .loadStation s = .next ((turned false (.divertOff st b)).finishBlock { result := .ok })) ∧
       (s.kr.stations[st].diverting = false → (c.divertLevel = 0 ∨ b < c.divertLevel) →
         exec .loadStation s = .next (set.finishBlock { result := .ok })) ∧
       (s.kr.stations[st].diverting = true → 0 < c.divertLevel → c.returnLevel < b →
         exec .loadStation s = .next (set.finishBlock { result := .ok }))))


/-- READ_ITEM, READ_TILLS, QUERY_CHECK, READ_STATIONS and READ_STATUS answer with the fields of what they name and
change nothing else (R6, R24, R60, R137, R161). What is the model's: the fixed lists of READ TILLS and READ STATIONS
carry no count byte (log 14), a line number and a ring position and the counts of QUERY CHECK are one byte (log 16), the
numbers of the presences, the divert states, the marks and the HELLO refusal, and the link and pause states as flags (log
15), absent enumerated values (log 9). -/
def Obligations.ReadsChangeNothing : Prop :=
  ∀ (s : State) (tag : Nat),
    (∀ i, lookupBy Item.code i.code s.ce.items = some i → i.code ≠ 0 → s.nextBlock = some (tag, .readItem i.code) →
      exec .readItem s = .next (s.finishBlock { result := .ok, operands := [.number (some i.code), .price i.price,
        .station (some i.primary), .station i.overflow, .flag i.expo, .stock i.stock] })) ∧
    (∀ code, code ≠ 0 → lookupBy Item.code code s.ce.items = none → s.nextBlock = some (tag, .readItem code) →
      exec .readItem s = .next (s.finishBlock { result := .notFound, operands := [.number (some code)] })) ∧
    (∀ l : LineId, s.nextBlock = some (tag, .readTills l.val) →
      exec .readTills s = .next (s.finishBlock { result := .ok, operands :=
        ([.flag s.lines[l].enabled, .rate s.lines[l].rate, .duration (some s.lines[l].window),
          .duration (some s.lines[l].turn), .index (s.lines[l].ringPos.map fun d => d.val + 1),
          .count s.lines[l].round, .flag s.intake.paused]
          ++ allDrops.flatMap (fun d => [.flag s.lines[l].tills[d].enabled, .stand s.lines[l].tills[d].stand,
            .code s.lines[l].tills[d].role.code, .code (if s.lines[l].tills[d].present then 1 else 2),
            .count s.lines[l].tills[d].misses, .count s.lines[l].tills[d].notices.length,
            .flag s.lines[l].tills[d].lost])) })) ∧
    (∀ c, lookupBy Check.number c.number s.ce.checks = some c → c.number ≠ 0 →
      s.nextBlock = some (tag, .queryCheck c.number) →
      exec .queryCheck s = .next (s.finishBlock { result := .ok, operands :=
        ([.stand c.stand, .origin c.origin, .flag c.notify, .number (some c.pickup), .code c.state.code,
          .code c.mode.code, .amount c.total, .flag c.readySent, .byteCount c.lines.length]
          ++ c.lines.flatMap (fun l =>
            [.index (some l.index), .number (some l.item), .byteCount l.qty, .byteCount l.mods.length]
              ++ l.mods.map .code
              ++ [.price l.price, .station (some l.primary), .station l.overflow, .flag l.expo, .index l.owner,
                .code l.state.code, .number l.ticket, .number l.assembly])
          ++ [.byteCount c.shares.length]
          ++ c.shares.flatMap (fun x =>
            [.index (some x.index), .amount x.due, .amount x.tendered, .code x.state.code, .byteCount x.tenders.length]
              ++ x.tenders.flatMap (fun z => [.code z.kind.code, .amount z.amount, .code z.state.code, .number z.tag]))) })) ∧
    (∀ n, n ≠ 0 → lookupBy Check.number n s.ce.checks = none → s.nextBlock = some (tag, .queryCheck n) →
      exec .queryCheck s = .next (s.finishBlock { result := .notFound })) ∧
    (s.nextBlock = some (tag, .readStations) →
      exec .readStations s = .next (s.finishBlock { result := .ok, operands := (allStations.flatMap fun st =>
        [.flag s.kr.stations[st].cfg.loaded,
          .codeOrAbsent (if s.kr.stations[st].cfg.loaded then some s.kr.stations[st].cfg.kind.code else none),
          .code s.ports[st].link.code, .code (if s.kr.stations[st].diverting then 2 else 1), .flag s.ports[st].hold,
          .duration (s.ports[st].holdTimer.map Timer.elapsed),
          .number (s.ports[st].slotA.map OutSlot.ticket), .flagOrAbsent (s.ports[st].slotA.map OutSlot.marked),
          .number (s.ports[st].slotB.map OutSlot.ticket), .flagOrAbsent (s.ports[st].slotB.map OutSlot.marked),
          .code (match s.ports[st].mark with | .a => 1 | .b => 2),
          .count s.kr.stations[st].voidQ.length, .count s.kr.stations[st].normalQ.length, .count (s.backlogOf st),
          .count (s.loadOf st), .byteCount s.kr.stations[st].recallL.length]
          ++ s.kr.stations[st].recallL.map (fun n => .number (some n))
          ++ [.codeOrAbsent (s.ports[st].lastDown.map DownCause.code), .codeOrAbsent s.ports[st].lastFault,
            .codeOrAbsent (if s.ports[st].kindMismatch then some 1 else none), .count s.ports[st].badFrames]) })) ∧
    (s.nextBlock = some (tag, .readStatus) → s.upc.part = .running →
      exec .readStatus s = .next (s.finishBlock { result := .ok, operands :=
        [.code 2, .code (selfTestCode s.upc.selfTest), .address Config.stationAddress, .code s.upc.state.code,
          .count s.upc.progress, .flag s.upc.linkUp, .address s.upc.replyAddr, .count s.intake.slips.length,
          .flag s.intake.paused, .count s.ce.checks.length, .count s.ce.backlog.length, .count s.kr.tickets.length,
          .count s.sj.records.length, .count s.sj.reservations,
          .count (2048 - s.sj.records.length - s.sj.reservations), .count s.tu.live.length,
          .count s.tu.expired.length, .clock s.clock] }))

/-! ### Till lines and the intake, as the host sets them (R21 to R23, R35) -/

/-- LOAD_LINE, LOAD_TILL and SET_INTAKE_MARKS with valid operands. A line that becomes enabled begins with no ring
position; an entry that is applied sets the till's settings, and disabling a till discards its notices and sets LOST
when it had any; new marks are set and decide the pause anew by the length of the intake (R21 to R23, R33, R35). A
line that is disabled calms its tills at once, also while a call is in progress (log 28); the reply of SET_INTAKE_MARKS
writes the pause state as a flag (log 15). -/
def Obligations.TillSettingsApply : Prop :=
  ((∀ (s : State) (tag : Nat) (l : LineId) (on : Bool) (rate window turn : Nat),
     (rate = 38400 ∨ rate = 115200 ∨ rate = 230400) → 2 ≤ window → window ≤ 50 → turn ≤ 15 →
     s.nextBlock = some (tag, .loadLine l.val (flagByte on) rate window turn) →
     ∃ t : TillLine, exec .loadLine s = .next (State.finishBlock { result := .ok } { s with lines := s.lines.set l t }) ∧
       t.enabled = on ∧ t.rate = rate ∧ t.window = window ∧ t.turn = turn ∧ t.call = s.lines[l].call ∧
       (on = true → s.lines[l].enabled = false →
         t.ringPos = none ∧ t.round = 0 ∧ t.walkPos = none ∧ t.tills = s.lines[l].tills) ∧
       (on = s.lines[l].enabled → t.ringPos = s.lines[l].ringPos ∧ t.round = s.lines[l].round ∧
         t.walkPos = s.lines[l].walkPos ∧ t.tills = s.lines[l].tills) ∧
       (on = false → s.lines[l].enabled = true →
         ∀ d : DropId, t.tills[d] = { s.lines[l].tills[d] with present := true, misses := 0 })) ∧
   (∀ (s : State) (tag : Nat) (e : TillEntry), s.nextBlock = some (tag, .loadTill [e.operand]) →
     let old := s.till e.till
     ∃ t : State, exec .loadTill s =
         .next (t.finishBlock { result := .ok, operands := [.count 1, .index none] }) ∧
       t = { s with lines := t.lines } ∧ (∀ x : TillId, x ≠ e.till → t.till x = s.till x) ∧
       (e.enabled = old.enabled → t.till e.till = { old with stand := e.stand, role := e.role }) ∧
       (e.enabled = true → old.enabled = false → t.till e.till =
         { old with enabled := true, stand := e.stand, role := e.role, present := true, misses := 0 }) ∧
       (e.enabled = false → old.enabled = true → t.till e.till =
         { enabled := false, stand := e.stand, role := e.role, present := true, misses := 0, notices := [],
           lost := old.lost || !old.notices.isEmpty })) ∧
   (∀ (s : State) (tag : Nat) (es : List TillEntry), es ≠ [] → es.length ≤ 64 →
     s.nextBlock = some (tag, .loadTill (es.map TillEntry.operand)) →
     exec .loadTill s = .next (State.finishBlock { result := .ok, operands := [.count es.length, .index none] }
       (es.foldl (fun s e => s.onLine (tillLine e.till) (TillLine.onTill (tillDrop e.till)
         (Till.load e.enabled e.stand e.role))) s)))) ∧
  (∀ (s : State) (tag high low : Nat), 8 ≤ high → high ≤ 56 → low < high →
     s.nextBlock = some (tag, .setIntakeMarks high low) →
     let len := s.intake.slips.length
     ∃ (t : State) (p : Bool), exec .setIntakeMarks s = .next (t.finishBlock { result := .ok, operands := [.flag p] }) ∧
       t.intake = { slips := s.intake.slips, paused := p, high := high, low := low } ∧
       (s.intake.paused = false → (p = true ↔ high ≤ len)) ∧ (s.intake.paused = true → (p = false ↔ len ≤ low)) ∧
       t = { s with intake := t.intake, lines := t.lines } ∧
       ∀ l : LineId, t.lines[l] = { s.lines[l] with walkPos := t.lines[l].walkPos })


/-! ### Slips (R41 to R59, R62 to R72, R78 to R87) -/

/-- Every step keeps the bills in balance: each check's total is the sum over its lines that are not VOIDED, the dues
of its shares sum to its total, and a line is FIRING exactly while it stands in its check's one entry of the Fire
Backlog (R38, R64, R68, R107). -/
def Obligations.BillsStayBalanced : Prop :=
  ∀ s t : State, s.BillsBalance → step s = .next t → t.BillsBalance

/-- A slip taken ends with one answer, and a refused slip changes nothing else: a till's slip ends with one ANSWER to
its till, a remote order with one ORDER_RESULT; a kind the Check Engine does not know is refused BAD_SLIP (R41, R42,
R59). That the answer to an unknown kind names no check is log 19. -/
def Obligations.SlipsEndWithOneAnswer : Prop :=
  (∀ (s : State) (t : TillId) (kind : Byte) (content : List Byte) (rest : List Slip),
    s.headSlip t kind content rest →
    ∃ (u : State) (check : Option Nat) (r : SlipResult),
      exec (slipCommand kind) s = .next (u.post t (.answer kind check r)) ∧
      u.intake = (s.afterTaking rest).intake ∧
      (∀ why i, r = .refused why i → u = s.afterTaking rest) ∧
      (kind = 0 ∨ 7 < kind.toNat → check = none ∧ r = .refused .badSlip none)) ∧
  (∀ (s : State) (ref : Nat) (kind : Byte) (content : List Byte) (rest : List Slip),
    s.intake.slips = { source := .remote ref, kind := kind, content := content } :: rest →
    ∃ (u : State) (r : OrderResult),
      exec .remoteOrderProcess s = .next (u.raise (.orderResult ref r)) ∧
      u.intake = (s.afterTaking rest).intake ∧ (∀ why i, r = .refused why i → u = s.afterTaking rest))

/-- QUERY: the check is open and the access checks pass, or it is refused; it changes nothing (R53). The one-byte count
before the shares of the ANSWER is log 14. -/
def Obligations.QueriesAnswerAndChangeNothing : Prop :=
  ∀ (s : State) (t : TillId) (n : Nat) (rest : List Slip), 1 ≤ n → n < 65536 →
    s.headSlip t 7 (bytesOf 2 n) rest →
    ((∀ c ∈ s.ce.checks, c.number ≠ n) →
      exec .query s = .next ((s.afterTaking rest).post t (.answer 7 (some n) (.refused .noCheck none)))) ∧
    (∀ c, s.hasCheck n c → ¬ s.mayAct t c →
      exec .query s = .next ((s.afterTaking rest).post t (.answer 7 (some n) (.refused .wrongStand none)))) ∧
    (∀ c, s.hasCheck n c → s.mayAct t c →
      exec .query s = .next ((s.afterTaking rest).post t (.answer 7 (some n) (.accepted
        ([.number (some c.pickup), .code c.state.code, .code c.mode.code, .amount c.total, .byteCount c.shares.length]
          ++ c.shares.flatMap (fun x =>
            [.index (some x.index), .amount x.due, .amount x.tendered, .code x.state.code]))))))

/-- ORDER and REMOTE_ORDER_PROCESS on an OPEN stand, when every test of R44 (and of R58) passes: the check is opened,
and the answer carries its numbers and its total; a remote order's check is paid (R40, R44, R45, R58, R59). -/
def Obligations.OrdersOpenChecks : Prop :=
  (∀ (s : State) (t : TillId) (content : List Byte) (rest : List Slip) (notify : Bool) (ls : List SlipLine),
    s.headSlip t 1 content rest → readOrder content = .ok (notify, ls) →
    s.ce.stands[(s.till t).stand].state = .opened → s.canSell ls → s.priceOf ls ≤ 99999999 →
    s.ce.checks.length < 512 → 1 ≤ s.sj.free →
    ∃ (u : State) (d : Check),
      exec .order s = .next (u.post t (.answer 1 (some d.number)
        (.accepted [.number (some d.pickup), .amount d.total]))) ∧
      s.OpenedCheck u d (s.till t).stand (.till t) notify ls false) ∧
  (∀ (s : State) (ref : Nat) (kind : Byte) (content : List Byte) (rest : List Slip) (sd : StandId)
    (ls : List SlipLine),
    s.intake.slips = { source := .remote ref, kind := kind, content := content } :: rest →
    readRemote content = .ok (sd, s.priceOf ls, ls) →
    s.ce.stands[sd].state = .opened → s.canSell ls → s.priceOf ls ≤ 99999999 →
    s.ce.checks.length < 512 → 1 ≤ s.sj.free →
    ∃ (u : State) (d : Check),
      exec .remoteOrderProcess s = .next (u.raise (.orderResult ref (.accepted d.number sd d.pickup d.total))) ∧
      s.OpenedCheck u d sd (.remote ref) true ls true)

/-- A slip or remote order that fails a test is refused with the reason of the first test that fails, and its failing
index, and changes nothing else: a layout that is not kept (R42, R66, R80), and the tests of an ORDER and an ADD (R44), a
VOID LINE (R48), a VOID CHECK but for its last (R50), a remote order (R58), a SPLIT (R67, R70) and a TENDER but for its
last (R81). Those last tests are in VoidedChecksLeaveARecord and CardTendersTakeTheirPath. Which index and which check a
BAD_SLIP names is log 19; that a repeated line index, or one of several entries that fail one condition, is named by
the first entry is log 18; that an index above 24 in a VOID LINE is BAD_LINE, and a prepaid amount above 99,999,999 is
AMOUNT, is log 44. -/
def Obligations.SlipsAreTestedInOrder : Prop :=
  ∀ (s : State) (t : TillId) (content : List Byte) (rest : List Slip),
    (s.headSlip t 1 content rest →
      let refused := s.refuses .order 1 t rest none
      (∀ i, readOrder content = .error i → refused .badSlip i) ∧
      (∀ notify ls, readOrder content = .ok (notify, ls) →
        let state := s.ce.stands[(s.till t).stand].state
        (state = .closing → refused .closed none) ∧
        (state = .unopened ∨ state = .closed → refused .notOpen none) ∧
        (state = .opened →
          s.refusesItems ls refused ∧
          (s.canSell ls →
            (99999999 < s.priceOf ls → refused .tooLarge none) ∧
            (s.priceOf ls ≤ 99999999 → 512 ≤ s.ce.checks.length → refused .tableFull none) ∧
            (s.priceOf ls ≤ 99999999 → s.ce.checks.length < 512 → s.sj.free = 0 → refused .journalFull none))))) ∧
    (s.headSlip t 2 content rest →
      (∀ i, readAdd content = .error i → s.refuses .add 2 t rest (namedCheck content) .badSlip i) ∧
      (∀ n ls, readAdd content = .ok (n, ls) →
        let refused := s.refuses .add 2 t rest (some n)
        s.refusesCheck t n refused ∧
        (∀ c, s.hasCheck n c → s.mayAct t c →
          ((∃ x ∈ c.shares, x.tenders ≠ []) → refused .tendered none) ∧
          ((∀ x ∈ c.shares, x.tenders = []) →
            s.refusesItems ls refused ∧
            (s.canSell ls →
              (24 < c.lines.length + ls.length → refused .tooManyLines none) ∧
              (c.lines.length + ls.length ≤ 24 → 99999999 < c.total + s.priceOf ls → refused .tooLarge none)))))) ∧
    (s.headSlip t 3 content rest →
      (readSplit content = none → s.refuses .split 3 t rest (namedCheck content) .badSlip none) ∧
      (∀ n o, readSplit content = some (n, o) →
        let refused := s.refuses .split 3 t rest (some n)
        s.refusesCheck t n refused ∧
        (∀ c, s.hasCheck n c → s.mayAct t c → Rising Share.index c.shares → Rising Line.index c.lines →
          c.refusesSplit o refused))) ∧
    (s.headSlip t 4 content rest →
      (readTender content = none → s.refuses .tender 4 t rest (namedCheck content) .badSlip none) ∧
      (∀ n i kind amount, readTender content = some (n, i, kind, amount) →
        let refused := s.refuses .tender 4 t rest (some n)
        s.refusesCheck t n refused ∧
        (∀ c, s.hasCheck n c → s.mayAct t c →
          (lookupBy Share.index i c.shares = none → refused .badShare (some i)) ∧
          (∀ x, lookupBy Share.index i c.shares = some x →
            (x.state = .paid → refused .paid (some i)) ∧
            (x.state = .authorizing → refused .pending (some i)) ∧
            (x.state = .due → 3 ≤ x.tenders.length → refused .tendersFull (some i)) ∧
            (x.state = .due → x.tenders.length < 3 → kind = .card → x.due - x.tendered < amount →
              refused .over (some i)))))) ∧
    (s.headSlip t 5 content rest →
      (readVoidLine content = none → s.refuses .voidLine 5 t rest (namedCheck content) .badSlip none) ∧
      (∀ n i, readVoidLine content = some (n, i) →
        let refused := s.refuses .voidLine 5 t rest (some n)
        s.refusesCheck t n refused ∧
        (∀ c, s.hasCheck n c → s.mayAct t c →
          ((∃ x ∈ c.shares, x.tenders ≠ []) → refused .tendered none) ∧
          ((∀ x ∈ c.shares, x.tenders = []) →
            ((∀ l ∈ c.lines, l.index = i → l.state = .voided) → refused .badLine (some i)) ∧
            (∀ l ∈ c.lines, l.index = i → Rising Line.index c.lines →
              (l.state = .done → refused .done (some i)) ∧
              (l.state = .fired ∨ l.state = .cooked →
                ((s.till t).role = .cashier → refused .role (some i)) ∧
                ((s.till t).role = .supervisor → s.work.kitchenVoid c [l] = none →
                  refused .kitchenFull none))))))) ∧
    (s.headSlip t 6 content rest →
      (readCheckNumber content = none → s.refuses .voidCheck 6 t rest (namedCheck content) .badSlip none) ∧
      (∀ n, readCheckNumber content = some n →
        let refused := s.refuses .voidCheck 6 t rest (some n)
        ((s.till t).role = .cashier → refused .role none) ∧
        ((s.till t).role = .supervisor → (∀ c ∈ s.ce.checks, c.number ≠ n) → refused .noCheck none))) ∧
    (∀ ref kind, s.intake.slips = { source := .remote ref, kind := kind, content := content } :: rest →
      let refused := fun why i =>
        exec .remoteOrderProcess s = .next ((s.afterTaking rest).raise (.orderResult ref (.refused why i)))
      (∀ i, readRemote content = .error i → refused .badSlip i) ∧
      (∀ sd amount ls, readRemote content = .ok (sd, amount, ls) →
        let state := s.ce.stands[sd].state
        (state = .closing → refused .closed none) ∧
        (state = .unopened ∨ state = .closed → refused .notOpen none) ∧
        (state = .opened →
          s.refusesItems ls refused ∧
          (s.canSell ls →
            (99999999 < s.priceOf ls → refused .tooLarge none) ∧
            (s.priceOf ls ≤ 99999999 →
              (amount ≠ s.priceOf ls → refused .amount none) ∧
              (amount = s.priceOf ls →
                (512 ≤ s.ce.checks.length → refused .tableFull none) ∧
                (s.ce.checks.length < 512 → s.sj.free = 0 → refused .journalFull none)))))))

/-- ADD and VOID_LINE that pass their tests: the lines are added, or the line is VOIDED and its stock returned, and the
split dissolves to WHOLE over the new total (R46, R48, R49, R65). A line in the kitchen is voided there, as
VoidsReachTheKitchen says, or the slip is refused KITCHEN_FULL. -/
def Obligations.LineChangesDissolveSplits : Prop :=
  (∀ (s : State) (t : TillId) (content : List Byte) (rest : List Slip) (n : Nat) (c : Check) (ls : List SlipLine),
    s.headSlip t 2 content rest → readAdd content = .ok (n, ls) → s.hasCheck n c → s.mayAct t c → s.BillsBalance →
    (∀ x ∈ c.shares, x.tenders = []) → s.canSell ls → c.lines.length + ls.length ≤ 24 →
    c.total + s.priceOf ls ≤ 99999999 →
    ∃ (u : State) (d : Check) (first : Nat) (old new : List Line),
      exec .add s = .next (u.post t (.answer 2 (some n)
        (.accepted [.index (some first), .count ls.length, .amount d.total]))) ∧
      u.hasCheck n d ∧ d.lines = old ++ new ∧ d.total = c.total + s.priceOf ls ∧ d.mode = .whole ∧
      d.readySent = false ∧ (d.state = .paid ↔ d.total = 0) ∧
      d.shares = [{ index := 1, due := d.total, tendered := 0,
                    state := if d.total = 0 then .paid else .due, tenders := [] }] ∧
      (∀ l ∈ c.lines, l.index < first) ∧ (first = 1 ∨ ∃ l ∈ c.lines, l.index + 1 = first) ∧
      new.map Line.index = (List.range ls.length).map (· + first) ∧ List.Forall₂ s.snapshot ls new ∧
      List.Forall₂ (fun a b : Line => { a with owner := none, state := b.state, ticket := b.ticket,
                                               assembly := b.assembly } = b) c.lines old ∧
      (s.ce.stands[c.stand].policy = .fireOnOrder →
        old = c.lines.map (fun l => { l with owner := none }) ∧ u.fired n new) ∧
      (s.ce.stands[c.stand].policy = .fireOnPay → 0 < d.total →
        old = c.lines.map (fun l => { l with owner := none }) ∧ ∀ l ∈ new, l.state = .held) ∧
      s.stockTaken u ls ∧ u.sj = s.sj ∧ u.tu = s.tu ∧
      ∀ m, m ≠ n → lookupBy Check.number m u.ce.checks = lookupBy Check.number m s.ce.checks) ∧
  (∀ (s : State) (t : TillId) (content : List Byte) (rest : List Slip) (n i : Nat) (c : Check) (l : Line),
    s.headSlip t 5 content rest → readVoidLine content = some (n, i) → s.hasCheck n c → s.mayAct t c →
    s.BillsBalance → (∀ x ∈ c.shares, x.tenders = []) → l ∈ c.lines → l.index = i → l.state ≠ .voided →
    l.state ≠ .done → (l.state = .fired ∨ l.state = .cooked → (s.till t).role = .supervisor) →
    let total := ((c.lines.filter fun x => decide (x.index ≠ i) && decide (x.state ≠ .voided)).map
      fun x => x.qty * x.price).sum
    (l.state = .fired ∨ l.state = .cooked → s.work.kitchenVoid c [l] = none →
      exec .voidLine s = .next ((s.afterTaking rest).post t (.answer 5 (some n) (.refused .kitchenFull none)))) ∧
    (l.state = .held ∨ l.state = .firing ∨ (s.work.kitchenVoid c [l]).isSome →
      ∃ u : State, exec .voidLine s = .next (u.post t (.answer 5 (some n) (.accepted [.index (some i), .amount total]))) ∧
        s.stockReturned u [l] ∧ u.tu = s.tu ∧
        ((∀ d, ¬ u.hasCheck n d) → s.ClosedCheck u n total) ∧
        (∀ w d, l.state = .fired ∨ l.state = .cooked → s.work.kitchenVoid c [l] = some w → u.hasCheck n d →
          s.ce.stands[c.stand].policy = .fireOnOrder ∨ 0 < total → u.kr = w.kr ∧ u.ports = w.ports) ∧
        (∀ d, u.hasCheck n d → u.sj = s.sj ∧ d.total = total ∧ d.mode = .whole ∧
          d.shares = [{ index := 1, due := total, tendered := 0,
                        state := if total = 0 then .paid else .due, tenders := [] }] ∧
          d.lines.map Line.index = c.lines.map Line.index ∧
          (∀ x ∈ d.lines, x.owner = none ∧ (x.index = i → x.state = .voided)) ∧
          (s.ce.stands[c.stand].policy = .fireOnOrder ∨ 0 < total → ∀ x ∈ d.lines, x.index ≠ i →
            ∃ y ∈ c.lines, { y with owner := none } = x))))

/-- VOID_CHECK by slip and by control block: the Router accepts the void of the check's FIRED and COOKED lines, or
nothing changes; then the check leaves with its CHECK_VOIDED record and its stock returns (R50, R51, R61). The REFUSED
reply carries the code of KITCHEN_FULL (log 39). -/
def Obligations.VoidedChecksLeaveARecord : Prop :=
  ∀ (s : State) (n : Nat) (c : Check), s.hasCheck n c → s.BillsBalance →
    let kitchen := s.work.kitchenVoid c (c.lines.filter fun l => decide (l.state = .fired) || decide (l.state = .cooked))
    let gone := c.lines.filter fun l => decide (l.state ≠ .done) && decide (l.state ≠ .voided)
    (∀ (t : TillId) (content : List Byte) (rest : List Slip),
      s.headSlip t 6 content rest → readCheckNumber content = some n → (s.till t).role = .supervisor →
      (kitchen = none →
        exec .voidCheck s = .next ((s.afterTaking rest).post t (.answer 6 (some n) (.refused .kitchenFull none)))) ∧
      (kitchen.isSome → ∃ u : State,
        exec .voidCheck s = .next (u.post t (.answer 6 (some n) (.accepted [.count gone.length]))) ∧
        s.VoidedCheck u c .till ∧ s.stockReturned u gone)) ∧
    (∀ tag, s.nextBlock = some (tag, .voidCheck n) → n ≠ 0 →
      (kitchen = none →
        exec .voidCheckBlock s = .next (s.finishBlock { result := .refused, operands := [.code 17] })) ∧
      (kitchen.isSome → ∃ u : State,
        exec .voidCheckBlock s = .next (u.finishBlock
          { result := .ok, operands := [.count gone.length, .amount c.voidSummary.total] }) ∧
        s.VoidedCheck u c .remote ∧ s.stockReturned u gone))

/-- SPLIT that passes its tests, in each mode: PAID shares are kept, the others make way for new shares at the lowest
free indices with the dues of the mode, and the lines' owners follow; on a FIRE_ON_PAY stand the HELD lines of shares that
are PAID at once are released as one firing, and no other line changes (R66 to R74). That some new share is above 0 is
what R68 says of every split of a balance above 0. The one-byte count before the shares of the ANSWER is log 14. -/
def Obligations.SplitsShareTheBalance : Prop :=
  ∀ (s : State) (t : TillId) (content : List Byte) (rest : List Slip) (n : Nat) (o : SplitOperand) (c : Check),
    s.headSlip t 3 content rest → readSplit content = some (n, o) → s.hasCheck n c → s.mayAct t c → c.splitFits o →
    (∃ k < o.shares, 0 < c.dueOf o k) → (c.lines.map Line.index).Nodup →
    ∃ (u : State) (d : Check),
      exec .split s = .next (u.post t (.answer 3 (some n) (.accepted
        ([.code o.mode.code, .amount c.balance, .byteCount d.shares.length]
          ++ d.shares.flatMap (fun x =>
            [.index (some x.index), .amount x.due, .amount x.tendered, .code x.state.code]))))) ∧
      u.hasCheck n d ∧ d.state = .opened ∧ d.total = c.total ∧ d.mode = o.mode ∧
      (∀ x ∈ c.shares, x.state = .paid → x ∈ d.shares) ∧
      (∀ k < o.shares, ∃ i, c.openIndices[k]? = some i ∧
        { index := i, due := c.dueOf o k, tendered := 0,
          state := if c.dueOf o k = 0 then .paid else .due, tenders := [] } ∈ d.shares) ∧
      d.shares.length = (c.shares.countP fun x => decide (x.state = .paid)) + o.shares ∧
      d.lines.map Line.index = c.lines.map Line.index ∧
      d.lines.map Line.owner = c.lines.map (fun l =>
        match o with
        | .byLine _ a => if l.state = .voided then none else (a.find? fun e => e.1 == l.index).map Prod.snd
        | _ => l.owner.filter fun i => c.shares.any fun x => decide (x.state = .paid) && decide (x.index = i)) ∧
      (let paysFor := fun (p : Line × Line) => decide (s.ce.stands[c.stand].policy = .fireOnPay) &&
         decide (p.1.state = .held) &&
         p.2.owner.any fun i => d.shares.any fun x => decide (x.state = .paid) && decide (x.index = i)
       u.fired n (((c.lines.zip d.lines).filter paysFor).map Prod.snd) ∧
       ∀ p ∈ c.lines.zip d.lines, paysFor p = false → p.2 = { p.1 with owner := p.2.owner }) ∧
      u.sj = s.sj ∧ u.tu = s.tu ∧
      ∀ m, m ≠ n → lookupBy Check.number m u.ce.checks = lookupBy Check.number m s.ce.checks

/-- CASH: the smaller of the amount and the remaining due is applied, the rest is change, the share is tested against
its due, and the ANSWER carries the fields that a TENDER is answered with (R82, R87). That the ANSWER to CASH holds the
field of the tag, as an absent one, is log 14. -/
def Obligations.CashTendersGiveChange : Prop :=
  ∀ (s : State) (t : TillId) (rest : List Slip) (n i amount : Nat) (c : Check) (x : Share),
    1 ≤ n → n < 65536 → 1 ≤ i → i ≤ 8 → 1 ≤ amount → amount ≤ 99999999 →
    s.headSlip t 4 (bytesOf 2 n ++ bytesOf 1 i ++ bytesOf 1 1 ++ bytesOf 4 amount) rest →
    s.hasCheck n c → s.mayAct t c → lookupBy Share.index i c.shares = some x → x.state = .due →
    x.tenders.length < 3 →
    let applied := min amount (x.due - x.tendered)
    let pay := fun (y : Share) =>
      let tenders : List Tender := y.tenders ++ [{ kind := .cash, amount := applied, state := .applied, tag := none }]
      let full := decide (y.tendered + applied = y.due) && tenders.all fun z => decide (z.state ≠ .pending)
      { y with tendered := y.tendered + applied, tenders := tenders, state := if full then .paid else .due }
    let shares := c.shares.map fun y => if y.index = i then pay y else y
    let paid := shares.all fun y => decide (y.state = .paid)
    ∃ u : State,
      exec .tender s = .next (u.post t (.answer 4 (some n) (.accepted
        [.index (some i), .code 1, .code 1, .amount applied, .amount (amount - applied), .number none, .amount x.due,
          .amount (pay x).tendered, .code (pay x).state.code, .code (if paid then 2 else 1)]))) ∧
      u.tu = s.tu ∧
      (paid = false → ∃ d, u.hasCheck n d ∧ u.sj = s.sj) ∧
      (∀ d, u.hasCheck n d → d.shares = shares ∧ d.total = c.total ∧ d.state = if paid then .paid else .opened) ∧
      ((∀ d, ¬ u.hasCheck n d) → paid = true ∧ s.ClosedCheck u n (lineTotal c.lines) ∧
        ∃ (r : Record) (b : CheckSummary), u.sj.records = s.sj.records ++ [r] ∧ r.body = .checkClosed b ∧
          b.tenders = shares.flatMap fun y => y.tenders.map fun z => { share := y.index, tender := z })

/-- CARD, by the uplink state: ONLINE, the authorization begins with a new tag, a live entry, a reservation, a PENDING
tender and an AUTH REQUEST; otherwise the floor limit decides, and the tender is DEFERRED (R83 to R86). -/
def Obligations.CardTendersTakeTheirPath : Prop :=
  ∀ (s : State) (t : TillId) (rest : List Slip) (n i amount : Nat) (c : Check) (x : Share),
    1 ≤ n → n < 65536 → 1 ≤ i → i ≤ 8 → 1 ≤ amount → amount ≤ 99999999 →
    s.headSlip t 4 (bytesOf 2 n ++ bytesOf 1 i ++ bytesOf 1 2 ++ bytesOf 4 amount) rest →
    s.hasCheck n c → s.mayAct t c → lookupBy Share.index i c.shares = some x → x.state = .due →
    x.tenders.length < 3 → amount ≤ x.due - x.tendered →
    let refused := fun why =>
      exec .tender s = .next ((s.afterTaking rest).post t (.answer 4 (some n) (.refused why (some i))))
    let held := s.tu.live.map AuthEntry.tag ++ s.tu.expired.map (fun e => e.entry.tag)
    let tag := nextFree 65535 held held.length s.tu.tagCtr
    let nextTag := if tag < 65535 then tag + 1 else 1
    (s.upc.state = .online → 32 ≤ s.tu.live.length → refused .authFull) ∧
    (s.upc.state = .online → s.tu.live.length < 32 → s.sj.free = 0 → refused .journalFull) ∧
    (s.upc.state ≠ .online → s.ce.stands[c.stand].floor < amount → refused .offline) ∧
    (s.upc.state = .online → s.tu.live.length < 32 → 1 ≤ s.sj.free →
      let entry : AuthEntry :=
        { tag := tag, check := c.number, share := i, amount := amount, stand := c.stand, till := t,
          started := s.clock.secs, orphan := false, wait := { elapsed := 0, limit := s.tu.authWait } }
      let tender : Tender := { kind := .card, amount := amount, state := .pending, tag := some tag }
      ∃ u : State,
        exec .tender s = .next ((u.handOver (.authRequest
            { tag := tag, check := c.number, share := i, amount := amount, stand := c.stand, till := t,
              started := s.clock.secs })).post t
          (.answer 4 (some n) (.accepted
            [.index (some i), .code 2, .code 2, .amount amount, .amount 0, .number (some tag), .amount x.due,
              .amount x.tendered, .code 2, .code 1]))) ∧
        u.tu = { s.tu with live := putBy AuthEntry.tag entry s.tu.live, tagCtr := nextTag } ∧
        u.sj.reservations = s.sj.reservations + 1 ∧ u.sj.records = s.sj.records ∧ u.kr = s.kr ∧ u.ports = s.ports ∧
        u.ce = { s.ce with checks := s.ce.checks.map fun d => if d.number = n then
          { d with shares := d.shares.map fun y => if y.index = i then
            { y with tenders := y.tenders ++ [tender], state := .authorizing } else y } else d }) ∧
    (s.upc.state ≠ .online → amount ≤ s.ce.stands[c.stand].floor →
      let tender : Tender := { kind := .card, amount := amount, state := .deferred, tag := some tag }
      let pay := fun (y : Share) =>
        let full := decide (y.tendered + amount = y.due) && y.tenders.all fun z => decide (z.state ≠ .pending)
        { y with tendered := y.tendered + amount, tenders := y.tenders ++ [tender],
                 state := if full then .paid else .due }
      let shares := c.shares.map fun y => if y.index = i then pay y else y
      let paid := shares.all fun y => decide (y.state = .paid)
      ∃ u : State,
        exec .tender s = .next (u.post t (.answer 4 (some n) (.accepted
          [.index (some i), .code 2, .code 4, .amount amount, .amount 0, .number (some tag), .amount x.due,
            .amount (pay x).tendered, .code (pay x).state.code, .code (if paid then 2 else 1)]))) ∧
        u.tu = { s.tu with tagCtr := nextTag } ∧
        (∀ d, u.hasCheck n d → d.shares = shares ∧ d.total = c.total) ∧
        (paid = false → ∃ d, u.hasCheck n d) ∧
        ((∀ d, ¬ u.hasCheck n d) → paid = true ∧ s.ClosedCheck u n (lineTotal c.lines)))

/-! ### Authorizations (R90 to R96, R99) -/

/-- An answer taken for a live entry: the tender is APPROVED or removed, the share is tested, an AUTH notice goes to
the tendering till, and the entry and its reservation are freed. For an orphan entry, an APPROVE is recorded and a
DECLINE frees the reservation (R91 to R93). -/
def Obligations.AuthAnswersSettleTenders : Prop :=
  ∀ (s : State) (e : AuthEntry) (v : Verdict), (e.tag, v) ∈ s.ce.answers →
    lookupBy AuthEntry.tag e.tag s.tu.live = some e →
    let left := s.tu.live.filter fun y => decide (y.tag ≠ e.tag)
    (e.orphan = true → v = .approve →
      exec (.authAnswerTaken e.tag v) s = .next { s with
        ce := { s.ce with answers := s.ce.answers.erase (e.tag, v) }
        tu := { s.tu with live := left }
        sj := { s.sj with
          records := s.sj.records ++ [Record.mk s.sj.recordCtr s.clock
            (.lateAnswer e.tag e.check e.amount .voided .approve)]
          reservations := s.sj.reservations - 1
          recordCtr := if s.sj.recordCtr < 4294967295 then s.sj.recordCtr + 1 else 1 } }) ∧
    (e.orphan = true → v = .decline →
      exec (.authAnswerTaken e.tag v) s = .next { s with
        ce := { s.ce with answers := s.ce.answers.erase (e.tag, v) }
        tu := { s.tu with live := left }
        sj := { s.sj with reservations := s.sj.reservations - 1,
                          low := s.sj.low && decide
                            (2048 - s.sj.records.length - (s.sj.reservations - 1) ≤ s.sj.warnLevel) } }) ∧
    (∀ c x, e.orphan = false → s.hasCheck e.check c → lookupBy Share.index e.share c.shares = some x →
      let tenders := match v with
        | .approve => x.tenders.map fun z =>
            if z.tag = some e.tag ∧ z.state = .pending then { z with state := .approved } else z
        | .decline => x.tenders.filter fun z => ! (decide (z.tag = some e.tag) && decide (z.state = .pending))
      let tendered := match v with | .approve => x.tendered + e.amount | .decline => x.tendered
      let full := decide (tendered = x.due) && tenders.all fun z => decide (z.state ≠ .pending)
      let y : Share := { x with tendered := tendered, tenders := tenders, state := if full then .paid else .due }
      ∃ u : State,
        exec (.authAnswerTaken e.tag v) s = .next (u.post e.till (.auth e.tag e.check e.share e.amount
          (match v with | .approve => .approved | .decline => .declined) y.due y.tendered y.state)) ∧
        u.tu = { s.tu with live := left } ∧ u.ce.answers = s.ce.answers.erase (e.tag, v) ∧
        (∀ d, u.hasCheck e.check d → lookupBy Share.index e.share d.shares = some y ∧ d.total = c.total ∧
          u.sj.records = s.sj.records ∧ u.sj.reservations = s.sj.reservations - 1) ∧
        ((∀ d, ¬ u.hasCheck e.check d) → y.state = .paid ∧
          u.sj.records.length = s.sj.records.length + 1 ∧ u.sj.reservations = s.sj.reservations - 2))

/-- The expiry of a live entry decides by the orphan flag, the uplink state and the floor limit; the entry moves to
the tail of the Expired Auth List with its reservation, the oldest making room (R94, R95). The expiry acts once the
timer of whole seconds has reached the wait (log 5). -/
def Obligations.AuthExpiriesMoveEntries : Prop :=
  ∀ (s : State) (e : AuthEntry), lookupBy AuthEntry.tag e.tag s.tu.live = some e →
    let moved := fun o => { s.tu with
      live := s.tu.live.filter fun y => decide (y.tag ≠ e.tag)
      expired := (if 32 ≤ s.tu.expired.length then s.tu.expired.tail else s.tu.expired) ++
        [{ entry := e, outcome := o, age := 0 }] }
    (e.wait.elapsed < e.wait.limit → exec (.authWaitExpiry e.tag) s = .next s) ∧
    (e.wait.limit ≤ e.wait.elapsed →
      (e.orphan = true → s.tu.expired.length < 32 →
        exec (.authWaitExpiry e.tag) s = .next { s with tu := moved .voided }) ∧
      (e.orphan = true → 32 ≤ s.tu.expired.length →
        exec (.authWaitExpiry e.tag) s = .next { s with
          tu := moved .voided
          sj := { s.sj with reservations := s.sj.reservations - 1,
                            low := s.sj.low && decide
                              (2048 - s.sj.records.length - (s.sj.reservations - 1) ≤ s.sj.warnLevel) } }) ∧
      (∀ c x, e.orphan = false → s.hasCheck e.check c → lookupBy Share.index e.share c.shares = some x →
        let defer := decide (s.upc.state ≠ .online) && decide (e.amount ≤ s.ce.stands[e.stand].floor)
        let tenders := if defer then x.tenders.map fun z =>
            if z.tag = some e.tag ∧ z.state = .pending then { z with state := .deferred } else z
          else x.tenders.filter fun z => ! (decide (z.tag = some e.tag) && decide (z.state = .pending))
        let tendered := if defer then x.tendered + e.amount else x.tendered
        let full := decide (tendered = x.due) && tenders.all fun z => decide (z.state ≠ .pending)
        let y : Share := { x with tendered := tendered, tenders := tenders, state := if full then .paid else .due }
        ∃ u : State,
          exec (.authWaitExpiry e.tag) s = .next (u.post e.till (.auth e.tag e.check e.share e.amount
            (if defer then .deferred else .timeout) y.due y.tendered y.state)) ∧
          u.tu = moved (if defer then .deferred else .removed) ∧
          (∀ d, u.hasCheck e.check d → lookupBy Share.index e.share d.shares = some y ∧ d.total = c.total)))

/-- LATE_WINDOW_EXPIRY drops the head of the Expired Auth List when its time since expiry has reached the late window,
and SET_AUTH_TIMES drops every such entry at once; a dropped entry's reservation is released, and nothing else happens
(R95, R99). -/
def Obligations.LateWindowsDropEntries : Prop :=
  (∀ (s : State) (e : ExpiredEntry) (rest : List ExpiredEntry), s.tu.expired = e :: rest →
    (e.age < s.tu.lateWindow → exec .lateWindowExpiry s = .next s) ∧
    (s.tu.lateWindow ≤ e.age → exec .lateWindowExpiry s = .next { s with
      tu := { s.tu with expired := rest }
      sj := { s.sj with reservations := s.sj.reservations - 1,
                        low := s.sj.low && decide
                          (2048 - s.sj.records.length - (s.sj.reservations - 1) ≤ s.sj.warnLevel) } })) ∧
  (∀ (s : State) (tag wait window : Nat) (old kept : List ExpiredEntry),
    s.nextBlock = some (tag, .setAuthTimes wait window) → 5 ≤ wait → wait ≤ 60 → 10 ≤ window → window ≤ 600 →
    s.tu.expired = old ++ kept → (∀ e ∈ old, window ≤ e.age) → (∀ e ∈ kept, e.age < window) →
    exec .setAuthTimes s = .next (State.finishBlock
      { result := .ok, operands := [.duration (some wait), .duration (some window)] }
      { s with
        tu := { s.tu with authWait := wait, lateWindow := window, expired := kept }
        sj := { s.sj with
          reservations := s.sj.reservations - old.length
          low := s.sj.low && (old.isEmpty || decide
            (2048 - s.sj.records.length - (s.sj.reservations - old.length) ≤ s.sj.warnLevel)) } }))

/-! ### The kitchen (R104 to R118) -/

/-- FIRE_BACKLOG_TRY: a head entry that has no room stays, and nothing behind it is tried; one that has room goes to
the kitchen as one NORMAL ticket for each target station, queued there, and one ASSEMBLY that waits at the expo station
for the tickets that hold its lines (R104 to R106, R108). -/
def Obligations.BacklogTryMakesTickets : Prop :=
  ∀ (s : State) (f : Firing) (c : Check), s.ce.tryOffered = true → s.hasCheck f.check c →
    (c.lines.map Line.index).Nodup →
    let ls := c.lines.filter fun l => decide (l.index ∈ f.lines)
    let plan := s.work.plan c ls
    (∀ more, s.ce.backlog = f :: more → s.work.hasRoom plan = false →
      exec .fireBacklogTry s = .next { s with ce := { s.ce with tryOffered := false } }) ∧
    (s.ce.backlog = [] → exec .fireBacklogTry s = .next { s with ce := { s.ce with tryOffered := false } }) ∧
    (s.ce.backlog = [f] → s.work.hasRoom plan = true →
      ∃ (t : State) (d : Check), exec .fireBacklogTry s = .next t ∧
        t.ce.backlog = [] ∧ t.ce.tryOffered = false ∧ t.hasCheck f.check d ∧
        t.kr.tickets.length = s.kr.tickets.length + plan.size ∧ t.tu = s.tu ∧ t.sj = s.sj ∧ t.ports = s.ports ∧
        (∀ l ∈ d.lines, l.index ∈ f.lines → l.state = .fired) ∧
        (∀ l ∈ c.lines, l.index ∉ f.lines → l ∈ d.lines) ∧
        (∀ st : StationId, (∃ l ∈ ls, s.work.target l = st) →
          ∃ k ∈ t.kr.tickets, k ∉ s.kr.tickets ∧ k.kind = .normal ∧ k.station = st ∧ k.check = some c.number ∧
            k.stand = c.stand ∧ k.pickup = c.pickup ∧ k.fired = s.clock.secs ∧ k.remake = false ∧
            k.state = .queued ∧ k.number ∈ t.kr.stations[st].normalQ ∧
            k.entries = (ls.filter fun l => decide (s.work.target l = st)).map (fun l =>
              { line := some l.index, item := l.item, qty := l.qty, mods := l.mods, voided := false }) ∧
            ∀ l ∈ d.lines, (∃ l' ∈ ls, l'.index = l.index ∧ s.work.target l' = st) → l.ticket = some k.number) ∧
        (∀ x : StationId, s.ce.stands[c.stand].expo = some x → (∃ l ∈ ls, l.expo = true) →
          ∃ k ∈ t.kr.tickets, k ∉ s.kr.tickets ∧ k.kind = .assembly ∧ k.station = x ∧ k.check = some c.number ∧
            k.state = .waiting ∧ k.fired = s.clock.secs ∧
            k.entries = (ls.filter Line.expo).map (fun l =>
              { line := some l.index, item := l.item, qty := l.qty, mods := l.mods, voided := false }) ∧
            k.wait = (allStations.filter fun st => ls.any fun l =>
              l.expo && decide (s.work.target l = st)).length ∧
            ∀ l ∈ d.lines, (∃ l' ∈ ls, l'.index = l.index ∧ l'.expo = true) → l.assembly = some k.number))

/-- COMPLETION of a ticket that stands where it stood: each line it names unmarked moves on (FIRED to DONE, or to
COOKED while its ASSEMBLY is still to complete; COOKED to DONE for an ASSEMBLY), the ticket leaves a printer's slot
for good or enters a display's recall list, and closure follows. One that has moved changes nothing (R55, R110 to
R112, R117). A FIRED line becomes COOKED only while its ASSEMBLY is live and unfinished (log 22). -/
def Obligations.CompletionsFinishLines : Prop :=
  ∀ (s : State) (o : CompletionOffer) (rest : List CompletionOffer) (k : Ticket),
    s.kr.completions = o :: rest → lookupBy Ticket.number o.ticket s.kr.tickets = some k → k.station = o.station →
    let there := match o.via with
      | .slot x => (s.ports[o.station].slot x).any fun z => z.ticket == o.ticket && z.ended && z.marked
      | .bump => s.kr.stations[o.station].shown.contains o.ticket
    (there = false → exec (.completion o.ticket) s = .next { s with kr := { s.kr with completions := rest } }) ∧
    (∀ c, there = true → k.check = some c.number → s.hasCheck c.number c →
      let moved := fun (l : Line) =>
        if k.entries.any fun e => e.line == some l.index && !e.voided then
          match k.kind, l.state with
          | .normal, .fired => { l with state := if (s.work.assemblyOf c l).isSome then .cooked else .done }
          | .assembly, .cooked => { l with state := .done }
          | _, _ => l
        else l
      ∃ t : State, exec (.completion o.ticket) s = .next t ∧ t.tu = s.tu ∧
        (∀ d, t.hasCheck c.number d → d.lines = c.lines.map moved ∧ d.shares = c.shares ∧ t.sj = s.sj) ∧
        ((∀ d, ¬ t.hasCheck c.number d) → c.state = .paid ∧
          (∀ l ∈ c.lines, (moved l).state = .done ∨ (moved l).state = .voided) ∧
          s.ClosedCheck t c.number (lineTotal c.lines)) ∧
        (∀ x, o.via = .slot x → lookupBy Ticket.number o.ticket t.kr.tickets = none ∧
          ∀ z ∈ t.ports[o.station].slot x, z.ticket ≠ o.ticket) ∧
        (o.via = .bump → s.ce.stands[c.stand].state ≠ .closing →
          t.kr.stations[o.station].recallL.head? = some o.ticket ∧ o.ticket ∉ t.kr.stations[o.station].shown))

/-- RECALL_OFFER of a NORMAL ticket still in the list, at a station with room: the ticket is SHOWN again. One that
reopens takes the lines it names unmarked back to FIRED and clears READY-sent; any other becomes a remake (R54, R118).
The ASSEMBLY is of the same check (log 41). -/
def Obligations.RecallsShowTickets : Prop :=
  ∀ (s : State) (o : RecallOffer) (rest : List RecallOffer) (k : Ticket),
    s.kr.recalls = o :: rest → lookupBy Ticket.number o.ticket s.kr.tickets = some k → k.station = o.station →
    let load := s.kr.tickets.countP fun x => decide (x.station = o.station) && decide (x.state ≠ .bumped)
    let listed := s.kr.stations[o.station].recallL.contains o.ticket
    let named := fun (i : Nat) => k.entries.any fun e => e.line == some i && !e.voided
    let assembly := (k.assembly.bind fun n => lookupBy Ticket.number n s.kr.tickets).filter fun a =>
      decide (a.kind = .assembly) && decide (a.check = k.check) &&
        a.entries.any fun e => !e.voided && e.line.any named
    let reopens := match assembly with
      | some a => decide (a.state = .waiting)
      | none => k.entries.any fun e => e.line.isSome && !e.voided
    (listed = false ∨ 128 ≤ load →
      exec (.recallOffer o.ticket) s = .next { s with kr := { s.kr with recalls := rest } }) ∧
    (∀ c, listed = true → load < 128 → k.kind = .normal → k.check = some c.number → s.hasCheck c.number c →
      reopens = true → (∃ l ∈ c.lines, named l.index = true ∧ (l.state = .done ∨ l.state = .cooked)) →
      ∃ (t : State) (d : Check) (k' : Ticket), exec (.recallOffer o.ticket) s = .next t ∧
        t.hasCheck c.number d ∧ d.readySent = false ∧
        d.lines = c.lines.map (fun l =>
          if named l.index = true ∧ (l.state = .done ∨ l.state = .cooked) then { l with state := .fired } else l) ∧
        lookupBy Ticket.number o.ticket t.kr.tickets = some k' ∧ k'.state = .shown ∧ k'.remake = k.remake ∧
        k'.check = k.check ∧ k'.entries = k.entries ∧ o.ticket ∈ t.kr.stations[o.station].shown ∧
        o.ticket ∉ t.kr.stations[o.station].recallL ∧ t.sj = s.sj ∧ t.tu = s.tu) ∧
    (listed = true → load < 128 →
      (reopens = false ∨ k.check = none ∨ ∃ n, k.check = some n ∧ ∀ c ∈ s.ce.checks, c.number ≠ n) →
      ∃ t : State, exec (.recallOffer o.ticket) s = .next t ∧
        lookupBy Ticket.number o.ticket t.kr.tickets = some { k with
          state := .shown, remake := true, check := none, entries := k.entries.map fun e => { e with line := none } } ∧
        o.ticket ∈ t.kr.stations[o.station].shown ∧ o.ticket ∉ t.kr.stations[o.station].recallL ∧
        t.ce = s.ce ∧ t.sj = s.sj ∧ t.tu = s.tu)

/-! ### Station ports (chapter 7) -/

/-- TICKET, TICKET_FRAME_END and PROBE_TIMER_EXPIRY. An UP port that is not held and sends nothing takes the head of
its queue into the slot that the mark names, begins the frame and moves the mark; at the frame's end the taken timer
starts, and TICKET_FRAME_END does nothing while the port is held; a DOWN port sends a PROBE every 5 seconds (R103,
R109, R126, R130, R132, R134). The probe timer runs in whole seconds (log 5). -/
def Obligations.PortsSendTicketsAndProbes : Prop :=
  ∀ (s : State) (st : StationId), s.upc.part = .running → s.kr.stations[st].cfg.loaded = true →
    let p := s.ports[st]
    let queue := s.kr.stations[st].voidQ ++ s.kr.stations[st].normalQ
    (∀ n more k, p.link = .up → p.hold = false → p.sending = false → p.slot p.mark = none → queue = n :: more →
      lookupBy Ticket.number n s.kr.tickets = some k →
      ∃ t : State, exec (.ticket st) s = .next t ∧
        t.kr.stations[st].voidQ ++ t.kr.stations[st].normalQ = more ∧
        t.kr.tickets = s.kr.tickets.map (fun x => if x.number = n then { x with state := .sending } else x) ∧
        t.ports[st].slot p.mark = some { ticket := n, ended := false, marked := false, timer := none } ∧
        (∀ x, x ≠ p.mark → t.ports[st].mark = x ∧ t.ports[st].slot x = p.slot x) ∧
        t.out = s.out ++ [.ticketBegin st (ticketFrame p.mark k)] ∧
        (∀ x : StationId, x ≠ st → t.ports[x] = s.ports[x] ∧ t.kr.stations[x] = s.kr.stations[x])) ∧
    (p.link ≠ .up ∨ p.hold = true ∨ p.sending = true ∨ (p.slot p.mark).isSome ∨ queue = [] →
      exec (.ticket st) s = .next s) ∧
    (p.link = .up → p.hold = false → p.sending = true →
      let finish := fun (x : OutSlot) => if x.ended then x else
        { x with ended := true, timer := some { elapsed := 0, limit := s.kr.stations[st].cfg.takenTimeout } }
      let ended : Port := { p with slotA := p.slotA.map finish, slotB := p.slotB.map finish }
      exec (.ticketFrameEnd st) s = .next { s with ports := s.ports.set st ended, out := s.out ++ [.ticketEnd st] }) ∧
    (p.hold = true → exec (.ticketFrameEnd st) s = .next s) ∧
    (∀ n, p.link = .down → p.probe = some n → 5 ≤ n →
      let probing : Port := { p with probe := some 0 }
      exec (.probeTimerExpiry st) s =
        .next { s with ports := s.ports.set st probing, out := s.out ++ [.probe st (probeFrame st)] })

/-- TAKEN, BUMP and RECALL in UP. At a display a TAKEN makes the ticket SHOWN; at a printer it frees a ticket that is
not linked, and offers the completion of a linked one. A BUMP of a SHOWN ticket, and a RECALL of a listed one, go by
the ticket in the same way; those for any other number are ignored (R109, R110, R118, R131, R133). Each clears the hold
flag under GO-any, also where it is ignored (R135); that a frame clears it as a whole command is log 34. A second BUMP
while an offer waits is ignored; the statement covers the first (log 40). -/
def Obligations.StationFramesActOnTickets : Prop :=
  ∀ (s : State) (st : StationId) (cs : List PortChar), s.upc.part = .running →
    s.kr.stations[st].cfg.loaded = true → s.ports[st].link = .up →
    let h := s.heard st
    let here := s.kr.stations[st]
    let linked := fun (k : Ticket) => k.kind ≠ .void ∧ k.check.isSome ∧ k.remake = false
    (∀ x, readPort cs = [.frame (.taken x)] →
      (s.ports[st].slot x = none → exec (.taken st cs) s = .next h) ∧
      (∀ z, s.ports[st].slot x = some z → z.ended = false ∨ z.marked = true → exec (.taken st cs) s = .next h) ∧
      (∀ z k, s.ports[st].slot x = some z → z.ended = true → z.marked = false →
        lookupBy Ticket.number z.ticket s.kr.tickets = some k → k.station = st →
        (here.cfg.kind ≠ .print → ∃ (t : State) (k' : Ticket), exec (.taken st cs) s = .next t ∧
          t.ports[st].slot x = none ∧ lookupBy Ticket.number z.ticket t.kr.tickets = some k' ∧
          k' = { k with state := .shown } ∧ z.ticket ∈ t.kr.stations[st].shown) ∧
        (here.cfg.kind = .print → linked k →
          let slot : Option OutSlot := some { z with marked := true, timer := none }
          exec (.taken st cs) s = .next { h with
            ports := h.ports.set st (match x with
              | .a => { h.ports[st] with slotA := slot }
              | .b => { h.ports[st] with slotB := slot })
            kr := { s.kr with completions :=
              s.kr.completions ++ [{ ticket := k.number, station := st, via := .slot x }] } }) ∧
        (here.cfg.kind = .print → ¬ linked k → ∃ t : State, exec (.taken st cs) s = .next t ∧
          t.ports[st].slot x = none ∧ lookupBy Ticket.number z.ticket t.kr.tickets = none))) ∧
    (∀ n, readPort cs = [.frame (.bump n)] →
      (n ∉ here.shown → exec (.bump st cs) s = .next h) ∧
      (∀ k, n ∈ here.shown → lookupBy Ticket.number n s.kr.tickets = some k → k.station = st →
        (linked k → (∀ o ∈ s.kr.completions, o.ticket ≠ n) →
          exec (.bump st cs) s = .next { h with kr := { s.kr with
            completions := s.kr.completions ++ [{ ticket := n, station := st, via := .bump }] } }) ∧
        (k.kind = .void ∨ k.remake = true → ∃ t : State, exec (.bump st cs) s = .next t ∧
          lookupBy Ticket.number n t.kr.tickets = none ∧ n ∉ t.kr.stations[st].shown) ∧
        (k.kind ≠ .void → k.remake = false → k.check = none → ∃ t : State, exec (.bump st cs) s = .next t ∧
          t.kr.stations[st].recallL.head? = some n ∧ n ∉ t.kr.stations[st].shown))) ∧
    (∀ n, readPort cs = [.frame (.recallOf n)] →
      (n ∉ here.recallL → exec (.recallFrame st cs) s = .next h) ∧
      (∀ k, n ∈ here.recallL → lookupBy Ticket.number n s.kr.tickets = some k → k.station = st →
        (k.kind = .normal → linked k → exec (.recallFrame st cs) s = .next { h with kr := { s.kr with
          recalls := s.kr.recalls ++ [{ ticket := n, station := st }] } }) ∧
        (k.kind ≠ .normal ∨ ¬ linked k →
          let load := s.kr.tickets.countP fun x => decide (x.station = st) && decide (x.state ≠ .bumped)
          (128 ≤ load → exec (.recallFrame st cs) s = .next h) ∧
          (load < 128 → ∃ t : State, exec (.recallFrame st cs) s = .next t ∧
            lookupBy Ticket.number n t.kr.tickets = some { k with
              state := .shown, remake := true, check := none,
              entries := k.entries.map fun e => { e with line := none } } ∧
            n ∈ t.kr.stations[st].shown ∧ n ∉ t.kr.stations[st].recallL))))

/-- HOLD and GO in UP, with GO-any, under which any other character clears the flag too, and a HOLD clears it and sets it
again; discarded frames and stray characters, and a frame whose next character is late, each add one to the bad-frame
count, up to 65,535 (R123, R134, R135). That GO carries the character received, and that a frame clears the flag when it
is complete, is log 34; that an OFF port counts nothing is log 33; how far a malformed frame goes is log 42. -/
def Obligations.HoldsAndDiscards : Prop :=
  ∀ (s : State) (st : StationId), s.upc.part = .running → s.kr.stations[st].cfg.loaded = true →
    let p := s.ports[st]
    let put := fun (q : Port) => { s with ports := s.ports.set st q }
    let limit := s.kr.stations[st].cfg.holdLimit
    let bad := fun (k : Nat) (q : Port) => { q with badFrames := min 65535 (q.badFrames + k) }
    (p.link = .up → p.hold = false →
      exec (.hold st) s =
        .next (put { p with hold := true, holdTimer := some { elapsed := 0, limit := limit } })) ∧
    (p.link = .up → p.hold = true → s.kr.stations[st].cfg.goAny = false → exec (.hold st) s = .next s) ∧
    (p.link = .up → p.hold = true → s.kr.stations[st].cfg.goAny = true →
      exec (.hold st) s =
        .next (put { p with hold := true, holdTimer := some { elapsed := 0, limit := limit } })) ∧
    (p.link = .up → exec (.go st { data := chGO }) s = .next (put { p with hold := false, holdTimer := none })) ∧
    exec (.go st { data := chHOLD }) s = exec (.hold st) s ∧
    (∀ ch : PortChar, p.link = .up → ch.framingError = true ∨ (ch.data ≠ chGO ∧ ch.data ≠ chHOLD) →
      (s.kr.stations[st].cfg.goAny = true →
        exec (.go st ch) s = .next (put { p with hold := false, holdTimer := none })) ∧
      (s.kr.stations[st].cfg.goAny = false → exec (.go st ch) s = .next s)) ∧
    (p.link ≠ .up → ∀ c, exec (.hold st) s = .next s ∧ exec (.go st c) s = .next s) ∧
    (p.link ≠ .off → ∀ cs k, 1 ≤ k → readPort cs = List.replicate k .discard →
      exec (.stationFrameDiscard st cs) s = .next (put (bad k (s.heard st).ports[st]))) ∧
    (∀ cs, readPort cs = [] ∨ (∃ r ∈ readPort cs, r ≠ .discard) → exec (.stationFrameDiscard st cs) s = .next s) ∧
    (p.link ≠ .off → exec (.stationFrameGapTimeout st) s = .next (put (bad 1 p))) ∧
    (p.link = .off → ∀ cs, exec (.stationFrameDiscard st cs) s = .next s ∧
      exec (.stationFrameGapTimeout st) s = .next s)

/-- An UP station goes DOWN by a taken timer that has run out, a FAULT, a hold beyond its limit or a HELLO, and OFF by
STATION CONTROL. Each leaves what State.WentDown says: the hold and the slots clear and the cause recorded; the SHOWN and
then the SENDING tickets at the front of the queue, the recall list and every VOID ticket freed, the queue moved to an UP
fallback as far as its load stays within 128; the divert states of both judged anew; STATION_DOWN with the cause, the
fault code, the fallback, the number moved and the number left; and a PROBE at once for a restart alone (R119, R122,
R127 to R129, R132, R135, R136, R138). The premises are kept by every step (QueuesStayBounded, TicketsStandInOnePlace). The
timers act once their whole seconds have reached the limit (log 5), OFF is action 1 (log 15), void offers are removed (log
24), and of the two divert events the failed station's comes first (log 46). -/
def Obligations.StationsGoDown : Prop :=
  ∀ (s : State) (st : StationId), s.QueuesBounded → s.TicketsPlaced → s.upc.part = .running →
    s.kr.stations[st].cfg.loaded = true → s.ports[st].link = .up →
    let p := s.ports[st]
    (∀ x z w, p.hold = false → p.slot x = some z → z.timer = some w → w.limit ≤ w.elapsed →
      ∃ t : State, exec (.takenTimeout st x) s = .next t ∧ s.WentDown t st .takenTimeout none) ∧
    (∀ cs code, readPort cs = [.frame (.fault code)] →
      ∃ t : State, exec (.fault st cs) s = .next t ∧ s.WentDown t st .fault (some code)) ∧
    (∀ w, p.hold = true → p.holdTimer = some w → w.limit ≤ w.elapsed →
      ∃ t : State, exec (.holdLimit st) s = .next t ∧ s.WentDown t st .holdLimit none) ∧
    (∀ cs k, readPort cs = [.frame (.hello k)] →
      ∃ t : State, exec (.helloFrame st cs) s = .next t ∧ s.WentDown t st .restart none) ∧
    (∀ tag, s.nextBlock = some (tag, .stationControl st.val 1) →
      ∃ t : State, exec .stationControl s = .next (t.finishBlock { result := .ok, operands :=
        [.station (some st), .code 2, .code 3, .flag false] }) ∧ s.WentDown t st .off none) ∧
    (p.hold = true → ∀ x, exec (.takenTimeout st x) s = .next s) ∧
    (∀ w, p.holdTimer = some w → w.elapsed < w.limit → exec (.holdLimit st) s = .next s)

/-- A DOWN station comes UP by a HELLO of its kind, with STATION_UP, records another kind, and records a FAULT's code;
STATION CONTROL takes it OFF, an OFF one DOWN with a PROBE, and RESUME releases a held one; a station above 7, an
unknown action and a station that is not loaded are BAD_VALUE, and change nothing (R127, R129, R136, R138). The numbers
1, 2, 3 of OFF, ON and RESUME are log 15, and that a BAD_VALUE reply carries nothing is log 48. -/
def Obligations.StationsComeUp : Prop :=
  (∀ (s : State) (tag station action : Nat), s.nextBlock = some (tag, .stationControl station action) →
    8 ≤ station ∨ action ∉ [1, 2, 3] ∨
      (∃ st : StationId, station = st.val ∧ s.kr.stations[st].cfg.loaded = false) →
    exec .stationControl s = .next (s.finishBlock { result := .badValue })) ∧
  (∀ (s : State) (st : StationId), s.upc.part = .running → s.kr.stations[st].cfg.loaded = true →
    let p := s.ports[st]
    let put := fun (q : Port) => ({ s with ports := s.ports.set st q } : State)
    let control := fun (q : State) (before after : Nat) (hold : Bool) => exec .stationControl s =
      .next (q.finishBlock { result := .ok, operands :=
        [.station (some st), .code before, .code after, .flag hold] })
    (∀ cs k, p.link = .down → readPort cs = [.frame (.hello k)] →
      (k = s.kr.stations[st].cfg.kind → exec (.helloFrame st cs) s = .next ((put { p with
        link := .up, probe := none, mark := .a, slotA := none, slotB := none, hold := false, holdTimer := none,
        kindMismatch := false }).raise (.stationUp st k
          (s.kr.stations[st].voidQ ++ s.kr.stations[st].normalQ).length))) ∧
      (k ≠ s.kr.stations[st].cfg.kind →
        exec (.helloFrame st cs) s = .next (put { p with kindMismatch := true }))) ∧
    (∀ cs code, p.link = .down → readPort cs = [.frame (.fault code)] →
      exec (.fault st cs) s = .next (put { p with lastFault := some code })) ∧
    (p.link = .off → ∀ cs, exec (.helloFrame st cs) s = .next s ∧ exec (.fault st cs) s = .next s) ∧
    (∀ tag, s.nextBlock = some (tag, .stationControl st.val 1) →
      (p.link = .down → control (put { p with link := .off, probe := none }) 1 3 p.hold) ∧
      (p.link = .off → control s 3 3 p.hold)) ∧
    (∀ tag, s.nextBlock = some (tag, .stationControl st.val 2) →
      (p.link = .off → control { put { p with link := .down, probe := some 0 } with
        out := s.out ++ [.probe st (probeFrame st)] } 3 1 p.hold) ∧
      (p.link = .up → control s 2 2 p.hold) ∧ (p.link = .down → control s 1 1 p.hold)) ∧
    (∀ tag, s.nextBlock = some (tag, .stationControl st.val 3) →
      (p.link = .up → control (put { p with hold := false, holdTimer := none }) 2 2 false) ∧
      (p.link = .down → control s 1 1 p.hold) ∧ (p.link = .off → control s 3 3 p.hold)))

/-! ### Till lines (chapter 2) -/

/-- SLIP_CALL and EMPTY_ROUND while the intake is not paused: the next due till of the round is called; when the round
has no further due till the round count advances and the next round begins; a round with no due till advances it
alone. DELIVER_CALL while it is paused: the first enabled till with a notice, after the walk position or else the ring
position, is sent its oldest notice with the LOST mark. A call takes the line driver, holds it for a turnaround delay
after its last character and releases it (R19, R25, R26, R30, R34, R36). The drop called last in the round is log 26; that
a round left with no due till ends when the next call is chosen is log 52; the driver is logged as it is taken and
released (log 50). -/
def Obligations.CallsFollowTheRing : Prop :=
  (∀ (s : State) (l : LineId), s.upc.part = .running → s.lines[l].enabled = true → s.lines[l].call = none →
     s.intake.paused = false →
     let t := s.lines[l]
     let due := fun (round : Nat) (d : DropId) =>
       t.tills[d].enabled = true ∧ (t.tills[d].present = true ∨ round = 0)
     let next := fun (n : Nat) => if n < 15 then n + 1 else 0
     let called := fun (round : Nat) (d : DropId) =>
       let t' : TillLine := { t with
         driver := false, round := round, ringPos := some d, roundPos := some d,
         call := some { drop := d, malformed := false, rate := t.rate, window := t.window, turn := t.turn } }
       exec (.slipCall l) s = .next { s with
         lines := s.lines.set l t'
         out := s.out ++ [.driver l true 0,
           .till l [{ data := BitVec.ofNat 8 (d.val + 1), addr := true, framingError := false }],
           .driver l false t.turn] }
     (∀ d, due t.round d → (∀ p, t.roundPos = some p → p < d) →
       (∀ d', due t.round d' → (∀ p, t.roundPos = some p → p < d') → d ≤ d') → called t.round d) ∧
     (∀ p d, t.roundPos = some p → (∀ d', due t.round d' → d' ≤ p) → due (next t.round) d →
       (∀ d', due (next t.round) d' → d ≤ d') → called (next t.round) d) ∧
     (t.roundPos = none → (∀ d, ¬ due t.round d) → (∃ d : DropId, t.tills[d].enabled = true) →
       let t' : TillLine := { t with round := next t.round, roundPos := none }
       exec (.emptyRound l) s = .next { s with lines := s.lines.set l t' } ∧ exec (.slipCall l) s = .next s) ∧
     ((∀ d : DropId, t.tills[d].enabled = false) →
       exec (.emptyRound l) s = .next s ∧ exec (.slipCall l) s = .next s)) ∧
  (∀ (s : State) (l : LineId), s.upc.part = .running → s.lines[l].enabled = true → s.lines[l].call = none →
     s.intake.paused = true →
     let t := s.lines[l]
     let from_ : Nat := match t.walkPos, t.ringPos with
       | some p, _ => p.val
       | none, some p => p.val
       | none, none => 15
     let far := fun (d : DropId) => (d.val + 15 - from_) % 16
     let waits := fun (d : DropId) => t.tills[d].enabled = true ∧ t.tills[d].notices ≠ []
     (∀ d n more, waits d → t.tills[d].notices = n :: more → (∀ d', waits d' → far d ≤ far d') →
       let heard : Till := { t.tills[d] with notices := more, lost := false }
       let t' : TillLine := { t with driver := false, walkPos := some d, tills := t.tills.set d heard }
       exec (.deliverCall l) s = .next { s with
         lines := s.lines.set l t'
         out := s.out ++ [.driver l true 0,
           .till l [{ data := BitVec.ofNat 8 (d.val + 129), addr := true, framingError := false }],
           .driver l true t.turn, .till l (n.frame t.tills[d].lost), .driver l false t.turn] }) ∧
     ((∀ d, ¬ waits d) → exec (.deliverCall l) s = .next s))


/-- MISS, IDLE, SLIP_FRAME, FRAME_GAP_TIMEOUT and MALFORMED_ANSWER on a slip call. A miss counts, and the third makes
the till ABSENT. Any answer clears the count and makes an ABSENT till PRESENT; a good frame is offered to the intake
and answered RECEIVED or BUSY, a bad or malformed one REPEAT; the oldest notice follows. Where something is sent the line
driver is taken one turnaround delay after the answer and released one after the last character; otherwise it stays
released (R26 to R33, R36). A malformed frame found at its end waits for a quiet line (log 27); the driver is logged as
it is taken and released (log 50). -/
def Obligations.TillAnswersAreTaken : Prop :=
  ∀ (s : State) (l : LineId) (c : Call), s.lines[l].call = some c → s.lines[l].enabled = true →
    let x := s.lines[l].tills[c.drop]
    let index := tillIndex l c.drop
    let joins := fun (kind : Byte) (content : List Byte) =>
      (s.intake.slips ++ [{ source := .till index, kind := kind, content := content }] : List Slip)
    let answered := fun (i : Instr) (chars : List Byte) (slips : List Slip) => ∃ t : State, exec i s = .next t ∧
      t.lines[l].call = none ∧ t.intake.slips = slips ∧
      t.intake.paused = (s.intake.paused || (decide (s.intake.slips.length < slips.length) &&
        decide (s.intake.high ≤ slips.length))) ∧
      t.lines[l].tills[c.drop] = { x with
        present := true, misses := 0, notices := x.notices.tail, lost := x.lost && x.notices.isEmpty } ∧
      (∀ d : DropId, d ≠ c.drop → t.lines[l].tills[d] = s.lines[l].tills[d]) ∧
      (∀ k : LineId, k ≠ l → t.lines[k] = s.lines[k]) ∧
      t.lines[l].driver = (s.lines[l].driver && decide (chars = []) && x.notices.isEmpty) ∧
      t.out = s.out ++ (if chars = [] ∧ x.notices = [] then [] else
        [.driver l true c.turn] ++ (if chars = [] then [] else [.till l (chars.map fun b => { data := b })])
          ++ (x.notices.head?.map fun n => .till l (n.frame x.lost)).toList ++ [.driver l false c.turn]) ∧
      t.upc = (if x.present then s.upc else (s.raise (.tillPresent index)).upc) ∧
      t.ce = s.ce ∧ t.tu = s.tu ∧ t.kr = s.kr ∧ t.ports = s.ports ∧ t.sj = s.sj
    let spoiled : TillLine := { s.lines[l] with call := some { c with malformed := true } }
    (c.malformed = false → ∃ t : State, exec (.miss l) s = .next t ∧ t.lines[l].call = none ∧
      t.lines[l].tills[c.drop] = { x with
        misses := min 3 (x.misses + 1), present := x.present && decide (x.misses ≠ 2) } ∧
      (∀ d : DropId, d ≠ c.drop → t.lines[l].tills[d] = s.lines[l].tills[d]) ∧ t.out = s.out ∧
      t.lines[l].driver = s.lines[l].driver ∧ t.intake = s.intake ∧
      t.upc = (if x.misses = 2 then (s.raise (.tillAbsent index)).upc else s.upc)) ∧
    (c.malformed = false → answered (.idle l) [] s.intake.slips) ∧
    (∀ cs, c.malformed = false →
      (∀ kind content, readAnswer cs = .good kind content →
        (s.intake.slips.length < 64 → answered (.slipFrame l cs) [chRECEIVED] (joins kind content)) ∧
        (64 ≤ s.intake.slips.length → answered (.slipFrame l cs) [chBUSY] s.intake.slips)) ∧
      (readAnswer cs = .bad → answered (.slipFrame l cs) [chREPEAT] s.intake.slips) ∧
      (readAnswer cs = .malformed → exec (.slipFrame l cs) s = .next { s with lines := s.lines.set l spoiled })) ∧
    (∀ cs, readAnswer cs = .unfinished →
      exec (.frameGapTimeout l cs) s = .next { s with lines := s.lines.set l spoiled }) ∧
    (∀ cs, c.malformed = true ∨ readAnswer cs = .malformed →
      answered (.malformedAnswer l cs) [chREPEAT] s.intake.slips)

/-! ### Stands (10.1 to 10.3) -/

/-- OPEN_STAND and CLOSE_STAND with valid operands, by the stand's state. A stand that is clear when its close arrives
is CLOSED within the block, with CLOSE_DONE before the reply (R162 to R165). The replies end with the pickup counter
(log 29), and a BAD_VALUE reply carries nothing (log 48). -/
def Obligations.StandsOpenAndClose : Prop :=
  ∀ (s : State) (tag : Nat) (sd : StandId),
    let d := s.ce.stands[sd]
    let asking := fun (b : Bool) => ({ s.kr.clearance[sd] with requested := b } : Clearance)
    let put := fun (e : Stand) (b : Bool) => ({ s with
      ce := { s.ce with stands := s.ce.stands.set sd e }
      kr := { s.kr with clearance := s.kr.clearance.set sd (asking b) } } : State)
    let checks := s.ce.checks.countP fun c => decide (c.stand = sd)
    let tickets := s.kr.tickets.countP fun k => decide (k.stand = sd) && decide (k.state ≠ .bumped)
    let reply := fun (r : Result) (state : Nat) => ({ result := r, operands :=
      [.stand sd, .code state, .count checks, .count tickets, .number (some d.pickup)] } : BlockReply)
    (s.nextBlock = some (tag, .openStand sd.val) →
      (d.loaded = true → exec .openStand s = .next ((put { d with state := .opened, closing := none } false).finishBlock
        { result := .ok, operands := [.stand sd, .code d.state.code, .code 2, .number (some d.pickup)] })) ∧
      (d.loaded = false → exec .openStand s = .next (s.finishBlock { result := .badValue }))) ∧
    (∀ deadline force, deadline ≤ 3600 → s.nextBlock = some (tag, .closeStand sd.val deadline (flagByte force)) →
      let terms : Closing :=
        { deadline := deadline, force := force, timer := if 0 < deadline then some 0 else none }
      let closing : Stand := { d with state := .closing, closing := some terms }
      (d.state = .opened → 0 < checks ∨ 0 < tickets →
        exec .closeStand s = .next ((put closing true).finishBlock (reply .accepted 3))) ∧
      (d.state = .opened → checks = 0 → tickets = 0 →
        ∃ t u : State, exec .closeStand s = .next (t.finishBlock (reply .accepted 4)) ∧
          t = u.raise (.closeDone sd false 0 0) ∧ t.ce.stands[sd] = { d with state := .closed, closing := none } ∧
          t.kr.clearance[sd].requested = false ∧ (∀ k ∈ t.kr.tickets, k.stand ≠ sd) ∧
          t.ce.checks = s.ce.checks ∧ t.sj = s.sj ∧ t.tu = s.tu) ∧
      (d.state = .closing → exec .closeStand s = .next (State.finishBlock (reply .accepted 3)
        { s with ce := { s.ce with stands := s.ce.stands.set sd closing } })) ∧
      (d.state = .unopened ∨ d.state = .closed →
        exec .closeStand s = .next (s.finishBlock (reply .ok d.state.code))))

/-- CLEARANCE_REPORT completes a close that is clear and changes nothing else otherwise. CLOSE_DEADLINE_EXPIRY without
force sends CLOSE_TIMEOUT and leaves the close with no deadline; with force it voids every open check of the stand,
each with its record, frees every ticket of the stand and shuts the stand (R165 to R167). The expiry acts once the
timer of whole seconds has reached the deadline (log 5). -/
def Obligations.ClosesComplete : Prop :=
  ∀ (s : State) (sd : StandId),
    let d := s.ce.stands[sd]
    let checks := s.ce.checks.countP fun c => decide (c.stand = sd)
    let tickets := s.kr.tickets.countP fun k => decide (k.stand = sd) && decide (k.state ≠ .bumped)
    let taken : Clearance := { s.kr.clearance[sd] with reported := false }
    let heard : State := { s with kr := { s.kr with clearance := s.kr.clearance.set sd taken } }
    let shut := fun (t : State) =>
      t.ce.stands[sd] = { d with state := .closed, closing := none } ∧ t.kr.clearance[sd].requested = false ∧
      ∀ k ∈ t.kr.tickets, k.stand ≠ sd
    (s.kr.clearance[sd].reported = false → exec (.clearanceReport sd) s = .next s) ∧
    (s.kr.clearance[sd].reported = true → d.state ≠ .closing ∨ 0 < checks ∨ 0 < tickets →
      exec (.clearanceReport sd) s = .next heard) ∧
    (s.kr.clearance[sd].reported = true → d.state = .closing → checks = 0 → tickets = 0 →
      ∃ t u : State, exec (.clearanceReport sd) s = .next t ∧ t = u.raise (.closeDone sd false 0 0) ∧ shut t ∧
        t.ce.checks = s.ce.checks ∧ t.sj = s.sj ∧ t.tu = s.tu) ∧
    (∀ c n, d.closing = some c → c.timer = some n →
      (n < c.deadline → exec (.closeDeadlineExpiry sd) s = .next s) ∧
      (c.deadline ≤ n → c.force = false →
        let open_ : Stand := { d with closing := some { c with deadline := 0, timer := none } }
        exec (.closeDeadlineExpiry sd) s = .next (State.raise (.closeTimeout sd checks tickets)
          { s with ce := { s.ce with stands := s.ce.stands.set sd open_ } })) ∧
      (c.deadline ≤ n → c.force = true → s.BillsBalance →
        ∃ (t u : State) (freed : Nat) (new : List Record), exec (.closeDeadlineExpiry sd) s = .next t ∧
          t = u.raise (.closeDone sd true checks freed) ∧ shut t ∧
          (∀ x ∈ t.ce.checks, x.stand ≠ sd) ∧
          (∀ x ∈ s.ce.checks, x.stand ≠ sd → ∃ y ∈ t.ce.checks, y.number = x.number ∧ x.SameBill y) ∧
          t.sj.records = s.sj.records ++ new ∧ new.length = checks ∧
          (∀ r ∈ new, ∃ x ∈ s.ce.checks, x.stand = sd ∧ r.body = .checkVoided x.voidSummary .forced) ∧
          t.sj.reservations = s.sj.reservations - checks))

/-! ### The journal (chapter 8) -/

/-- DRAIN_JOURNAL and DRAIN_BURST_RECORD: a count of 1 to 64 begins a burst; each record leaves the journal as its
envelope is handed over; the burst ends with its reply when its count is used up, when the journal is empty or when the
link is down, and waits while the send queue is full; an envelope that arrived while the link was down begins none (R145
to R148, R151). That the envelope keeps the state of the link at its arrival is log 49. -/
def Obligations.RecordsAreDrained : Prop :=
  (∀ (s : State) (tag n : Nat), s.nextBlock = some (tag, .drainJournal n) →
    (n = 0 ∨ 64 < n → exec .drainJournal s = .next (s.finishBlock { result := .badValue })) ∧
    (1 ≤ n → n ≤ 64 → s.upc.linkUp = true → (∀ r ∈ s.upc.run, r.linked = true) → s.sj.records ≠ [] →
      exec .drainJournal s = .next { s with sj := { s.sj with
        burst := some { tag := tag, asked := n, sent := 0, waiting := false } } }) ∧
    (1 ≤ n → n ≤ 64 → s.upc.linkUp = false ∨ (∃ r ∈ s.upc.run, r.linked = false) ∨ s.sj.records = [] →
      exec .drainJournal s = .next (s.burstEnded 0))) ∧
  (∀ (s : State) (b : Burst), s.sj.burst = some b →
    (s.upc.linkUp = false ∨ s.sj.records = [] → exec .drainBurstRecord s = .next (s.burstEnded b.sent)) ∧
    (∀ r rest, s.upc.linkUp = true → s.sj.records = r :: rest → 64 ≤ s.upc.sendQueue.length →
      exec .drainBurstRecord s = .next { s with sj := { s.sj with burst := some { b with waiting := true } } }) ∧
    (∀ r rest, s.upc.linkUp = true → s.sj.records = r :: rest → s.upc.sendQueue.length < 64 →
      let next : State := { s with
        upc := { s.upc with sendQueue :=
          s.upc.sendQueue ++ [{ dst := s.upc.replyAddr, body := .journal b.tag (b.sent + 1) r }] }
        sj := { s.sj with
          records := rest
          burst := some { b with sent := b.sent + 1, waiting := false }
          low := s.sj.low && decide (2048 - rest.length - s.sj.reservations ≤ s.sj.warnLevel) } }
      (b.sent + 1 < b.asked → exec .drainBurstRecord s = .next next) ∧
      (b.asked ≤ b.sent + 1 → exec .drainBurstRecord s = .next (next.burstEnded (b.sent + 1)))))

/-- SET_JOURNAL_WARNING: a level of 16 to 1,024 is taken and compared with the free space at once; JOURNAL_LOW goes out,
and the low flag is set or cleared, as R144 says. -/
def Obligations.JournalWarningIsCompared : Prop :=
  ∀ (s : State) (tag level : Nat), s.nextBlock = some (tag, .setJournalWarning level) →
    let free := 2048 - s.sj.records.length - s.sj.reservations
    let done := fun (low : Bool) => ({ result := .ok, operands := [.count level, .count free, .flag low] } : BlockReply)
    let set := fun (low : Bool) => ({ s with sj := { s.sj with warnLevel := level, low := low } } : State)
    (level < 16 ∨ 1024 < level → exec .setJournalWarning s = .next (s.finishBlock { result := .badValue })) ∧
    (16 ≤ level → level ≤ 1024 →
      (free ≤ level → s.sj.low = false → exec .setJournalWarning s = .next
        (((set true).raise (.journalLow free s.sj.records.length s.sj.reservations)).finishBlock (done true))) ∧
      (level < free → s.sj.low = true → exec .setJournalWarning s = .next ((set false).finishBlock (done false))) ∧
      ((free ≤ level ↔ s.sj.low = true) → exec .setJournalWarning s =
        .next ((set s.sj.low).finishBlock (done s.sj.low))))

/-! ### Settings of the uplink and the clock (R154, R160, R172) -/

/-- SET_EVENTS takes a full set of fifteen enables, and the mask judges every event raised afterwards; an enable for a
sixteenth kind is refused, with the mask as it stands in the reply. The arrival of an envelope raises UPLINK_ONLINE
under the mask as it stands. After power-on every kind is enabled, and a SERVICE RESET keeps the mask (R160). -/
def Obligations.EventMaskIsSet : Prop :=
  (∀ (s : State) (tag mask : Nat), s.nextBlock = some (tag, .setEvents mask) →
    (2 ^ 15 ≤ mask → exec .setEvents s =
      .next (s.finishBlock { result := .badValue, operands := [.count s.upc.mask.toNat] })) ∧
    (mask < 2 ^ 15 → ∃ t : State,
      exec .setEvents s = .next (t.finishBlock { result := .ok, operands := [.count mask] }) ∧
      t = { s with upc := { s.upc with mask := t.upc.mask } } ∧
      ∀ e : Event, t.upc.enabled e = mask.testBit (e.code - 1) ∧
        t.raise e = if mask.testBit (e.code - 1) then t.handOver (.event t.clock e) else t)) ∧
  (∀ s : State, s.upc.state = .recovering → s.upc.needed ≤ s.upc.progress + 1 →
    let online : State :=
      { s with upc := { s.upc with state := .online, progress := s.upc.progress + 1, silence := some 0 } }
    s.countEnvelope = if s.upc.enabled (.uplinkOnline s.upc.needed)
      then online.handOver (.event s.clock (.uplinkOnline s.upc.needed)) else online) ∧
  (∀ s : State, ∃ t, exec .powerOn s = .next t ∧ ∀ e : Event, t.upc.enabled e = true) ∧
  (∀ (s : State) (force : Bool), (s.serviceReset force).upc.mask = s.upc.mask)

/-- SET_UPLINK_TIMES takes a silence limit of 2 to 30 and a recovery count of 1 to 64, and makes a RECOVERING uplink
ONLINE whose progress has reached the count; SET_CLOCK takes a time of day, the low 17 bits of its value, and clears
UNSET (R154, R172, R179). That a BAD_VALUE reply carries the failing field alone, or for SET_CLOCK nothing, is log 48;
that it names the silence limit where both values fail is log 18; that the other bits of the value of SET_CLOCK are not
looked at is log 21. -/
def Obligations.UplinkTimesAndClockAreSet : Prop :=
  (∀ (s : State) (tag limit count : Nat), s.nextBlock = some (tag, .setUplinkTimes limit count) →
    let done := fun (state : Nat) => ({ result := .ok, operands :=
      [.duration (some limit), .count count, .code state, .count s.upc.progress] } : BlockReply)
    let set := fun (state : UplinkState) =>
      ({ s with upc := { s.upc with limit := limit, needed := count, state := state } } : State)
    (limit < 2 ∨ 30 < limit → exec .setUplinkTimes s =
      .next (s.finishBlock { result := .badValue, operands := [.index (some 1)] })) ∧
    (2 ≤ limit → limit ≤ 30 → count < 1 ∨ 64 < count → exec .setUplinkTimes s =
      .next (s.finishBlock { result := .badValue, operands := [.index (some 2)] })) ∧
    (2 ≤ limit → limit ≤ 30 → 1 ≤ count → count ≤ 64 →
      (s.upc.state = .recovering → count ≤ s.upc.progress → exec .setUplinkTimes s =
        .next (((set .online).raise (.uplinkOnline count)).finishBlock (done 3))) ∧
      (s.upc.state ≠ .recovering ∨ s.upc.progress < count → exec .setUplinkTimes s =
        .next ((set s.upc.state).finishBlock (done s.upc.state.code))))) ∧
  (∀ (s : State) (tag value : Nat), s.nextBlock = some (tag, .setClock value) →
    let secs := value % 131072
    (86399 < secs → exec .setClock s = .next (s.finishBlock { result := .badValue })) ∧
    (secs ≤ 86399 → exec .setClock s = .next (State.finishBlock
      { result := .ok, operands := [.clock s.clock, .clock { secs := secs, unset := false }] }
      { s with clock := { secs := secs, unset := false } })))

/-! ### Voids in the kitchen (R113 to R116) -/

/-- The Router's void path over lines of a check. KITCHEN_FULL, and nothing, exactly when a station needs a VOID ticket
and the Ticket Store has no room for one for each such station, or such a station is full. Otherwise a ticket WAITING or
QUEUED loses the entries of the lines, and is freed with its last one; a NORMAL ticket SENDING, SHOWN or in a recall list
and an ASSEMBLY SENDING or SHOWN have them marked; an ASSEMBLY that lost entries waits for the components that still name
one of its lines, and is queued when it WAITED and waits for none; the components of a freed one lose their reference; each
station that needs one has one VOID ticket more, queued in the first part, with the entries of the lines it is told; and no
other ticket changes (R112 to R116). The premises are kept by every step (QueuesStayBounded, TicketsStandInOnePlace). -/
def Obligations.VoidsReachTheKitchen : Prop :=
  ∀ (s : State) (c : Check) (ls : List Line), s.QueuesBounded → s.TicketsPlaced →
    let needed := s.toldStations c ls
    let room := s.kr.tickets.length + needed.length ≤ 1024 ∧ ∀ st ∈ needed, s.loadOf st < 128
    (needed ≠ [] → ¬ room → s.work.kitchenVoid c ls = none) ∧
    (needed = [] ∨ room → ∃ w : Work, s.work.kitchenVoid c ls = some w ∧
      w.ce = { s.ce with tryOffered := w.ce.tryOffered } ∧ w.tu = s.tu ∧ w.sj = s.sj ∧ w.ports = s.ports ∧
      (∀ k ∈ s.kr.tickets, k.touched c ls = [] → { k with assembly := s.refAfter c ls k } ∈ w.kr.tickets) ∧
      (∀ k ∈ s.kr.tickets, k.emptiedBy c ls = true →
        ∀ k' ∈ w.kr.tickets, k'.number = k.number → k'.kind = .void) ∧
      (∀ k ∈ s.kr.tickets, k.touched c ls ≠ [] → k.kind = .normal → k.emptiedBy c ls = false →
        { k with
          entries := if k.state = .queued then k.keptBy c ls else k.markedBy c ls
          assembly := s.refAfter c ls k } ∈ w.kr.tickets) ∧
      (∀ k ∈ s.kr.tickets, k.touched c ls ≠ [] → k.kind = .assembly → k.state = .sending ∨ k.state = .shown →
        { k with entries := k.markedBy c ls } ∈ w.kr.tickets) ∧
      (∀ k ∈ s.kr.tickets, k.touched c ls ≠ [] → k.kind = .assembly → k.state = .waiting ∨ k.state = .queued →
        k.emptiedBy c ls = false →
        ∃ (a : Ticket) (comps : List Ticket), a ∈ w.kr.tickets ∧
          comps.Sublist w.kr.tickets ∧ (∀ t ∈ w.kr.tickets, t ∈ comps ↔ t.waitedFor a) ∧
          a = { k with
            entries := k.keptBy c ls, wait := comps.length
            state := if k.state = .waiting ∧ comps = [] then .queued else k.state } ∧
          (k.state = .waiting → comps = [] → k.number ∈ w.kr.stations[k.station].normalQ)) ∧
      (∀ st ∈ needed, ∃ k' ∈ w.kr.tickets, k' ∉ s.kr.tickets ∧ k'.number ∈ w.kr.stations[st].voidQ ∧
        k' = { number := k'.number, kind := .void, remake := false, station := st, check := some c.number,
               stand := c.stand, pickup := c.pickup, fired := s.clock.secs,
               entries := (s.told c ls st).map (fun x =>
                 { line := some x.2.index, item := x.2.item, qty := x.2.qty, mods := x.2.mods, voided := true }),
               state := .queued, wait := 0, assembly := none,
               original := (s.told c ls st).head?.map Prod.fst }) ∧
      (w.kr.tickets.countP fun k => decide (k.kind = .void)) =
        (s.kr.tickets.countP fun k => decide (k.kind = .void)) + needed.length)
end

