-- ==== Sys2Proof/Laws/State.lean ====
section
/-! SUPPORT. What each named update leaves: one lemma per field, true by definition, so that no proof unfolds a
record update. -/
namespace Sys2Proof.Machine

/-! ### Updates of the whole state -/

@[simp] theorem State.send_pending (o : Output) (s : State) : (s.send o).pending = s.pending := rfl
@[simp] theorem State.send_out (o : Output) (s : State) : (s.send o).out = s.out ++ [o] := rfl
@[simp] theorem State.send_lines (o : Output) (s : State) : (s.send o).lines = s.lines := rfl
@[simp] theorem State.send_intake (o : Output) (s : State) : (s.send o).intake = s.intake := rfl
@[simp] theorem State.send_ce (o : Output) (s : State) : (s.send o).ce = s.ce := rfl
@[simp] theorem State.send_tu (o : Output) (s : State) : (s.send o).tu = s.tu := rfl
@[simp] theorem State.send_kr (o : Output) (s : State) : (s.send o).kr = s.kr := rfl
@[simp] theorem State.send_ports (o : Output) (s : State) : (s.send o).ports = s.ports := rfl
@[simp] theorem State.send_sj (o : Output) (s : State) : (s.send o).sj = s.sj := rfl
@[simp] theorem State.send_upc (o : Output) (s : State) : (s.send o).upc = s.upc := rfl
@[simp] theorem State.send_clock (o : Output) (s : State) : (s.send o).clock = s.clock := rfl

@[simp] theorem State.onLine_pending (l : LineId) (f : TillLine → TillLine) (s : State) :
    (s.onLine l f).pending = s.pending := rfl
@[simp] theorem State.onLine_out (l : LineId) (f : TillLine → TillLine) (s : State) :
    (s.onLine l f).out = s.out := rfl
@[simp] theorem State.onLine_lines (l : LineId) (f : TillLine → TillLine) (s : State) :
    (s.onLine l f).lines = modify s.lines l f := rfl
@[simp] theorem State.onLine_intake (l : LineId) (f : TillLine → TillLine) (s : State) :
    (s.onLine l f).intake = s.intake := rfl
@[simp] theorem State.onLine_ce (l : LineId) (f : TillLine → TillLine) (s : State) : (s.onLine l f).ce = s.ce := rfl
@[simp] theorem State.onLine_tu (l : LineId) (f : TillLine → TillLine) (s : State) : (s.onLine l f).tu = s.tu := rfl
@[simp] theorem State.onLine_kr (l : LineId) (f : TillLine → TillLine) (s : State) : (s.onLine l f).kr = s.kr := rfl
@[simp] theorem State.onLine_ports (l : LineId) (f : TillLine → TillLine) (s : State) :
    (s.onLine l f).ports = s.ports := rfl
@[simp] theorem State.onLine_sj (l : LineId) (f : TillLine → TillLine) (s : State) : (s.onLine l f).sj = s.sj := rfl
@[simp] theorem State.onLine_upc (l : LineId) (f : TillLine → TillLine) (s : State) :
    (s.onLine l f).upc = s.upc := rfl
@[simp] theorem State.onLine_clock (l : LineId) (f : TillLine → TillLine) (s : State) :
    (s.onLine l f).clock = s.clock := rfl

@[simp] theorem State.drive_pending (l : LineId) (b : Bool) (n : Nat) (s : State) :
    (s.drive l b n).pending = s.pending := rfl
@[simp] theorem State.drive_out (l : LineId) (b : Bool) (n : Nat) (s : State) :
    (s.drive l b n).out = s.out ++ [.driver l b n] := rfl
@[simp] theorem State.drive_lines (l : LineId) (b : Bool) (n : Nat) (s : State) :
    (s.drive l b n).lines = modify s.lines l fun t => { t with driver := b } := rfl
@[simp] theorem State.drive_intake (l : LineId) (b : Bool) (n : Nat) (s : State) :
    (s.drive l b n).intake = s.intake := rfl
@[simp] theorem State.drive_ce (l : LineId) (b : Bool) (n : Nat) (s : State) :
    (s.drive l b n).ce = s.ce := rfl
@[simp] theorem State.drive_tu (l : LineId) (b : Bool) (n : Nat) (s : State) :
    (s.drive l b n).tu = s.tu := rfl
@[simp] theorem State.drive_kr (l : LineId) (b : Bool) (n : Nat) (s : State) :
    (s.drive l b n).kr = s.kr := rfl
@[simp] theorem State.drive_ports (l : LineId) (b : Bool) (n : Nat) (s : State) :
    (s.drive l b n).ports = s.ports := rfl
@[simp] theorem State.drive_sj (l : LineId) (b : Bool) (n : Nat) (s : State) :
    (s.drive l b n).sj = s.sj := rfl
@[simp] theorem State.drive_upc (l : LineId) (b : Bool) (n : Nat) (s : State) :
    (s.drive l b n).upc = s.upc := rfl
@[simp] theorem State.drive_clock (l : LineId) (b : Bool) (n : Nat) (s : State) :
    (s.drive l b n).clock = s.clock := rfl

@[simp] theorem State.putWork_pending (w : Work) (s : State) : (s.putWork w).pending = s.pending := rfl
@[simp] theorem State.putWork_out (w : Work) (s : State) : (s.putWork w).out = s.out := rfl
@[simp] theorem State.putWork_lines (w : Work) (s : State) : (s.putWork w).lines = s.lines := rfl
@[simp] theorem State.putWork_intake (w : Work) (s : State) : (s.putWork w).intake = s.intake := rfl
@[simp] theorem State.putWork_ce (w : Work) (s : State) : (s.putWork w).ce = w.ce := rfl
@[simp] theorem State.putWork_tu (w : Work) (s : State) : (s.putWork w).tu = w.tu := rfl
@[simp] theorem State.putWork_kr (w : Work) (s : State) : (s.putWork w).kr = w.kr := rfl
@[simp] theorem State.putWork_ports (w : Work) (s : State) : (s.putWork w).ports = w.ports := rfl
@[simp] theorem State.putWork_sj (w : Work) (s : State) : (s.putWork w).sj = w.sj := rfl
@[simp] theorem State.putWork_upc (w : Work) (s : State) : (s.putWork w).upc = s.upc := rfl
@[simp] theorem State.putWork_clock (w : Work) (s : State) : (s.putWork w).clock = s.clock := rfl

@[simp] theorem State.loseUplink_pending (s : State) : (s.loseUplink).pending = s.pending := rfl
@[simp] theorem State.loseUplink_out (s : State) : (s.loseUplink).out = s.out := rfl
@[simp] theorem State.loseUplink_lines (s : State) : (s.loseUplink).lines = s.lines := rfl
@[simp] theorem State.loseUplink_intake (s : State) : (s.loseUplink).intake = s.intake := rfl
@[simp] theorem State.loseUplink_ce (s : State) : (s.loseUplink).ce = s.ce := rfl
@[simp] theorem State.loseUplink_tu (s : State) : (s.loseUplink).tu = s.tu := rfl
@[simp] theorem State.loseUplink_kr (s : State) : (s.loseUplink).kr = s.kr := rfl
@[simp] theorem State.loseUplink_ports (s : State) : (s.loseUplink).ports = s.ports := rfl
@[simp] theorem State.loseUplink_sj (s : State) : (s.loseUplink).sj = s.sj := rfl
@[simp] theorem State.loseUplink_upc (s : State) :
    (s.loseUplink).upc = { s.upc with state := .lost, progress := 0 } := rfl
@[simp] theorem State.loseUplink_clock (s : State) : (s.loseUplink).clock = s.clock := rfl

@[simp] theorem State.endWalks_pending (s : State) : (s.endWalks).pending = s.pending := rfl
@[simp] theorem State.endWalks_out (s : State) : (s.endWalks).out = s.out := rfl
@[simp] theorem State.endWalks_lines (s : State) :
    (s.endWalks).lines = mapAll (fun l => { l with walkPos := none }) s.lines := rfl
@[simp] theorem State.endWalks_intake (s : State) : (s.endWalks).intake = s.intake := rfl
@[simp] theorem State.endWalks_ce (s : State) : (s.endWalks).ce = s.ce := rfl
@[simp] theorem State.endWalks_tu (s : State) : (s.endWalks).tu = s.tu := rfl
@[simp] theorem State.endWalks_kr (s : State) : (s.endWalks).kr = s.kr := rfl
@[simp] theorem State.endWalks_ports (s : State) : (s.endWalks).ports = s.ports := rfl
@[simp] theorem State.endWalks_sj (s : State) : (s.endWalks).sj = s.sj := rfl
@[simp] theorem State.endWalks_upc (s : State) : (s.endWalks).upc = s.upc := rfl
@[simp] theorem State.endWalks_clock (s : State) : (s.endWalks).clock = s.clock := rfl

@[simp] theorem State.planReset_pending (b : Bool) (s : State) : (s.planReset b).pending = s.pending := rfl
@[simp] theorem State.planReset_out (b : Bool) (s : State) : (s.planReset b).out = s.out := rfl
@[simp] theorem State.planReset_lines (b : Bool) (s : State) : (s.planReset b).lines = s.lines := rfl
@[simp] theorem State.planReset_intake (b : Bool) (s : State) : (s.planReset b).intake = s.intake := rfl
@[simp] theorem State.planReset_ce (b : Bool) (s : State) : (s.planReset b).ce = s.ce := rfl
@[simp] theorem State.planReset_tu (b : Bool) (s : State) : (s.planReset b).tu = s.tu := rfl
@[simp] theorem State.planReset_kr (b : Bool) (s : State) : (s.planReset b).kr = s.kr := rfl
@[simp] theorem State.planReset_ports (b : Bool) (s : State) : (s.planReset b).ports = s.ports := rfl
@[simp] theorem State.planReset_sj (b : Bool) (s : State) : (s.planReset b).sj = s.sj := rfl
@[simp] theorem State.planReset_upc (b : Bool) (s : State) :
    (s.planReset b).upc = { s.upc with run := s.upc.run.map fun r => { r with skip := true, reset := some b } } := rfl
@[simp] theorem State.planReset_clock (b : Bool) (s : State) : (s.planReset b).clock = s.clock := rfl

/-! ### The piece of work a state offers -/

@[simp] theorem State.work_ce (s : State) : s.work.ce = s.ce := rfl
@[simp] theorem State.work_tu (s : State) : s.work.tu = s.tu := rfl
@[simp] theorem State.work_kr (s : State) : s.work.kr = s.kr := rfl
@[simp] theorem State.work_ports (s : State) : s.work.ports = s.ports := rfl
@[simp] theorem State.work_sj (s : State) : s.work.sj = s.sj := rfl
@[simp] theorem State.work_fx (s : State) : s.work.fx = [] := rfl
@[simp] theorem State.work_now (s : State) : s.work.now = s.clock := rfl
@[simp] theorem State.work_uplink (s : State) : s.work.uplink = s.upc.state := rfl

/-! ### Updates of a piece of work -/

@[simp] theorem Work.emit_ce (e : Effect) (w : Work) : (w.emit e).ce = w.ce := rfl
@[simp] theorem Work.emit_tu (e : Effect) (w : Work) : (w.emit e).tu = w.tu := rfl
@[simp] theorem Work.emit_kr (e : Effect) (w : Work) : (w.emit e).kr = w.kr := rfl
@[simp] theorem Work.emit_ports (e : Effect) (w : Work) : (w.emit e).ports = w.ports := rfl
@[simp] theorem Work.emit_sj (e : Effect) (w : Work) : (w.emit e).sj = w.sj := rfl
@[simp] theorem Work.emit_fx (e : Effect) (w : Work) : (w.emit e).fx = w.fx ++ [e] := rfl
@[simp] theorem Work.emit_now (e : Effect) (w : Work) : (w.emit e).now = w.now := rfl
@[simp] theorem Work.emit_uplink (e : Effect) (w : Work) : (w.emit e).uplink = w.uplink := rfl

@[simp] theorem Work.raise_ce (e : Event) (w : Work) : (w.raise e).ce = w.ce := rfl
@[simp] theorem Work.raise_tu (e : Event) (w : Work) : (w.raise e).tu = w.tu := rfl
@[simp] theorem Work.raise_kr (e : Event) (w : Work) : (w.raise e).kr = w.kr := rfl
@[simp] theorem Work.raise_ports (e : Event) (w : Work) : (w.raise e).ports = w.ports := rfl
@[simp] theorem Work.raise_sj (e : Event) (w : Work) : (w.raise e).sj = w.sj := rfl
@[simp] theorem Work.raise_fx (e : Event) (w : Work) : (w.raise e).fx = w.fx ++ [.event e] := rfl
@[simp] theorem Work.raise_now (e : Event) (w : Work) : (w.raise e).now = w.now := rfl
@[simp] theorem Work.raise_uplink (e : Event) (w : Work) : (w.raise e).uplink = w.uplink := rfl

@[simp] theorem Work.onStation_ce (st : StationId) (f : Station → Station) (w : Work) :
    (w.onStation st f).ce = w.ce := rfl
@[simp] theorem Work.onStation_tu (st : StationId) (f : Station → Station) (w : Work) :
    (w.onStation st f).tu = w.tu := rfl
@[simp] theorem Work.onStation_kr (st : StationId) (f : Station → Station) (w : Work) :
    (w.onStation st f).kr = { w.kr with stations := modify w.kr.stations st f } := rfl
@[simp] theorem Work.onStation_ports (st : StationId) (f : Station → Station) (w : Work) :
    (w.onStation st f).ports = w.ports := rfl
@[simp] theorem Work.onStation_sj (st : StationId) (f : Station → Station) (w : Work) :
    (w.onStation st f).sj = w.sj := rfl
@[simp] theorem Work.onStation_fx (st : StationId) (f : Station → Station) (w : Work) :
    (w.onStation st f).fx = w.fx := rfl
@[simp] theorem Work.onStation_now (st : StationId) (f : Station → Station) (w : Work) :
    (w.onStation st f).now = w.now := rfl
@[simp] theorem Work.onStation_uplink (st : StationId) (f : Station → Station) (w : Work) :
    (w.onStation st f).uplink = w.uplink := rfl

@[simp] theorem Work.onPort_ce (st : StationId) (f : Port → Port) (w : Work) : (w.onPort st f).ce = w.ce := rfl
@[simp] theorem Work.onPort_tu (st : StationId) (f : Port → Port) (w : Work) : (w.onPort st f).tu = w.tu := rfl
@[simp] theorem Work.onPort_kr (st : StationId) (f : Port → Port) (w : Work) : (w.onPort st f).kr = w.kr := rfl
@[simp] theorem Work.onPort_ports (st : StationId) (f : Port → Port) (w : Work) :
    (w.onPort st f).ports = modify w.ports st f := rfl
@[simp] theorem Work.onPort_sj (st : StationId) (f : Port → Port) (w : Work) : (w.onPort st f).sj = w.sj := rfl
@[simp] theorem Work.onPort_fx (st : StationId) (f : Port → Port) (w : Work) : (w.onPort st f).fx = w.fx := rfl
@[simp] theorem Work.onPort_now (st : StationId) (f : Port → Port) (w : Work) : (w.onPort st f).now = w.now := rfl
@[simp] theorem Work.onPort_uplink (st : StationId) (f : Port → Port) (w : Work) :
    (w.onPort st f).uplink = w.uplink := rfl

@[simp] theorem Work.onStand_ce (sd : StandId) (f : Stand → Stand) (w : Work) :
    (w.onStand sd f).ce = { w.ce with stands := modify w.ce.stands sd f } := rfl
@[simp] theorem Work.onStand_tu (sd : StandId) (f : Stand → Stand) (w : Work) : (w.onStand sd f).tu = w.tu := rfl
@[simp] theorem Work.onStand_kr (sd : StandId) (f : Stand → Stand) (w : Work) : (w.onStand sd f).kr = w.kr := rfl
@[simp] theorem Work.onStand_ports (sd : StandId) (f : Stand → Stand) (w : Work) :
    (w.onStand sd f).ports = w.ports := rfl
@[simp] theorem Work.onStand_sj (sd : StandId) (f : Stand → Stand) (w : Work) : (w.onStand sd f).sj = w.sj := rfl
@[simp] theorem Work.onStand_fx (sd : StandId) (f : Stand → Stand) (w : Work) : (w.onStand sd f).fx = w.fx := rfl
@[simp] theorem Work.onStand_now (sd : StandId) (f : Stand → Stand) (w : Work) : (w.onStand sd f).now = w.now := rfl
@[simp] theorem Work.onStand_uplink (sd : StandId) (f : Stand → Stand) (w : Work) :
    (w.onStand sd f).uplink = w.uplink := rfl

@[simp] theorem Work.putTicket_ce (t : Ticket) (w : Work) : (w.putTicket t).ce = w.ce := rfl
@[simp] theorem Work.putTicket_tu (t : Ticket) (w : Work) : (w.putTicket t).tu = w.tu := rfl
@[simp] theorem Work.putTicket_kr (t : Ticket) (w : Work) :
    (w.putTicket t).kr = { w.kr with tickets := putBy Ticket.number t w.kr.tickets } := rfl
@[simp] theorem Work.putTicket_ports (t : Ticket) (w : Work) : (w.putTicket t).ports = w.ports := rfl
@[simp] theorem Work.putTicket_sj (t : Ticket) (w : Work) : (w.putTicket t).sj = w.sj := rfl
@[simp] theorem Work.putTicket_fx (t : Ticket) (w : Work) : (w.putTicket t).fx = w.fx := rfl
@[simp] theorem Work.putTicket_now (t : Ticket) (w : Work) : (w.putTicket t).now = w.now := rfl
@[simp] theorem Work.putTicket_uplink (t : Ticket) (w : Work) : (w.putTicket t).uplink = w.uplink := rfl

@[simp] theorem Work.onTicket_ce (n : Nat) (f : Ticket → Ticket) (w : Work) : (w.onTicket n f).ce = w.ce := rfl
@[simp] theorem Work.onTicket_tu (n : Nat) (f : Ticket → Ticket) (w : Work) : (w.onTicket n f).tu = w.tu := rfl
@[simp] theorem Work.onTicket_kr (n : Nat) (f : Ticket → Ticket) (w : Work) :
    (w.onTicket n f).kr = { w.kr with tickets := mapBy Ticket.number n f w.kr.tickets } := rfl
@[simp] theorem Work.onTicket_ports (n : Nat) (f : Ticket → Ticket) (w : Work) :
    (w.onTicket n f).ports = w.ports := rfl
@[simp] theorem Work.onTicket_sj (n : Nat) (f : Ticket → Ticket) (w : Work) : (w.onTicket n f).sj = w.sj := rfl
@[simp] theorem Work.onTicket_fx (n : Nat) (f : Ticket → Ticket) (w : Work) : (w.onTicket n f).fx = w.fx := rfl
@[simp] theorem Work.onTicket_now (n : Nat) (f : Ticket → Ticket) (w : Work) : (w.onTicket n f).now = w.now := rfl
@[simp] theorem Work.onTicket_uplink (n : Nat) (f : Ticket → Ticket) (w : Work) :
    (w.onTicket n f).uplink = w.uplink := rfl

@[simp] theorem Work.onCheck_ce (n : Nat) (f : Check → Check) (w : Work) :
    (w.onCheck n f).ce = { w.ce with checks := mapBy Check.number n f w.ce.checks } := rfl
@[simp] theorem Work.onCheck_tu (n : Nat) (f : Check → Check) (w : Work) : (w.onCheck n f).tu = w.tu := rfl
@[simp] theorem Work.onCheck_kr (n : Nat) (f : Check → Check) (w : Work) : (w.onCheck n f).kr = w.kr := rfl
@[simp] theorem Work.onCheck_ports (n : Nat) (f : Check → Check) (w : Work) : (w.onCheck n f).ports = w.ports := rfl
@[simp] theorem Work.onCheck_sj (n : Nat) (f : Check → Check) (w : Work) : (w.onCheck n f).sj = w.sj := rfl
@[simp] theorem Work.onCheck_fx (n : Nat) (f : Check → Check) (w : Work) : (w.onCheck n f).fx = w.fx := rfl
@[simp] theorem Work.onCheck_now (n : Nat) (f : Check → Check) (w : Work) : (w.onCheck n f).now = w.now := rfl
@[simp] theorem Work.onCheck_uplink (n : Nat) (f : Check → Check) (w : Work) :
    (w.onCheck n f).uplink = w.uplink := rfl

@[simp] theorem Work.offerTry_ce (w : Work) : (w.offerTry).ce = { w.ce with tryOffered := true } := rfl
@[simp] theorem Work.offerTry_tu (w : Work) : (w.offerTry).tu = w.tu := rfl
@[simp] theorem Work.offerTry_kr (w : Work) : (w.offerTry).kr = w.kr := rfl
@[simp] theorem Work.offerTry_ports (w : Work) : (w.offerTry).ports = w.ports := rfl
@[simp] theorem Work.offerTry_sj (w : Work) : (w.offerTry).sj = w.sj := rfl
@[simp] theorem Work.offerTry_fx (w : Work) : (w.offerTry).fx = w.fx := rfl
@[simp] theorem Work.offerTry_now (w : Work) : (w.offerTry).now = w.now := rfl
@[simp] theorem Work.offerTry_uplink (w : Work) : (w.offerTry).uplink = w.uplink := rfl

@[simp] theorem Work.dropOffers_ce (n : Nat) (w : Work) : (w.dropOffers n).ce = w.ce := rfl
@[simp] theorem Work.dropOffers_tu (n : Nat) (w : Work) : (w.dropOffers n).tu = w.tu := rfl
@[simp] theorem Work.dropOffers_kr (n : Nat) (w : Work) :
    (w.dropOffers n).kr = { w.kr with completions := w.kr.completions.filter (fun o => o.ticket != n), recalls := w.kr.recalls.filter (fun o => o.ticket != n) } := rfl
@[simp] theorem Work.dropOffers_ports (n : Nat) (w : Work) : (w.dropOffers n).ports = w.ports := rfl
@[simp] theorem Work.dropOffers_sj (n : Nat) (w : Work) : (w.dropOffers n).sj = w.sj := rfl
@[simp] theorem Work.dropOffers_fx (n : Nat) (w : Work) : (w.dropOffers n).fx = w.fx := rfl
@[simp] theorem Work.dropOffers_now (n : Nat) (w : Work) : (w.dropOffers n).now = w.now := rfl
@[simp] theorem Work.dropOffers_uplink (n : Nat) (w : Work) : (w.dropOffers n).uplink = w.uplink := rfl

@[simp] theorem Work.request_ce (sd : StandId) (b : Bool) (w : Work) : (w.request sd b).ce = w.ce := rfl
@[simp] theorem Work.request_tu (sd : StandId) (b : Bool) (w : Work) : (w.request sd b).tu = w.tu := rfl
@[simp] theorem Work.request_kr (sd : StandId) (b : Bool) (w : Work) :
    (w.request sd b).kr = { w.kr with clearance := modify w.kr.clearance sd fun c => { c with requested := b } } := rfl
@[simp] theorem Work.request_ports (sd : StandId) (b : Bool) (w : Work) : (w.request sd b).ports = w.ports := rfl
@[simp] theorem Work.request_sj (sd : StandId) (b : Bool) (w : Work) : (w.request sd b).sj = w.sj := rfl
@[simp] theorem Work.request_fx (sd : StandId) (b : Bool) (w : Work) : (w.request sd b).fx = w.fx := rfl
@[simp] theorem Work.request_now (sd : StandId) (b : Bool) (w : Work) : (w.request sd b).now = w.now := rfl
@[simp] theorem Work.request_uplink (sd : StandId) (b : Bool) (w : Work) : (w.request sd b).uplink = w.uplink := rfl

@[simp] theorem Work.release_ce (w : Work) : (w.release).ce = w.ce := rfl
@[simp] theorem Work.release_tu (w : Work) : (w.release).tu = w.tu := rfl
@[simp] theorem Work.release_kr (w : Work) : (w.release).kr = w.kr := rfl
@[simp] theorem Work.release_ports (w : Work) : (w.release).ports = w.ports := rfl
@[simp] theorem Work.release_sj (w : Work) :
    (w.release).sj = ({ w.sj with reservations := w.sj.reservations - 1 } : Journal).rise := rfl
@[simp] theorem Work.release_fx (w : Work) : (w.release).fx = w.fx := rfl
@[simp] theorem Work.release_now (w : Work) : (w.release).now = w.now := rfl
@[simp] theorem Work.release_uplink (w : Work) : (w.release).uplink = w.uplink := rfl

@[simp] theorem Work.freeEntry_ce (tag : Nat) (w : Work) : (w.freeEntry tag).ce = w.ce := rfl
@[simp] theorem Work.freeEntry_tu (tag : Nat) (w : Work) :
    (w.freeEntry tag).tu = { w.tu with live := eraseBy AuthEntry.tag tag w.tu.live } := rfl
@[simp] theorem Work.freeEntry_kr (tag : Nat) (w : Work) : (w.freeEntry tag).kr = w.kr := rfl
@[simp] theorem Work.freeEntry_ports (tag : Nat) (w : Work) : (w.freeEntry tag).ports = w.ports := rfl
@[simp] theorem Work.freeEntry_sj (tag : Nat) (w : Work) : (w.freeEntry tag).sj = w.sj := rfl
@[simp] theorem Work.freeEntry_fx (tag : Nat) (w : Work) : (w.freeEntry tag).fx = w.fx := rfl
@[simp] theorem Work.freeEntry_now (tag : Nat) (w : Work) : (w.freeEntry tag).now = w.now := rfl
@[simp] theorem Work.freeEntry_uplink (tag : Nat) (w : Work) : (w.freeEntry tag).uplink = w.uplink := rfl

@[simp] theorem Work.offerCompletion_ce (n : Nat) (st : StationId) (v : Via) (w : Work) :
    (w.offerCompletion n st v).ce = w.ce := rfl
@[simp] theorem Work.offerCompletion_tu (n : Nat) (st : StationId) (v : Via) (w : Work) :
    (w.offerCompletion n st v).tu = w.tu := rfl
@[simp] theorem Work.offerCompletion_kr (n : Nat) (st : StationId) (v : Via) (w : Work) :
    (w.offerCompletion n st v).kr = { w.kr with completions := w.kr.completions ++ [{ ticket := n, station := st, via := v }] } := rfl
@[simp] theorem Work.offerCompletion_ports (n : Nat) (st : StationId) (v : Via) (w : Work) :
    (w.offerCompletion n st v).ports = w.ports := rfl
@[simp] theorem Work.offerCompletion_sj (n : Nat) (st : StationId) (v : Via) (w : Work) :
    (w.offerCompletion n st v).sj = w.sj := rfl
@[simp] theorem Work.offerCompletion_fx (n : Nat) (st : StationId) (v : Via) (w : Work) :
    (w.offerCompletion n st v).fx = w.fx := rfl
@[simp] theorem Work.offerCompletion_now (n : Nat) (st : StationId) (v : Via) (w : Work) :
    (w.offerCompletion n st v).now = w.now := rfl
@[simp] theorem Work.offerCompletion_uplink (n : Nat) (st : StationId) (v : Via) (w : Work) :
    (w.offerCompletion n st v).uplink = w.uplink := rfl

/-! ### Updates of a port and of a line -/

@[simp] theorem Port.release_hold (p : Port) : p.release.hold = false := rfl
@[simp] theorem Port.release_holdTimer (p : Port) : p.release.holdTimer = none := rfl
@[simp] theorem Port.release_link (p : Port) : p.release.link = p.link := rfl
@[simp] theorem Port.release_slotA (p : Port) : p.release.slotA = p.slotA := rfl
@[simp] theorem Port.release_slotB (p : Port) : p.release.slotB = p.slotB := rfl
@[simp] theorem TillLine.onTill_tills (d : DropId) (f : Till → Till) (l : TillLine) :
    (l.onTill d f).tills = modify l.tills d f := rfl
@[simp] theorem TillLine.onTill_call (d : DropId) (f : Till → Till) (l : TillLine) :
    (l.onTill d f).call = l.call := rfl
@[simp] theorem TillLine.onTill_enabled (d : DropId) (f : Till → Till) (l : TillLine) :
    (l.onTill d f).enabled = l.enabled := rfl

end Sys2Proof.Machine
end

