-- ==== Sys2Proof/Laws/Ops.lean ====
section
/-! SUPPORT. What each shared operation can do: the send queue, events, notices, a piece of work carried out, the
intake. -/
namespace Sys2Proof.Machine

/-! ### Fixed collections and keyed tables -/

@[simp] theorem modify_self {α : Type} {n : Nat} (v : Vector α n) (i : Fin n) (f : α → α) :
    (modify v i f)[i] = f v[i] := by
  simp [modify]

theorem modify_other {α : Type} {n : Nat} (v : Vector α n) (i j : Fin n) (f : α → α) (h : j ≠ i) :
    (modify v i f)[j] = v[j] := by
  have : i.val ≠ j.val := fun e => h (Fin.ext e.symm)
  simp [modify, this]

@[simp] theorem modify_get {α : Type} {n : Nat} (v : Vector α n) (i : Fin n) (f : α → α) (k : Nat) (h : k < n) :
    (modify v i f)[k] = if i.val = k then f v[k] else v[k] := by
  unfold modify
  rw [Vector.getElem_set]
  split
  · rename_i e; subst e; rfl
  · rfl

@[simp] theorem mapAll_get {α β : Type} {n : Nat} (f : α → β) (v : Vector α n) (k : Nat) (h : k < n) :
    (mapAll f v)[k] = f v[k] := by
  rcases v with ⟨⟨l⟩, hl⟩
  simp [mapAll]

theorem lookupBy_some {α : Type} {key : α → Nat} {k : Nat} {l : List α} {x : α} (h : lookupBy key k l = some x) :
    x ∈ l ∧ key x = k := by
  unfold lookupBy at h
  exact ⟨List.mem_of_find?_eq_some h, by simpa using List.find?_some h⟩

theorem lookupBy_putBy_self {α : Type} (key : α → Nat) (x : α) (l : List α) :
    lookupBy key (key x) (putBy key x l) = some x := by
  induction l with
  | nil => simp [putBy, lookupBy]
  | cons y ys ih =>
    unfold putBy
    split
    · simp [lookupBy]
    · split
      · simp [lookupBy]
      · rename_i h1 h2
        have : (key y == key x) = false := by simpa using fun e => h2 e.symm
        simpa [lookupBy, List.find?_cons, this] using ih

theorem lookupBy_putBy_other {α : Type} (key : α → Nat) (x : α) (l : List α) (k : Nat) (h : k ≠ key x) :
    lookupBy key k (putBy key x l) = lookupBy key k l := by
  have hx : (key x == k) = false := by simpa using fun e => h e.symm
  induction l with
  | nil => simp [putBy, lookupBy, hx]
  | cons y ys ih =>
    unfold putBy
    split
    · simp [lookupBy, List.find?_cons, hx]
    · split
      · rename_i h1 h2
        have : (key y == k) = false := by simpa using fun e => h (by rw [h2, e])
        simp [lookupBy, hx, this]
      · cases hy : (key y == k) with
        | true => simp [lookupBy, hy]
        | false => simpa [lookupBy, List.find?_cons, hy] using ih

theorem putBy_length_le {α : Type} (key : α → Nat) (x : α) (l : List α) :
    (putBy key x l).length ≤ l.length + 1 := by
  induction l with
  | nil => simp [putBy]
  | cons y ys ih =>
    unfold putBy
    split
    · simp
    · split
      · simp
      · simp; omega

@[simp] theorem mapBy_length {α : Type} (key : α → Nat) (k : Nat) (f : α → α) (l : List α) :
    (mapBy key k f l).length = l.length := by
  simp [mapBy]

theorem eraseBy_length_le {α : Type} (key : α → Nat) (k : Nat) (l : List α) :
    (eraseBy key k l).length ≤ l.length := List.length_filter_le _ _

/-! ### The send queue and events (R151, R159) -/

/-- Handing over an envelope changes the send queue and nothing else. -/
theorem State.handOver_frame (b : OutBody) (s : State) :
    ∃ q, s.handOver b = { s with upc := { s.upc with sendQueue := q } } := by
  unfold State.handOver
  split
  · exact ⟨_, rfl⟩
  · exact ⟨s.upc.sendQueue, rfl⟩

@[simp] theorem State.handOver_pending (b : OutBody) (s : State) : (s.handOver b).pending = s.pending := by
  obtain ⟨q, h⟩ := State.handOver_frame b s; rw [h]
@[simp] theorem State.handOver_out (b : OutBody) (s : State) : (s.handOver b).out = s.out := by
  obtain ⟨q, h⟩ := State.handOver_frame b s; rw [h]
@[simp] theorem State.handOver_lines (b : OutBody) (s : State) : (s.handOver b).lines = s.lines := by
  obtain ⟨q, h⟩ := State.handOver_frame b s; rw [h]
@[simp] theorem State.handOver_intake (b : OutBody) (s : State) : (s.handOver b).intake = s.intake := by
  obtain ⟨q, h⟩ := State.handOver_frame b s; rw [h]
@[simp] theorem State.handOver_ce (b : OutBody) (s : State) : (s.handOver b).ce = s.ce := by
  obtain ⟨q, h⟩ := State.handOver_frame b s; rw [h]
@[simp] theorem State.handOver_tu (b : OutBody) (s : State) : (s.handOver b).tu = s.tu := by
  obtain ⟨q, h⟩ := State.handOver_frame b s; rw [h]
@[simp] theorem State.handOver_kr (b : OutBody) (s : State) : (s.handOver b).kr = s.kr := by
  obtain ⟨q, h⟩ := State.handOver_frame b s; rw [h]
@[simp] theorem State.handOver_ports (b : OutBody) (s : State) : (s.handOver b).ports = s.ports := by
  obtain ⟨q, h⟩ := State.handOver_frame b s; rw [h]
@[simp] theorem State.handOver_sj (b : OutBody) (s : State) : (s.handOver b).sj = s.sj := by
  obtain ⟨q, h⟩ := State.handOver_frame b s; rw [h]
@[simp] theorem State.handOver_clock (b : OutBody) (s : State) : (s.handOver b).clock = s.clock := by
  obtain ⟨q, h⟩ := State.handOver_frame b s; rw [h]
@[simp] theorem State.handOver_upc_part (b : OutBody) (s : State) :
    (s.handOver b).upc.part = s.upc.part := by
  obtain ⟨q, h⟩ := State.handOver_frame b s; rw [h]
@[simp] theorem State.handOver_upc_selfTest (b : OutBody) (s : State) :
    (s.handOver b).upc.selfTest = s.upc.selfTest := by
  obtain ⟨q, h⟩ := State.handOver_frame b s; rw [h]
@[simp] theorem State.handOver_upc_linkUp (b : OutBody) (s : State) :
    (s.handOver b).upc.linkUp = s.upc.linkUp := by
  obtain ⟨q, h⟩ := State.handOver_frame b s; rw [h]
@[simp] theorem State.handOver_upc_state (b : OutBody) (s : State) :
    (s.handOver b).upc.state = s.upc.state := by
  obtain ⟨q, h⟩ := State.handOver_frame b s; rw [h]
@[simp] theorem State.handOver_upc_progress (b : OutBody) (s : State) :
    (s.handOver b).upc.progress = s.upc.progress := by
  obtain ⟨q, h⟩ := State.handOver_frame b s; rw [h]
@[simp] theorem State.handOver_upc_silence (b : OutBody) (s : State) :
    (s.handOver b).upc.silence = s.upc.silence := by
  obtain ⟨q, h⟩ := State.handOver_frame b s; rw [h]
@[simp] theorem State.handOver_upc_limit (b : OutBody) (s : State) :
    (s.handOver b).upc.limit = s.upc.limit := by
  obtain ⟨q, h⟩ := State.handOver_frame b s; rw [h]
@[simp] theorem State.handOver_upc_needed (b : OutBody) (s : State) :
    (s.handOver b).upc.needed = s.upc.needed := by
  obtain ⟨q, h⟩ := State.handOver_frame b s; rw [h]
@[simp] theorem State.handOver_upc_replyAddr (b : OutBody) (s : State) :
    (s.handOver b).upc.replyAddr = s.upc.replyAddr := by
  obtain ⟨q, h⟩ := State.handOver_frame b s; rw [h]
@[simp] theorem State.handOver_upc_mask (b : OutBody) (s : State) :
    (s.handOver b).upc.mask = s.upc.mask := by
  obtain ⟨q, h⟩ := State.handOver_frame b s; rw [h]
@[simp] theorem State.handOver_upc_heldHello (b : OutBody) (s : State) :
    (s.handOver b).upc.heldHello = s.upc.heldHello := by
  obtain ⟨q, h⟩ := State.handOver_frame b s; rw [h]
@[simp] theorem State.handOver_upc_run (b : OutBody) (s : State) :
    (s.handOver b).upc.run = s.upc.run := by
  obtain ⟨q, h⟩ := State.handOver_frame b s; rw [h]
@[simp] theorem State.handOver_upc_waiting (b : OutBody) (s : State) :
    (s.handOver b).upc.waiting = s.upc.waiting := by
  obtain ⟨q, h⟩ := State.handOver_frame b s; rw [h]

theorem State.handOver_bound (b : OutBody) (s : State) (h : s.upc.sendQueue.length ≤ sendQueueSize) :
    (s.handOver b).upc.sendQueue.length ≤ sendQueueSize := by
  unfold State.handOver
  split
  · simp; omega
  · exact h

theorem State.handOver_room (b : OutBody) (s : State) (h : s.upc.linkUp = true)
    (h' : s.upc.sendQueue.length < sendQueueSize) :
    s.handOver b = { s with upc := { s.upc with
      sendQueue := s.upc.sendQueue ++ [{ dst := s.upc.replyAddr, body := b }] } } := by
  simp [State.handOver, h, h']

/-- Raising an event changes the send queue and nothing else. -/
theorem State.raise_frame (e : Event) (s : State) :
    ∃ q, s.raise e = { s with upc := { s.upc with sendQueue := q } } := by
  unfold State.raise
  split
  · exact State.handOver_frame _ s
  · exact ⟨s.upc.sendQueue, rfl⟩

@[simp] theorem State.raise_pending (e : Event) (s : State) : (s.raise e).pending = s.pending := by
  obtain ⟨q, h⟩ := State.raise_frame e s; rw [h]
@[simp] theorem State.raise_out (e : Event) (s : State) : (s.raise e).out = s.out := by
  obtain ⟨q, h⟩ := State.raise_frame e s; rw [h]
@[simp] theorem State.raise_lines (e : Event) (s : State) : (s.raise e).lines = s.lines := by
  obtain ⟨q, h⟩ := State.raise_frame e s; rw [h]
@[simp] theorem State.raise_intake (e : Event) (s : State) : (s.raise e).intake = s.intake := by
  obtain ⟨q, h⟩ := State.raise_frame e s; rw [h]
@[simp] theorem State.raise_ce (e : Event) (s : State) : (s.raise e).ce = s.ce := by
  obtain ⟨q, h⟩ := State.raise_frame e s; rw [h]
@[simp] theorem State.raise_tu (e : Event) (s : State) : (s.raise e).tu = s.tu := by
  obtain ⟨q, h⟩ := State.raise_frame e s; rw [h]
@[simp] theorem State.raise_kr (e : Event) (s : State) : (s.raise e).kr = s.kr := by
  obtain ⟨q, h⟩ := State.raise_frame e s; rw [h]
@[simp] theorem State.raise_ports (e : Event) (s : State) : (s.raise e).ports = s.ports := by
  obtain ⟨q, h⟩ := State.raise_frame e s; rw [h]
@[simp] theorem State.raise_sj (e : Event) (s : State) : (s.raise e).sj = s.sj := by
  obtain ⟨q, h⟩ := State.raise_frame e s; rw [h]
@[simp] theorem State.raise_clock (e : Event) (s : State) : (s.raise e).clock = s.clock := by
  obtain ⟨q, h⟩ := State.raise_frame e s; rw [h]
@[simp] theorem State.raise_upc_part (e : Event) (s : State) :
    (s.raise e).upc.part = s.upc.part := by
  obtain ⟨q, h⟩ := State.raise_frame e s; rw [h]
@[simp] theorem State.raise_upc_selfTest (e : Event) (s : State) :
    (s.raise e).upc.selfTest = s.upc.selfTest := by
  obtain ⟨q, h⟩ := State.raise_frame e s; rw [h]
@[simp] theorem State.raise_upc_linkUp (e : Event) (s : State) :
    (s.raise e).upc.linkUp = s.upc.linkUp := by
  obtain ⟨q, h⟩ := State.raise_frame e s; rw [h]
@[simp] theorem State.raise_upc_state (e : Event) (s : State) :
    (s.raise e).upc.state = s.upc.state := by
  obtain ⟨q, h⟩ := State.raise_frame e s; rw [h]
@[simp] theorem State.raise_upc_progress (e : Event) (s : State) :
    (s.raise e).upc.progress = s.upc.progress := by
  obtain ⟨q, h⟩ := State.raise_frame e s; rw [h]
@[simp] theorem State.raise_upc_silence (e : Event) (s : State) :
    (s.raise e).upc.silence = s.upc.silence := by
  obtain ⟨q, h⟩ := State.raise_frame e s; rw [h]
@[simp] theorem State.raise_upc_limit (e : Event) (s : State) :
    (s.raise e).upc.limit = s.upc.limit := by
  obtain ⟨q, h⟩ := State.raise_frame e s; rw [h]
@[simp] theorem State.raise_upc_needed (e : Event) (s : State) :
    (s.raise e).upc.needed = s.upc.needed := by
  obtain ⟨q, h⟩ := State.raise_frame e s; rw [h]
@[simp] theorem State.raise_upc_replyAddr (e : Event) (s : State) :
    (s.raise e).upc.replyAddr = s.upc.replyAddr := by
  obtain ⟨q, h⟩ := State.raise_frame e s; rw [h]
@[simp] theorem State.raise_upc_mask (e : Event) (s : State) :
    (s.raise e).upc.mask = s.upc.mask := by
  obtain ⟨q, h⟩ := State.raise_frame e s; rw [h]
@[simp] theorem State.raise_upc_heldHello (e : Event) (s : State) :
    (s.raise e).upc.heldHello = s.upc.heldHello := by
  obtain ⟨q, h⟩ := State.raise_frame e s; rw [h]
@[simp] theorem State.raise_upc_run (e : Event) (s : State) :
    (s.raise e).upc.run = s.upc.run := by
  obtain ⟨q, h⟩ := State.raise_frame e s; rw [h]
@[simp] theorem State.raise_upc_waiting (e : Event) (s : State) :
    (s.raise e).upc.waiting = s.upc.waiting := by
  obtain ⟨q, h⟩ := State.raise_frame e s; rw [h]

theorem State.raise_bound (e : Event) (s : State) (h : s.upc.sendQueue.length ≤ sendQueueSize) :
    (s.raise e).upc.sendQueue.length ≤ sendQueueSize := by
  unfold State.raise
  split
  · exact State.handOver_bound _ s h
  · exact h

theorem State.raise_masked (e : Event) (s : State) (h : s.upc.enabled e = false) : s.raise e = s := by
  simp [State.raise, h]

/-- The online test changes the uplink state and the send queue at most (R152). -/
theorem State.onlineTest_frame (s : State) :
    ∃ x q, s.onlineTest = { s with upc := { s.upc with state := x, sendQueue := q } } := by
  unfold State.onlineTest
  split
  · obtain ⟨q, h⟩ := State.raise_frame (.uplinkOnline s.upc.needed) { s with upc.state := .online }
    exact ⟨.online, q, h⟩
  · exact ⟨s.upc.state, s.upc.sendQueue, rfl⟩

/-- An envelope taken changes the uplink's supervision and the send queue at most (R152). -/
theorem State.countEnvelope_frame (s : State) :
    ∃ x p q, s.countEnvelope =
      { s with upc := { s.upc with state := x, progress := p, silence := some 0, sendQueue := q } } := by
  unfold State.countEnvelope
  split
  · obtain ⟨x, q, h⟩ := State.onlineTest_frame
      { s with upc.state := .recovering, upc.progress := 1, upc.silence := some 0 }
    exact ⟨x, 1, q, h⟩
  · obtain ⟨x, q, h⟩ := State.onlineTest_frame
      { s with upc.progress := s.upc.progress + 1, upc.silence := some 0 }
    exact ⟨x, _, q, h⟩
  · exact ⟨s.upc.state, s.upc.progress, s.upc.sendQueue, rfl⟩

/-! ### Notices (R36) -/

theorem Till.post_bound (n : Notice) (t : Till) (h : t.notices.length ≤ noticeQueueSize) :
    (t.post n).notices.length ≤ noticeQueueSize := by
  unfold Till.post
  split
  · simp; omega
  · exact h

/-- Posting changes one till's notices and LOST flag. -/
theorem Till.post_frame (n : Notice) (t : Till) :
    ∃ q b, t.post n = { t with notices := q, lost := b } := by
  unfold Till.post
  split
  · exact ⟨_, t.lost, rfl⟩
  · exact ⟨t.notices, _, rfl⟩

/-! ### A piece of work carried out (R41) -/

/-- The parts of a state that no effect of a piece of work can reach. -/
def State.untouched (s : State) :
    List Instr × Intake × CheckEngine × TenderUnit × KitchenRouter × Vector Port 8 × Journal × Clock × Uplink :=
  (s.pending, s.intake, s.ce, s.tu, s.kr, s.ports, s.sj, s.clock, { s.upc with sendQueue := [] })

@[simp] theorem State.apply_untouched (e : Effect) (s : State) : (s.apply e).untouched = s.untouched := by
  cases e with
  | event e =>
    obtain ⟨q, h⟩ := State.raise_frame e s
    simp [State.apply, h, State.untouched]
  | notice t n => rfl
  | authRequest r =>
    obtain ⟨q, h⟩ := State.handOver_frame (.authRequest r) s
    simp [State.apply, h, State.untouched]
  | output o => rfl

theorem State.foldl_apply_untouched (es : List Effect) (s : State) :
    (es.foldl State.apply s).untouched = s.untouched := by
  induction es generalizing s with
  | nil => rfl
  | cons e es ih => simp [ih]

/-- What a piece of work cannot reach is as the work left the blocks. -/
theorem State.commit_untouched (w : Work) (s : State) : (s.commit w).untouched = (s.putWork w).untouched :=
  State.foldl_apply_untouched _ _

@[simp] theorem State.commit_pending (w : Work) (s : State) : (s.commit w).pending = s.pending :=
  congrArg (·.1) (State.commit_untouched w s)
@[simp] theorem State.commit_intake (w : Work) (s : State) : (s.commit w).intake = s.intake :=
  congrArg (·.2.1) (State.commit_untouched w s)
@[simp] theorem State.commit_ce (w : Work) (s : State) : (s.commit w).ce = w.ce :=
  congrArg (·.2.2.1) (State.commit_untouched w s)
@[simp] theorem State.commit_tu (w : Work) (s : State) : (s.commit w).tu = w.tu :=
  congrArg (·.2.2.2.1) (State.commit_untouched w s)
@[simp] theorem State.commit_kr (w : Work) (s : State) : (s.commit w).kr = w.kr :=
  congrArg (·.2.2.2.2.1) (State.commit_untouched w s)
@[simp] theorem State.commit_ports (w : Work) (s : State) : (s.commit w).ports = w.ports :=
  congrArg (·.2.2.2.2.2.1) (State.commit_untouched w s)
@[simp] theorem State.commit_sj (w : Work) (s : State) : (s.commit w).sj = w.sj :=
  congrArg (·.2.2.2.2.2.2.1) (State.commit_untouched w s)
@[simp] theorem State.commit_clock (w : Work) (s : State) : (s.commit w).clock = s.clock :=
  congrArg (·.2.2.2.2.2.2.2.1) (State.commit_untouched w s)

/-- A piece of work changes the uplink in its send queue alone. -/
theorem State.commit_upc (w : Work) (s : State) :
    ∃ q, (s.commit w).upc = { s.upc with sendQueue := q } := by
  have h := congrArg (·.2.2.2.2.2.2.2.2) (State.commit_untouched w s)
  simp only [State.untouched, State.putWork_upc] at h
  refine ⟨(s.commit w).upc.sendQueue, ?_⟩
  rcases hu : (s.commit w).upc with ⟨⟩
  rcases hs : s.upc with ⟨⟩
  rw [hu, hs] at h
  simp only [Uplink.mk.injEq] at h ⊢
  tauto

theorem State.apply_queue_bound (e : Effect) (s : State) (h : s.upc.sendQueue.length ≤ sendQueueSize) :
    (s.apply e).upc.sendQueue.length ≤ sendQueueSize := by
  cases e with
  | event e => exact State.raise_bound e s h
  | notice t n => exact h
  | authRequest r => exact State.handOver_bound _ s h
  | output o => exact h

theorem State.commit_queue_bound (w : Work) (s : State) (h : s.upc.sendQueue.length ≤ sendQueueSize) :
    (s.commit w).upc.sendQueue.length ≤ sendQueueSize := by
  unfold State.commit
  have : (s.putWork w).upc.sendQueue.length ≤ sendQueueSize := h
  generalize s.putWork w = s' at this
  induction w.fx generalizing s' with
  | nil => exact this
  | cons e es ih => exact ih _ (State.apply_queue_bound e s' this)

theorem State.apply_out (e : Effect) (s : State) : s.out <+: (s.apply e).out := by
  cases e with
  | event e =>
    obtain ⟨q, h⟩ := State.raise_frame e s
    simp [State.apply, h]
  | notice t n => exact List.prefix_rfl
  | authRequest r =>
    obtain ⟨q, h⟩ := State.handOver_frame (.authRequest r) s
    simp [State.apply, h]
  | output o => exact List.prefix_append _ _

/-- What has been sent stays sent. -/
theorem State.commit_out (w : Work) (s : State) : s.out <+: (s.commit w).out := by
  unfold State.commit
  have : s.out <+: (s.putWork w).out := List.prefix_rfl
  generalize s.putWork w = s' at this
  induction w.fx generalizing s' with
  | nil => exact this
  | cons e es ih => exact ih _ (this.trans (State.apply_out e s'))

/-- A piece of work that changes nothing and sends nothing leaves the state. -/
theorem State.commit_work (s : State) : s.commit s.work = s := rfl

/-! ### The line driver (R26, R34) -/

/-- A talk leaves the driver released, whatever was said (R26). -/
@[simp] theorem State.talk_driver (l : LineId) (wait turn : Nat) (say : State → State) (s : State) :
    (s.talk l wait turn say).lines[l].driver = false := by
  simp [State.talk]

/-- What a talk logs: the driver taken, what is said, the driver released (R26). -/
theorem State.talk_out (l : LineId) (wait turn : Nat) (say : State → State) (s : State) :
    (s.talk l wait turn say).out = (say (s.drive l true wait)).out ++ [.driver l false turn] := rfl

/-! ### Reading a station port (R123, R173) -/

theorem PortScan.read_cons (m : PortScan) (c : PortChar) (cs : List PortChar) :
    m.read (c :: cs) = (PortScan.take c m).2 ++ (PortScan.take c m).1.read cs := by
  cases m <;> rfl

/-- What escaping makes of a control value, and of any other (R173). -/
theorem escaped_values (b : Byte) :
    (isControl b = true → b - 0x80 ≠ chHOLD ∧ b - 0x80 ≠ chGO ∧ 0x70 ≤ (b - 0x80).toNat ∧ (b - 0x80).toNat ≤ 0x7F ∧
      b - 0x80 + 0x80 = b) ∧
    (isControl b = false → b ≠ chHOLD ∧ b ≠ chGO ∧ b ≠ chESC ∧ b ≠ chEOF) := by
  revert b
  decide

/-- A byte of a body, escaped where it must be, is read back inside a frame (R173). -/
theorem PortScan.read_escaped (b : Byte) (acc : List Byte) (cs : List PortChar) :
    (PortScan.inside acc false).read ((escapeByte b).map (fun x => { data := x }) ++ cs) =
      (PortScan.inside (b :: acc) false).read cs := by
  have hv := escaped_values b
  have hesc : chESC ≠ chHOLD ∧ chESC ≠ chGO := by decide
  unfold escapeByte
  cases h : isControl b with
  | true =>
    obtain ⟨h1, h2, h3, h4, h5⟩ := hv.1 h
    simp only [ite_true, List.map_cons, List.map_nil, List.cons_append, List.nil_append, PortScan.read_cons,
      PortScan.take, hesc, h1, h2, h3, h4, h5, or_self, ite_false, and_self, Bool.false_eq_true]
  | false =>
    obtain ⟨h1, h2, h3, h4⟩ := hv.2 h
    simp [PortScan.read_cons, PortScan.take, h1, h2, h3, h4, h]

/-- A body is read back whole inside a frame (R173). -/
theorem PortScan.read_body (bs acc : List Byte) (cs : List PortChar) :
    (PortScan.inside acc false).read ((bs.flatMap escapeByte).map (fun x => { data := x }) ++ cs) =
      (PortScan.inside (bs.reverse ++ acc) false).read cs := by
  induction bs generalizing acc with
  | nil => rfl
  | cons b bs ih =>
    rw [List.flatMap_cons, List.map_append, List.append_assoc, PortScan.read_escaped, ih]
    simp

/-- A whole frame is read as what its bytes make at their EOF (R123, R173). -/
theorem readPort_frame (body : List Byte) :
    readPort ((frameBytes body).map fun x => { data := x }) = [endOfPortFrame (body ++ [checksum body])] := by
  have hs : chSOF ≠ chHOLD ∧ chSOF ≠ chGO ∧ chEOF ≠ chHOLD ∧ chEOF ≠ chGO ∧ chEOF ≠ chESC := by decide
  unfold readPort frameBytes
  rw [List.cons_append, List.map_cons, List.map_append, PortScan.read_cons]
  simp only [PortScan.take, hs, or_self, ite_false, ite_true, Bool.false_eq_true, List.nil_append, PortScan.read_body]
  simp only [List.map_cons, List.map_nil, PortScan.read_cons, PortScan.take, hs, or_self, ite_false, ite_true,
    Bool.false_eq_true, List.append_nil, List.reverse_reverse]
  rfl

/-! ### The intake (R32, R33) -/

@[simp] theorem State.setPaused_slips (b : Bool) (s : State) : (s.setPaused b).intake.slips = s.intake.slips := by
  unfold State.setPaused; split <;> rfl
@[simp] theorem State.setPaused_paused (b : Bool) (s : State) : (s.setPaused b).intake.paused = b := by
  unfold State.setPaused; split <;> rfl
@[simp] theorem State.setPaused_pending (b : Bool) (s : State) : (s.setPaused b).pending = s.pending := by
  unfold State.setPaused; split <;> rfl
@[simp] theorem State.setPaused_out (b : Bool) (s : State) : (s.setPaused b).out = s.out := by
  unfold State.setPaused; split <;> rfl
@[simp] theorem State.setPaused_ce (b : Bool) (s : State) : (s.setPaused b).ce = s.ce := by
  unfold State.setPaused; split <;> rfl
@[simp] theorem State.setPaused_tu (b : Bool) (s : State) : (s.setPaused b).tu = s.tu := by
  unfold State.setPaused; split <;> rfl
@[simp] theorem State.setPaused_kr (b : Bool) (s : State) : (s.setPaused b).kr = s.kr := by
  unfold State.setPaused; split <;> rfl
@[simp] theorem State.setPaused_ports (b : Bool) (s : State) : (s.setPaused b).ports = s.ports := by
  unfold State.setPaused; split <;> rfl
@[simp] theorem State.setPaused_sj (b : Bool) (s : State) : (s.setPaused b).sj = s.sj := by
  unfold State.setPaused; split <;> rfl
@[simp] theorem State.setPaused_upc (b : Bool) (s : State) : (s.setPaused b).upc = s.upc := by
  unfold State.setPaused; split <;> rfl
@[simp] theorem State.setPaused_clock (b : Bool) (s : State) : (s.setPaused b).clock = s.clock := by
  unfold State.setPaused; split <;> rfl

/-- Setting the pause state can clear walk positions and nothing else of a line. -/
theorem State.setPaused_till (b : Bool) (s : State) (l : LineId) :
    (s.setPaused b).lines[l].tills = s.lines[l].tills := by
  unfold State.setPaused
  split
  · simp
  · rfl

/-- An offer joins the tail while there is room (R32). -/
theorem State.offerSlip_some (x : Slip) (s t : State) (h : s.offerSlip x = some t) :
    t.intake.slips = s.intake.slips ++ [x] ∧ s.intake.slips.length < intakeSize := by
  unfold State.offerSlip at h
  split at h
  · rename_i hl
    simp only [Option.some.injEq] at h
    subst h
    exact ⟨by simp, hl⟩
  · simp at h

/-- An offer is declined exactly when the intake is full (R32). -/
theorem State.offerSlip_none (x : Slip) (s : State) :
    s.offerSlip x = none ↔ intakeSize ≤ s.intake.slips.length := by
  unfold State.offerSlip
  split <;> simp <;> omega

end Sys2Proof.Machine
end

