-- ==== Sys2Proof/Laws/Control.lean ====
section
/-! SUPPORT. The running of control blocks: when the UPC has nothing more to do by itself, and which block an owner may
carry out. -/
namespace Sys2Proof.Machine

/-- The UPC stops where its next step is not its own (R156). -/
theorem State.settleFor_stop (n : Nat) (s : State) (h : s.settleStep = none) : s.settleFor n = s := by
  cases n with
  | zero => rfl
  | succ n => simp [State.settleFor, h]

/-- With no envelope running and none waiting there is nothing to do (R155). -/
theorem State.settleStep_idle (s : State) (h : s.upc.run = none) (h' : s.upc.waiting = []) : s.settleStep = none := by
  simp [State.settleStep, h, h']

/-- The UPC waits for the owner of the head block (R156). -/
theorem State.settleStep_owner (s : State) (r : Run) (tag : Nat) (stop : Bool) (op : ControlOp) (rest : List Block)
    (h : s.upc.run = some r) (hb : r.blocks = .good tag stop op :: rest) (hs : s.skips r op = false) :
    s.settleStep = none := by
  simp [State.settleStep, h, hb, hs]

/-- A block that may be carried out is the head of the running envelope, in RUNNING or, for READ STATUS, in FAILED,
with no drain burst running (R156). -/
theorem State.nextBlock_some (s : State) (tag : Nat) (op : ControlOp) (h : s.nextBlock = some (tag, op)) :
    s.sj.burst = none ∧ s.upc.part ≠ .starting ∧
      ∃ r stop rest, s.upc.run = some r ∧ r.blocks = .good tag stop op :: rest ∧ s.skips r op = false := by
  unfold State.nextBlock at h
  split at h
  · simp at h
  · rename_i hb
    cases hr : s.upc.run with
    | none => simp [hr] at h
    | some r =>
      simp only [hr] at h
      cases hbl : r.blocks with
      | nil => simp [hbl] at h
      | cons b rest =>
        cases b with
        | bad t c => simp [hbl] at h
        | good t stop o =>
          simp only [hbl] at h
          split at h
          · simp at h
          · rename_i hs
            split at h
            · simp at h
            · rename_i hp
              simp only [Option.some.injEq, Prod.mk.injEq] at h
              obtain ⟨rfl, rfl⟩ := h
              exact ⟨by simpa using hb, hp, r, stop, rest, rfl, hbl, by simpa using hs⟩

/-- The wanted block is carried out (R156). -/
theorem State.block_runs (run : ControlOp → Option (State → BlockReply × State)) (s : State) (tag : Nat)
    (op : ControlOp) (f : State → BlockReply × State) (h : s.nextBlock = some (tag, op)) (hf : run op = some f) :
    s.block run = (f s).2.finishBlock (f s).1 := by
  simp [State.block, h, hf]

/-- Without a block to carry out nothing happens (log 1). -/
theorem State.block_none (run : ControlOp → Option (State → BlockReply × State)) (s : State)
    (h : s.nextBlock = none) : s.block run = s := by
  simp [State.block, h]

theorem State.finishBlock_idle (b : BlockReply) (s : State) (h : s.upc.run = none) :
    s.finishBlock b = s := by
  simp [State.finishBlock, h]

end Sys2Proof.Machine
end

