-- ==== Sys2Proof/Laws/PerInstr.lean ====
section
/-! SUPPORT. Family F: the sorts of a command do not overlap, and the commands that take waiting work and have no
operand are well formed whatever waits. One lemma for each constructor. -/
namespace Sys2Proof.Laws.F
open Sys2Proof.Machine

/-- A command is of one sort at most, and a command that takes a slip is well formed. -/
def Statement (i : Instr) : Prop :=
  (isSlipCommand i && isWorkCommand i) = false ∧ (isSlipCommand i && isStationCommand i) = false ∧
  (isWorkCommand i && isStationCommand i) = false ∧ (isSlipCommand i = true → WellFormed i = true)

theorem powerOn : Statement .powerOn :=
  ⟨rfl, rfl, rfl, fun h => nomatch h⟩

theorem selfTestDone (failed : List Memory) : Statement (.selfTestDone failed) :=
  ⟨rfl, rfl, rfl, fun h => nomatch h⟩

theorem venueClockTick : Statement .venueClockTick :=
  ⟨rfl, rfl, rfl, fun h => nomatch h⟩

theorem ethernetLinkLost : Statement .ethernetLinkLost :=
  ⟨rfl, rfl, rfl, fun h => nomatch h⟩

theorem ethernetLinkUp : Statement .ethernetLinkUp :=
  ⟨rfl, rfl, rfl, fun h => nomatch h⟩

theorem silenceTimeout : Statement .silenceTimeout :=
  ⟨rfl, rfl, rfl, fun h => nomatch h⟩

theorem envelopeSent : Statement .envelopeSent :=
  ⟨rfl, rfl, rfl, fun h => nomatch h⟩

theorem control (f : EthFrame) : Statement (.control f) :=
  ⟨rfl, rfl, rfl, fun h => nomatch h⟩

theorem remoteOrder (f : EthFrame) : Statement (.remoteOrder f) :=
  ⟨rfl, rfl, rfl, fun h => nomatch h⟩

theorem authAnswer (f : EthFrame) : Statement (.authAnswer f) :=
  ⟨rfl, rfl, rfl, fun h => nomatch h⟩

theorem keepalive (f : EthFrame) : Statement (.keepalive f) :=
  ⟨rfl, rfl, rfl, fun h => nomatch h⟩

theorem otherEnvelopeKind (f : EthFrame) : Statement (.otherEnvelopeKind f) :=
  ⟨rfl, rfl, rfl, fun h => nomatch h⟩

theorem loadItems : Statement .loadItems :=
  ⟨rfl, rfl, rfl, fun h => nomatch h⟩

theorem deleteItems : Statement .deleteItems :=
  ⟨rfl, rfl, rfl, fun h => nomatch h⟩

theorem readItem : Statement .readItem :=
  ⟨rfl, rfl, rfl, fun h => nomatch h⟩

theorem setStock : Statement .setStock :=
  ⟨rfl, rfl, rfl, fun h => nomatch h⟩

theorem loadStand : Statement .loadStand :=
  ⟨rfl, rfl, rfl, fun h => nomatch h⟩

theorem loadStation : Statement .loadStation :=
  ⟨rfl, rfl, rfl, fun h => nomatch h⟩

theorem loadLine : Statement .loadLine :=
  ⟨rfl, rfl, rfl, fun h => nomatch h⟩

theorem loadTill : Statement .loadTill :=
  ⟨rfl, rfl, rfl, fun h => nomatch h⟩

theorem readTills : Statement .readTills :=
  ⟨rfl, rfl, rfl, fun h => nomatch h⟩

theorem setIntakeMarks : Statement .setIntakeMarks :=
  ⟨rfl, rfl, rfl, fun h => nomatch h⟩

theorem queryCheck : Statement .queryCheck :=
  ⟨rfl, rfl, rfl, fun h => nomatch h⟩

theorem voidCheckBlock : Statement .voidCheckBlock :=
  ⟨rfl, rfl, rfl, fun h => nomatch h⟩

theorem setAuthTimes : Statement .setAuthTimes :=
  ⟨rfl, rfl, rfl, fun h => nomatch h⟩

theorem stationControl : Statement .stationControl :=
  ⟨rfl, rfl, rfl, fun h => nomatch h⟩

theorem readStations : Statement .readStations :=
  ⟨rfl, rfl, rfl, fun h => nomatch h⟩

theorem drainJournal : Statement .drainJournal :=
  ⟨rfl, rfl, rfl, fun h => nomatch h⟩

theorem drainBurstRecord : Statement .drainBurstRecord :=
  ⟨rfl, rfl, rfl, fun h => nomatch h⟩

theorem setJournalWarning : Statement .setJournalWarning :=
  ⟨rfl, rfl, rfl, fun h => nomatch h⟩

theorem setUplinkTimes : Statement .setUplinkTimes :=
  ⟨rfl, rfl, rfl, fun h => nomatch h⟩

theorem setEvents : Statement .setEvents :=
  ⟨rfl, rfl, rfl, fun h => nomatch h⟩

theorem readStatus : Statement .readStatus :=
  ⟨rfl, rfl, rfl, fun h => nomatch h⟩

theorem openStand : Statement .openStand :=
  ⟨rfl, rfl, rfl, fun h => nomatch h⟩

theorem closeStand : Statement .closeStand :=
  ⟨rfl, rfl, rfl, fun h => nomatch h⟩

theorem serviceReset : Statement .serviceReset :=
  ⟨rfl, rfl, rfl, fun h => nomatch h⟩

theorem setClock : Statement .setClock :=
  ⟨rfl, rfl, rfl, fun h => nomatch h⟩

theorem emptyRound (l : LineId) : Statement (.emptyRound l) :=
  ⟨rfl, rfl, rfl, fun h => nomatch h⟩

theorem slipCall (l : LineId) : Statement (.slipCall l) :=
  ⟨rfl, rfl, rfl, fun h => nomatch h⟩

theorem miss (l : LineId) : Statement (.miss l) :=
  ⟨rfl, rfl, rfl, fun h => nomatch h⟩

theorem idle (l : LineId) : Statement (.idle l) :=
  ⟨rfl, rfl, rfl, fun h => nomatch h⟩

theorem slipFrame (l : LineId) (cs : List TillChar) : Statement (.slipFrame l cs) :=
  ⟨rfl, rfl, rfl, fun h => nomatch h⟩

theorem frameGapTimeout (l : LineId) (cs : List TillChar) : Statement (.frameGapTimeout l cs) :=
  ⟨rfl, rfl, rfl, fun h => nomatch h⟩

theorem malformedAnswer (l : LineId) (cs : List TillChar) : Statement (.malformedAnswer l cs) :=
  ⟨rfl, rfl, rfl, fun h => nomatch h⟩

theorem deliverCall (l : LineId) : Statement (.deliverCall l) :=
  ⟨rfl, rfl, rfl, fun h => nomatch h⟩

theorem order : Statement .order :=
  ⟨rfl, rfl, rfl, fun _ => rfl⟩

theorem add : Statement .add :=
  ⟨rfl, rfl, rfl, fun _ => rfl⟩

theorem split : Statement .split :=
  ⟨rfl, rfl, rfl, fun _ => rfl⟩

theorem tender : Statement .tender :=
  ⟨rfl, rfl, rfl, fun _ => rfl⟩

theorem voidLine : Statement .voidLine :=
  ⟨rfl, rfl, rfl, fun _ => rfl⟩

theorem voidCheck : Statement .voidCheck :=
  ⟨rfl, rfl, rfl, fun _ => rfl⟩

theorem query : Statement .query :=
  ⟨rfl, rfl, rfl, fun _ => rfl⟩

theorem remoteOrderProcess : Statement .remoteOrderProcess :=
  ⟨rfl, rfl, rfl, fun _ => rfl⟩

theorem unknownSlipKind : Statement .unknownSlipKind :=
  ⟨rfl, rfl, rfl, fun _ => rfl⟩

theorem fireBacklogTry : Statement .fireBacklogTry :=
  ⟨rfl, rfl, rfl, fun h => nomatch h⟩

theorem authAnswerTaken (tag : Nat) (v : Verdict) : Statement (.authAnswerTaken tag v) :=
  ⟨rfl, rfl, rfl, fun h => nomatch h⟩

theorem authWaitExpiry (tag : Nat) : Statement (.authWaitExpiry tag) :=
  ⟨rfl, rfl, rfl, fun h => nomatch h⟩

theorem lateWindowExpiry : Statement .lateWindowExpiry :=
  ⟨rfl, rfl, rfl, fun h => nomatch h⟩

theorem completion (ticket : Nat) : Statement (.completion ticket) :=
  ⟨rfl, rfl, rfl, fun h => nomatch h⟩

theorem recallOffer (ticket : Nat) : Statement (.recallOffer ticket) :=
  ⟨rfl, rfl, rfl, fun h => nomatch h⟩

theorem ticket (st : StationId) : Statement (.ticket st) :=
  ⟨rfl, rfl, rfl, fun h => nomatch h⟩

theorem ticketFrameEnd (st : StationId) : Statement (.ticketFrameEnd st) :=
  ⟨rfl, rfl, rfl, fun h => nomatch h⟩

theorem probeTimerExpiry (st : StationId) : Statement (.probeTimerExpiry st) :=
  ⟨rfl, rfl, rfl, fun h => nomatch h⟩

theorem taken (st : StationId) (cs : List PortChar) : Statement (.taken st cs) :=
  ⟨rfl, rfl, rfl, fun h => nomatch h⟩

theorem bump (st : StationId) (cs : List PortChar) : Statement (.bump st cs) :=
  ⟨rfl, rfl, rfl, fun h => nomatch h⟩

theorem recallFrame (st : StationId) (cs : List PortChar) : Statement (.recallFrame st cs) :=
  ⟨rfl, rfl, rfl, fun h => nomatch h⟩

theorem fault (st : StationId) (cs : List PortChar) : Statement (.fault st cs) :=
  ⟨rfl, rfl, rfl, fun h => nomatch h⟩

theorem helloFrame (st : StationId) (cs : List PortChar) : Statement (.helloFrame st cs) :=
  ⟨rfl, rfl, rfl, fun h => nomatch h⟩

theorem hold (st : StationId) : Statement (.hold st) :=
  ⟨rfl, rfl, rfl, fun h => nomatch h⟩

theorem go (st : StationId) (c : PortChar) : Statement (.go st c) :=
  ⟨rfl, rfl, rfl, fun h => nomatch h⟩

theorem stationFrameDiscard (st : StationId) (cs : List PortChar) : Statement (.stationFrameDiscard st cs) :=
  ⟨rfl, rfl, rfl, fun h => nomatch h⟩

theorem stationFrameGapTimeout (st : StationId) : Statement (.stationFrameGapTimeout st) :=
  ⟨rfl, rfl, rfl, fun h => nomatch h⟩

theorem takenTimeout (st : StationId) (slot : Slot) : Statement (.takenTimeout st slot) :=
  ⟨rfl, rfl, rfl, fun h => nomatch h⟩

theorem holdLimit (st : StationId) : Statement (.holdLimit st) :=
  ⟨rfl, rfl, rfl, fun h => nomatch h⟩

theorem clearanceReport (sd : StandId) : Statement (.clearanceReport sd) :=
  ⟨rfl, rfl, rfl, fun h => nomatch h⟩

theorem closeDeadlineExpiry (sd : StandId) : Statement (.closeDeadlineExpiry sd) :=
  ⟨rfl, rfl, rfl, fun h => nomatch h⟩

end Sys2Proof.Laws.F
end

