-- ==== Sys2Proof/Laws/Tickets.lean ====
section
/-! SUPPORT. The places of tickets, as lists to look at one by one. -/
namespace Sys2Proof.Machine

/-- Each entry of each place is a live ticket of that station and that state, and each live ticket that does not wait
has such an entry. -/
theorem State.mem_ticketsAt_iff {s : State}
    (live : ∀ st, ∀ p ∈ s.ticketsAt st, p.2 ≠ .waiting ∧
      ∃ k ∈ s.kr.tickets, k.number = p.1 ∧ k.station = st ∧ k.state = p.2)
    (placed : ∀ k ∈ s.kr.tickets, k.state ≠ .waiting → (k.number, k.state) ∈ s.ticketsAt k.station)
    (st : StationId) (n : Nat) (x : TicketState) :
    (n, x) ∈ s.ticketsAt st ↔ x ≠ .waiting ∧ ∃ k ∈ s.kr.tickets, k.number = n ∧ k.station = st ∧ k.state = x := by
  refine ⟨live st (n, x), ?_⟩
  rintro ⟨hx, k, hk, rfl, rfl, rfl⟩
  exact placed k hk hx

end Sys2Proof.Machine
end

