-- ==== Sys2Proof/Tests/Slice0.lean ====
section
/-! SUPPORT. Tests of the model's own work on small states, one ill-formed command for each well-formedness check, and
for each statement with hypotheses a theorem that they are met, each clause of its own and at the edges of its ranges. -/
namespace Sys2Proof.Tests
open Sys2Proof.Machine

/-! ### Small states -/

/-- A RUNNING part with its link up. -/
def up : State := { State.reset with upc := { State.reset.upc with part := .running, linkUp := true } }

/-- The running envelope asks for this block and nothing more. -/
def asked (op : ControlOp) (s : State) : State :=
  let run : Run := { blocks := [.good 1 false op], linked := true, replies := [], skip := false, reset := none }
  { s with upc := { s.upc with run := some run } }

/-- The intake holds just this slip of a till. -/
def slip (t : TillId) (kind : Byte) (content : List Byte) (s : State) : State :=
  { s with intake := { s.intake with slips := [{ source := .till t, kind := kind, content := content }] } }

/-- The intake holds just this remote order. -/
def remoteSlip (ref : Nat) (content : List Byte) (s : State) : State :=
  { s with intake := { s.intake with slips := [{ source := .remote ref, kind := 0, content := content }] } }

def onUplink (f : Uplink → Uplink) (s : State) : State := { s with upc := f s.upc }
def onJournal (f : Journal → Journal) (s : State) : State := { s with sj := f s.sj }
def onTender (f : TenderUnit → TenderUnit) (s : State) : State := { s with tu := f s.tu }
def onEngine (f : CheckEngine → CheckEngine) (s : State) : State := { s with ce := f s.ce }
def onRouter (f : KitchenRouter → KitchenRouter) (s : State) : State := { s with kr := f s.kr }
def onPort (st : StationId) (f : Port → Port) (s : State) : State := { s with ports := modify s.ports st f }
def onStation (st : StationId) (f : Station → Station) (s : State) : State :=
  { s with kr := { s.kr with stations := modify s.kr.stations st f } }
def onStand (sd : StandId) (f : Stand → Stand) (s : State) : State :=
  { s with ce := { s.ce with stands := modify s.ce.stands sd f } }
def onTill (t : TillId) (f : Till → Till) (s : State) : State :=
  s.onLine (tillLine t) (TillLine.onTill (tillDrop t) f)

/-- A broadcast frame with an envelope of a kind. -/
def frame (kind : Byte) (content : List Byte) : EthFrame :=
  { dst := broadcast, src := 0x020000000001, proto := envelopeType, fcsGood := true,
    payload := kind :: bytesOf 2 content.length ++ content }

/-- The characters of a station frame. -/
def portChars (body : List Byte) : List PortChar := (frameBytes body).map fun b => { data := b }

/-- A loaded station of a kind. -/
def kindCfg (k : StationKind) : StationCfg := { Station.reset.cfg with loaded := true, kind := k }

/-- The state after a command. -/
def after (i : Instr) (s : State) : State :=
  match exec i s with
  | .next t => t
  | _ => s

def burger : Item :=
  { code := 410, price := 1250, primary := 1, overflow := none, expo := true, stock := .uncounted }
def fries : Item := { code := 520, price := 450, primary := 2, overflow := some 1, expo := false, stock := .count 12 }

/-- A venue: an expo station 0, a display 1 and a printer 2, all UP; stand 3 OPEN; till 17 a cashier's and till 36 a
supervisor's, both of stand 3; till 18 a cashier's of stand 0; two items. -/
def venue : State :=
  ([(0, StationKind.expo), (1, .display), (2, .print)].foldl (fun s x =>
      onPort x.1 (fun p => { p with link := .up }) (onStation x.1 (fun t => { t with cfg := kindCfg x.2 }) s)) up)
  |> onStand 3 (fun d => { d with loaded := true, state := .opened, expo := some 0, floor := 2500 })
  |> onTill 17 (fun t => { t with enabled := true, stand := 3 })
  |> onTill 18 (fun t => { t with enabled := true })
  |> onTill 36 (fun t => { t with enabled := true, stand := 3, role := .supervisor })
  |> onEngine (fun e => { e with items := [burger, fries] })

/-- A line of a check: two burgers. -/
def line (i : Nat) (st : LineState) : Line :=
  { index := i, item := 410, qty := 2, mods := [], price := 1250, primary := 1, overflow := none, expo := true,
    owner := none, state := st, ticket := none, assembly := none }

/-- A check of stand 3 over lines and shares. -/
def bill (n : Nat) (ls : List Line) (ss : List Share) : Check :=
  { number := n, stand := 3, origin := .till 17, notify := true, pickup := 1, state := .opened, mode := .whole,
    total := lineTotal ls, readySent := false, lines := ls, shares := ss }

/-- The check is open, with its reservation. -/
def serving (c : Check) (s : State) : State :=
  { s with ce := { s.ce with checks := [c] }, sj := { s.sj with reservations := s.sj.reservations + 1 } }

/-- A check with one HELD line and one share. -/
def plain : Check := bill 7 [line 1 .held] [Share.new 1 2500]

/-- A live authorization entry for share 1 of check 7. -/
def entry (tag : Nat) (orphan : Bool) (elapsed : Nat) : AuthEntry :=
  { tag := tag, check := 7, share := 1, amount := 2500, stand := 3, till := 17, started := 0, orphan := orphan,
    wait := { elapsed := elapsed, limit := 20 } }

/-- A share AUTHORIZING under tag 9. -/
def waiting : Share :=
  { index := 1, due := 2500, tendered := 0, state := .authorizing,
    tenders := [{ kind := .card, amount := 2500, state := .pending, tag := some 9 }] }

/-- Check 7 with its share AUTHORIZING under tag 9. -/
def authorizing : Check := bill 7 [line 1 .held] [waiting]

/-- A NORMAL ticket for line 1 of check 7 at a station. -/
def ticket7 (n : Nat) (st : StationId) (state : TicketState) : Ticket :=
  { number := n, kind := .normal, remake := false, station := st, check := some 7, stand := 3, pickup := 1, fired := 0,
    entries := [{ line := some 1, item := 410, qty := 2, mods := [], voided := false }], state := state, wait := 0,
    assembly := none, original := none }

def withTickets (ts : List Ticket) (s : State) : State := onRouter (fun k => { k with tickets := ts }) s

/-- A record of the journal. -/
def record : Record := { number := 1, clock := { secs := 0, unset := true }, body := .lateAnswer 9 7 2500 .removed .approve }

/-- An envelope in the send queue. -/
def queued : OutEnvelope := { dst := broadcast, body := .reply .busy [] }

/-- A call to drop 1 (till 17 on line 1) in progress. -/
def calling : Call := { drop := 1, malformed := false, rate := 38400, window := 10, turn := 2 }

/-! A theorem proved by the kernel's evaluation holds a thread of Lean until all that stands above it is checked. Each
`seam` below is evaluated on the spot, so that a few theorems wait at a time, and not those of the whole file. -/

/-! ### Well-formed commands: one ill-formed command for each check -/

theorem test_wf_tag_zero : WellFormed (.authWaitExpiry 0) = false := by decide
theorem test_wf_tag_above : WellFormed (.authAnswerTaken 65536 .approve) = false := by decide
theorem test_wf_ticket_zero : WellFormed (.completion 0) = false := by decide
theorem test_wf_ticket_above : WellFormed (.recallOffer 65536) = false := by decide
theorem test_wf_ticket_edges : WellFormed (.completion 1) = true ∧ WellFormed (.recallOffer 65535) = true := by decide
theorem test_wf_frame_long :
    WellFormed (.control { frame 1 [] with payload := List.replicate 1501 0 }) = false := by decide +kernel
theorem test_wf_frame_edge :
    WellFormed (.keepalive { frame 4 [] with payload := List.replicate 1500 0 }) = true := by decide +kernel
theorem test_wf_memory_twice : WellFormed (.selfTestDone [.journal, .journal]) = false := by decide
theorem test_wf_no_answer : WellFormed (.slipFrame 0 []) = false := by decide
theorem test_wf_no_frame : WellFormed (.taken 0 []) = false := by decide

/-! ### The model's own work -/

theorem test_noWordSpells : decodeTableWord 32 0 = none := rfl
theorem test_withFetchWord (s : State) (nbits w : Nat) : s.withFetchWord nbits w = s := rfl
theorem test_idle : step State.reset = .next State.reset := rfl

/-- The frame that R173 and R174 give a QUERY of check 300: SOF, kind 7, number, checksum, EOF. -/
theorem test_queryFrame :
    readAnswer (plainChars [0xF1, 7, 0x01, 0x2C, 0xCC, 0xF2]) = .good 7 [0x01, 0x2C] := by decide +kernel

/-- A TAKEN of slot B, and a HELLO of a display (R176). -/
theorem test_stationFrames :
    readPort ([0xF1, 3, 1, 0xF3, 0x7C, 0xF2].map fun b => { data := b }) = [.frame (.taken .b)] ∧
    readPort ([0xF1, 7, 2, 0xF3, 0x77, 0xF2].map fun b => { data := b }) = [.frame (.hello .display)] := by decide +kernel

/-- A BUMP of ticket 0 is malformed; stray characters count one each; a HOLD in a frame does not disturb it. -/
theorem test_portDiscards :
    readPort (portChars [4, 0, 0]) = [.discard] ∧
    (after (.stationFrameDiscard 1 [{ data := 0x41 }, { data := 0x42 }]) venue).ports[1].badFrames = 2 ∧
    readPort ([0xF1, 6, 0xF8, 3, 0xF3, 0x77, 0xF2].map fun b => { data := b }) = [.frame (.fault 3)] := by decide +kernel

/-- READ STATIONS writes an EMPTY slot as no ticket and no mark, and a slot that is marked as its ticket and 1. -/
theorem test_slotBytes :
    fieldBytes (slotFields none) = [0, 0, 0xFF] ∧
    fieldBytes (slotFields (some { ticket := 258, ended := true, marked := true, timer := none })) = [1, 2, 1] := by
  decide +kernel

def seam1 : Fin 2 := ⟨1, by decide +kernel⟩

/-- A slip call takes the driver, sends the call character of drop 1 and releases the driver. -/
theorem test_slipCall :
    (after (.slipCall 1) (venue.onLine 1 fun l => { l with enabled := true })).out =
      [.driver 1 true 0, .till 1 [{ data := 2, addr := true, framingError := false }], .driver 1 false 2] := by
  decide +kernel

/-- The loss of the link ends a drain burst with the records sent so far. -/
theorem test_linkLossEndsBurst :
    let s := after .ethernetLinkLost (after .drainJournal (asked (.drainJournal 2)
      (onJournal (fun j => { j with records := [record] }) up)))
    s.sj.burst = none ∧ s.sj.records = [record] ∧ s.upc.run = none ∧ s.upc.sendQueue = [] := by decide +kernel

/-- READ ITEM of item 410 in an envelope: command 3, tag 5, flags 0, two operand bytes (R177, R178). -/
theorem test_readItemBlock :
    readBlocks 32 [3, 0, 5, 0, 0, 2, 0x01, 0x9A] = [.good 5 false (.readItem 410)] := by decide +kernel

/-- An ORDER of two burgers is 25.00, and takes the number 1. -/
theorem test_order :
    (after .order (slip 17 1 [1, 1, 1, 0x9A, 2, 0] venue)).ce.checks.map (fun c => (c.number, c.total, c.pickup))
      = [(1, 2500, 1)] := by decide +kernel

/-- Its line goes to station 1 on ticket 1, and its ASSEMBLY, ticket 2, waits at the expo station for one component. -/
theorem test_orderTickets :
    (after .order (slip 17 1 [1, 1, 1, 0x9A, 2, 0] venue)).kr.tickets.map
        (fun t => (t.number, t.kind, t.station, t.state, t.wait))
      = [(1, .normal, 1, .queued, 0), (2, .assembly, 0, .waiting, 1)] := by decide +kernel

/-- The ANSWER of an accepted ORDER waits for its till. -/
theorem test_orderAnswer :
    ((after .order (slip 17 1 [1, 1, 1, 0x9A, 2, 0] venue)).till 17).notices
      = [.answer 1 (some 1) (.accepted [.number (some 1), .amount 2500])] := by decide +kernel

def seam2 : Fin 3 := ⟨2, by decide +kernel⟩

/-- A CASH tender of 30.00 on a share of 25.00 pays it, with a change of 5.00. -/
theorem test_cash :
    let s := after .tender (slip 17 4 [0, 7, 1, 1, 0, 0, 0x0B, 0xB8] (serving plain venue))
    (s.ce.checks.map fun c => (c.state, c.shares.map Share.tendered)) = [(.paid, [2500])] ∧
    (s.till 17).notices = [.answer 4 (some 7) (.accepted [.index (some 1), .code 1, .code 1, .amount 2500, .amount 500,
      .number none, .amount 2500, .amount 2500, .code 3, .code 2])] := by decide +kernel

/-- A third miss makes a till ABSENT, with its event. -/
theorem test_thirdMiss :
    let s := after (.miss 1) ((onTill 17 (fun t => { t with misses := 2 }) venue).onLine 1
      (fun l => { l with enabled := true, call := some calling }))
    (s.till 17).present = false ∧
      s.upc.sendQueue.map OutEnvelope.body = [.event { secs := 0, unset := true } (.tillAbsent 17)] := by decide +kernel

/-- The clock rolls over at midnight. -/
theorem test_midnight :
    (after .venueClockTick { up with clock := { secs := 86399, unset := false } }).clock
      = { secs := 0, unset := false } := by decide +kernel

/-- A status request in a control envelope is answered by READ_STATUS. -/
theorem test_readStatus :
    let s := after .readStatus (after (.control (frame 1 [20, 0, 9, 0, 0, 0])) up)
    s.upc.run = none ∧ s.upc.sendQueue.length = 1 := by decide +kernel

/-! ### The machine: hypotheses that are met -/

theorem hyps_StepRunsFrontCommand :
    (∃ (c : Instr) (rest : List Instr) (s : State), s.pending = c :: rest) ∧ ∃ s : State, s.pending = [] :=
  ⟨⟨.powerOn, [], { up with pending := [.powerOn] }, rfl⟩, State.reset, rfl⟩

theorem hyps_EveryCommandCompletes : ∃ (c : Instr) (s t : State), exec c s = .next t := ⟨.powerOn, up, _, rfl⟩

/-- A check whose line waits in the Fire Backlog and whose share is AUTHORIZING, with a tick to come. -/
def dining : State :=
  let s := venue
    |> onEngine (fun e => { e with backlog := [{ check := 7, lines := [1] }] })
    |> onTender (fun u => { u with live := [entry 9 false 0] })
    |> onJournal (fun j => { j with reservations := 1 })
    |> serving (bill 7 [line 1 .firing] [waiting])
  { s with pending := [.venueClockTick] }

/-- Tickets in every place: 1 in a slot of printer 2; 2 SHOWN, 3 queued and 4 in the recall list at display 1, with the
VOID ticket 6 in the first part of its queue; ASSEMBLY 5, which waits for 2 at expo station 0. -/
def kitchen : State :=
  withTickets
    [ticket7 1 2 .sending, { ticket7 2 1 .shown with assembly := some 5 }, ticket7 3 1 .queued, ticket7 4 1 .bumped,
      { ticket7 5 0 .waiting with kind := .assembly, wait := 1 },
      { ticket7 6 1 .queued with kind := .void, original := some 2 }]
    (onStation 1 (fun x => { x with voidQ := [6], normalQ := [3], shown := [2], recallL := [4] })
      (onStation 2 (fun x => { x with cfg := { x.cfg with fallback := some 1 } })
        (onPort 2 (fun p => { p with slotA := some { ticket := 1, ended := false, marked := false, timer := none } })
          { venue with pending := [.venueClockTick] })))

theorem test_kitchenBounded : kitchen.QueuesBounded := by
  unfold State.QueuesBounded Rising
  decide +kernel

def seam3 : Fin 4 := ⟨3, by decide +kernel⟩

theorem test_kitchenPlaced : kitchen.TicketsPlaced :=
  ⟨by decide +kernel, State.mem_ticketsAt_iff (by decide +kernel) (by decide +kernel), by decide +kernel,
    by decide +kernel, by decide +kernel, by decide +kernel⟩

def seam4 : Fin 5 := ⟨4, by decide +kernel⟩

theorem hyps_QueuesStayBounded : kitchen.QueuesBounded ∧ ∃ t, step kitchen = .next t := ⟨test_kitchenBounded, _, rfl⟩

theorem hyps_PauseFollowsMarks : dining.PauseMatches ∧ ∃ t, step dining = .next t :=
  ⟨by unfold State.PauseMatches; decide +kernel, _, rfl⟩

theorem hyps_UplinkStaysSound : dining.UplinkSound ∧ ∃ t, step dining = .next t :=
  ⟨by unfold State.UplinkSound; decide +kernel, _, rfl⟩

/-- The part in STARTING, with the end of its self-test to come. -/
def testing : State := { State.reset with pending := [.venueClockTick] }

theorem hyps_StartingStaysQuiet :
    (testing.StartingQuiet ∧ testing.upc.part = .starting ∧ ∃ t, step testing = .next t) ∧ dining.StartingQuiet ∧
    dining.DriversReleased ∧ ∃ t, step dining = .next t :=
  ⟨⟨by unfold State.StartingQuiet; decide +kernel, rfl, _, rfl⟩, by unfold State.StartingQuiet; decide +kernel,
    by unfold State.DriversReleased; decide +kernel, _, rfl⟩

theorem test_noResetPends : dining.NoResetPends := fun r h => by
  have idle : dining.upc.run = none := rfl
  simp [idle] at h

theorem hyps_ReservationsMatchOwners :
    dining.NoResetPends ∧ dining.ReservationsMatch ∧ ∃ t, step dining = .next t :=
  ⟨test_noResetPends, by unfold State.ReservationsMatch Rising; decide +kernel, _, rfl⟩

theorem hyps_TicketsStandInOnePlace :
    kitchen.QueuesBounded ∧ kitchen.TicketsPlaced ∧ ∃ t, step kitchen = .next t :=
  ⟨test_kitchenBounded, test_kitchenPlaced, _, rfl⟩

def seam5 : Fin 6 := ⟨5, by decide +kernel⟩

theorem hyps_BillsStayBalanced : dining.BillsBalance ∧ ∃ t, step dining = .next t :=
  ⟨by unfold State.BillsBalance Rising Check.balanced; decide +kernel, _, rfl⟩

theorem hyps_CommandsKeepTheirFrames :
    (isWorkCommand .fireBacklogTry = true ∧ ∃ t, exec .fireBacklogTry dining = .next t) ∧
    (isStationCommand (.hold 0) = true ∧ ∃ t, exec (.hold 0) dining = .next t) ∧
    (isSlipCommand .query = true ∧ ∃ t, exec .query dining = .next t) :=
  ⟨⟨rfl, _, rfl⟩, ⟨rfl, _, rfl⟩, ⟨rfl, _, rfl⟩⟩

/-! ### Wire formats and counters -/

theorem hyps_SlipFrameReadBack : ∃ content : List Byte, content.length ≤ 240 ∧ 240 ≤ content.length :=
  ⟨List.replicate 240 0xFF, by decide +kernel⟩

theorem hyps_StationFramesAndEnvelopesReadBack :
    ((1 ≤ 1 ∧ 1 < 65536) ∧ (1 ≤ 65535 ∧ 65535 < 65536) ∧ 0 < 1 ∧ 255 < 256) ∧
    (∀ c ∈ ([{ data := 0x41 }, { data := chSOF, framingError := true }] : List PortChar),
      c.framingError = true ∨ (c.data ≠ chSOF ∧ c.data ≠ chHOLD ∧ c.data ≠ chGO)) ∧
    (∃ content : List Byte, content.length = 65535) ∧
    (Config.stationAddress = broadcast ∨ Config.stationAddress = Config.stationAddress) :=
  ⟨by decide, by decide, ⟨List.replicate 65535 0, List.length_replicate⟩, .inr rfl⟩

theorem hyps_NumbersGivenOutAreFree :
    (1 ≤ 1 ∧ 1 ≤ 1 ∧ ([] : List Nat).length < 1) ∧ (1 ≤ 9999 ∧ 9999 ≤ 9999 ∧ [9999, 1].length < 9999) ∧
    nextFree 9999 [9999, 1] 2 9999 = 2 := by decide

/-! ### Power, time and the uplink port -/

theorem hyps_SelfTestDecidesPartState :
    (State.reset.upc.part = .starting ∧ State.reset.upc.linkUp = false) ∧
    (let s := onUplink (fun u => { u with linkUp := true, sendQueue := List.replicate 63 queued }) State.reset
     s.upc.part = .starting ∧ s.upc.linkUp = true ∧ s.upc.sendQueue.length < 64) := by decide +kernel

theorem hyps_TickAdvancesClockAndTimers :
    (∃ s : State, s.clock.secs < 86399 ∧ s.clock.secs = 86398) ∧ (∃ s : State, s.clock.secs = 86399) ∧
    ∃ s : State, s.ports[0].hold = true ∧ s.ports[1].hold = false :=
  ⟨⟨{ up with clock := { secs := 86398, unset := false } }, by decide⟩,
    ⟨{ up with clock := { secs := 86399, unset := false } }, rfl⟩,
    onPort 0 (fun p => { p with hold := true }) up, by decide +kernel⟩

/-- A burst that waits for room. -/
def burst : Burst := { tag := 1, asked := 2, sent := 0, waiting := true }

/-- A burst that waits for room, the blocks behind its own, and the envelopes behind those. -/
def draining (rest : List Block) (more : List Waiting) : State :=
  onJournal (fun j => { j with records := [record], burst := some burst })
    (onUplink (fun u => { u with
        sendQueue := List.replicate 64 queued, waiting := more
        run := some { blocks := .good 1 false (.drainJournal 2) :: rest, linked := true, replies := [], skip := false,
                      reset := none } }) up)

theorem hyps_SendQueueFollowsTheLink :
    (up.sj.burst = none ∧ ∀ b ∈ up.sj.burst, b.waiting = false) ∧
    (let x : Waiting := { blocks := [.good 2 true .readStations], linked := false }
     ∀ s ∈ [draining [.good 2 true .readStatus, .bad 3 none] [x], draining [] [], draining [] [x, x]],
       s.sj.burst = some burst ∧ s.upc.part = .running ∧ burst.waiting = true ∧ s.upc.linkUp = true ∧
       s.upc.sendQueue.length ≤ 64 ∧ s.upc.sendQueue = queued :: List.replicate 63 queued ∧
       s.sj.records = record :: [] ∧
       ∀ r ∈ s.upc.run, r.blocks.head? = some (.good 1 false (.drainJournal 2)) ∧ r.skip = false ∧ r.reset = none) ∧
    (burst.sent + 1 < burst.asked ∧ ({ burst with asked := 1 } : Burst).asked ≤ burst.sent + 1) ∧
    (State.reset.upc.linkUp = false ∧ State.reset.upc.heldHello = none) ∧
    (after (.selfTestDone []) State.reset).upc.heldHello.isSome = true := by decide +kernel

/-- An uplink state with its progress and its recovery count, in a RUNNING part. -/
def uplinkIn (state : UplinkState) (progress needed : Nat) : State :=
  onUplink (fun u => { u with state := state, progress := progress, needed := needed, silence := some 6 }) up

theorem hyps_SilenceAndEnvelopesMoveTheUplink :
    ((uplinkIn .online 8 8).upc.silence = some 6 ∧ (uplinkIn .online 8 8).upc.limit ≤ 6 ∧
      (uplinkIn .online 8 8).upc.state ≠ .lost) ∧
    (let s := onUplink (fun u => { u with silence := some 5 }) up; s.upc.silence = some 5 ∧ 5 < s.upc.limit) ∧
    (uplinkIn .lost 0 8).upc.state = .lost ∧
    (readEnvelope (frame 4 []) = some (4, []) ∧ readEnvelope (frame 5 []) = some (5, []) ∧
      readEnvelope (frame 0 []) = some (0, []) ∧ (5 : Byte) ∉ [1, 2, 3, 4] ∧ (0 : Byte) ∉ [1, 2, 3, 4] ∧
      up.upc.part ≠ .starting) ∧
    1 < (uplinkIn .lost 0 2).upc.needed ∧
    ((uplinkIn .recovering 6 8).upc.state = .recovering ∧
      (uplinkIn .recovering 6 8).upc.progress + 1 < (uplinkIn .recovering 6 8).upc.needed) ∧
    (uplinkIn .lost 0 1).upc.needed ≤ 1 ∧
    (uplinkIn .recovering 7 8).upc.needed ≤ (uplinkIn .recovering 7 8).upc.progress + 1 := by decide +kernel

/-- `n` envelopes wait behind a running one. -/
def lined (n : Nat) : State :=
  onUplink (fun u => { u with waiting := List.replicate n { blocks := [], linked := true } }) (asked .readStatus up)

def seam6 : Fin 7 := ⟨6, by decide +kernel⟩

theorem hyps_ControlEnvelopesQueue :
    (up.upc.part ≠ .starting ∧ readEnvelope (frame 1 []) = some (1, []) ∧ up.upc.run = none ∧ up.upc.waiting = [] ∧
      up.upc.part = .running) ∧
    ((lined 3).upc.run.isSome = true ∧ (lined 3).upc.waiting.length < 4 ∧ 4 ≤ (lined 4).upc.waiting.length) ∧
    readEnvelope (frame 1 [20, 0, 9, 0, 0, 0]) = some (1, [20, 0, 9, 0, 0, 0]) ∧
    readBlocks 32 [20, 0, 9, 0, 0, 0] = .good 9 false .readStatus :: [] ∧
    (let s := onUplink (fun u => { u with part := .failed }) up
     s.upc.part ≠ .starting ∧ s.upc.part = .failed ∧ s.upc.run = none ∧ s.upc.waiting = []) ∧
    readBlocks 32 [15, 0, 9, 1, 0, 0] = [(9, true, ControlOp.readStations)].map (fun x => .good x.1 x.2.1 x.2.2) := by
  decide +kernel

/-- The intake holds `n` slips. -/
def crowded (n : Nat) : State :=
  { up with intake := { up.intake with slips := List.replicate n { source := .till 0, kind := 7, content := [] } } }

theorem hyps_RemoteOrdersJoinIntake :
    up.upc.part = .running ∧ readEnvelope (frame 2 [0, 0, 0, 5]) = some (2, 0 :: 0 :: 0 :: 5 :: []) ∧
    ((crowded 63).intake.slips.length < 64 ∧ (crowded 63).upc.part = .running) ∧
    64 ≤ (crowded 64).intake.slips.length := by decide +kernel

/-- An answer for a tag. -/
def answer (tag : Nat) : List Byte := bytesOf 2 tag ++ [1]

/-- The expired list holds this entry. -/
def expiredOne (tag : Nat) (o : ExpiryOutcome) : State :=
  onTender (fun u => { u with expired := [{ entry := entry tag false 20, outcome := o, age := 120 }] }) venue

theorem hyps_AuthAnswersAreMatchedByTag :
    (venue.upc.part = .running ∧ readEnvelope (frame 3 (answer 65535)) = some (3, answer 65535) ∧
      readAuthAnswer (answer 65535) = some (65535, .approve) ∧ readAuthAnswer (answer 1) = some (1, .approve)) ∧
    (∃ e ∈ dining.tu.live, e.tag = 9) ∧
    (let s := expiredOne 9 .removed
     (∀ x ∈ s.tu.live, x.tag ≠ 9) ∧ (s.tu.expired.find? fun x => x.entry.tag == 9).isSome = true) ∧
    (ExpiryOutcome.removed, Verdict.approve) ∈ [(ExpiryOutcome.removed, Verdict.approve), (.deferred, .decline), (.voided, .approve)] ∧
    (ExpiryOutcome.deferred, Verdict.approve) ∉
      [(ExpiryOutcome.removed, Verdict.approve), (.deferred, .decline), (.voided, .approve)] := by decide +kernel

theorem hyps_UnmatchedAnswersAreReported :
    (venue.upc.part = .running ∧ readEnvelope (frame 3 (answer 8)) = some (3, answer 8) ∧
      readAuthAnswer (answer 8) = some (8, .approve) ∧ (∀ e ∈ venue.tu.live, e.tag ≠ 8) ∧
      ∀ e ∈ venue.tu.expired, e.entry.tag ≠ 8) ∧
    (onEngine (fun e => { e with answers := [(8, .approve)] }) venue).ce.answers = (8, .approve) :: [] ∧
    (onUplink (fun u => { u with mask := 0 }) up).upc.enabled (.unknownTag 8 .approve) = false := by decide +kernel

/-! ### Control envelopes -/

/-- The running envelope holds these blocks; the link was up when it arrived. -/
def running (bs : List Block) (reset : Option Bool) : State :=
  onUplink (fun u => { u with run := some { blocks := bs, linked := true, replies := [], skip := false, reset := reset } }) up

theorem hyps_BlocksAreAnsweredInOrder :
    (let s := running [.good 1 false .readStatus, .good 2 true .readStations, .bad 3 none] none
     s.upc.run = some { blocks := .good 1 false .readStatus :: .good 2 true .readStations :: [.bad 3 none], linked := true,
                        replies := [], skip := false, reset := none } ∧ s.upc.part = .running ∧ s.upc.waiting = []) ∧
    (let s := onUplink (fun u => { u with waiting := [{ blocks := [.good 2 true .readStations], linked := false }] })
       (running [.good 1 true .readStatus] none)
     s.upc.waiting = { blocks := .good 2 true .readStations :: [], linked := false } :: [] ∧
       (true = false ∨ Result.ok = .ok ∨ Result.ok = .accepted)) ∧
    (let s := running [.good 1 true .readStatus, .bad 3 (some 200)] none
     s.upc.run.isSome = true ∧ s.upc.waiting = []) ∧
    (let s := running (.good 1 true (.readItem 1) :: [(2, true, ControlOp.readStatus)].map
        (fun x => .good x.1 x.2.1 x.2.2)) none
     s.upc.run.isSome = true ∧ s.upc.part = .running ∧ s.upc.waiting = [] ∧ Result.notFound ≠ .ok ∧
       Result.notFound ≠ .accepted) ∧
    (∀ more ∈ [[], [Block.good 3 false .readStatus]],
      let s := onUplink (fun u => { u with part := .failed }) (running (.good 1 false .readStatus ::
        ([(2, true, ControlOp.readStations)].map (fun x => .good x.1 x.2.1 x.2.2) ++ more)) none)
      s.upc.run.isSome = true ∧ s.upc.part = .failed ∧ s.upc.waiting = []) ∧
    ∀ x ∈ [(2, true, ControlOp.readStations)], x.2.2 ≠ .readStatus := by decide +kernel

theorem hyps_ServiceResetNeedsQuiet :
    (asked (.serviceReset 1) up).nextBlock = some (1, .serviceReset 1) ∧
    (asked (.serviceReset 0) venue).nextBlock = some (1, .serviceReset 0) ∧
    (venue.ce.stands[3].state = .opened ∧ ∀ sd < (3 : StandId), ¬ (venue.ce.stands[sd].state = .opened ∨
      venue.ce.stands[sd].state = .closing)) ∧
    (∀ sd : StandId, ¬ (up.ce.stands[sd].state = .opened ∨ up.ce.stands[sd].state = .closing)) ∧
    (onJournal (fun j => { j with records := [record] }) up).sj.records ≠ [] ∧
    0 < (onJournal (fun j => { j with reservations := 1 }) up).sj.reservations ∧
    (up.sj.records = [] ∧ up.sj.reservations = 0) := by decide +kernel

def seam7 : Fin 8 := ⟨7, by decide +kernel⟩

theorem hyps_ServiceResetClearsAndKeeps :
    (let s := running [.good 1 false (.serviceReset 1)] (some true)
     s.upc.run = some { blocks := [.good 1 false (.serviceReset 1)], linked := true, replies := [], skip := false,
                        reset := some true } ∧ s.upc.waiting = []) ∧
    (running [.good 1 false (.serviceReset 0)] (some false)).upc.run.isSome = true ∧
    (venue.kr.stations[0].cfg.loaded = true ∧ venue.kr.stations[7].cfg.loaded = false) := by decide +kernel

/-! ### Tables -/

/-- An item with every field at the edge of its range. -/
def edgeItem : Item :=
  { code := 65535, price := 99999, primary := 1, overflow := some 2, expo := true, stock := .count 65535 }

theorem hyps_LoadedItemsStand :
    (∀ i ∈ List.replicate 64 edgeItem, venue.itemFits i) ∧
    venue.ce.items.length + (List.replicate 64 edgeItem).length ≤ 2048 ∧
    (List.replicate 64 edgeItem).length + ([] : List ItemOperand).length ≤ 64 ∧
    (asked (.loadItems ((List.replicate 64 edgeItem).map Item.operand ++ [])) venue).nextBlock
      = some (1, .loadItems ((List.replicate 64 edgeItem).map Item.operand ++ [])) ∧
    (asked (.loadItems ([edgeItem].map Item.operand ++ [{ edgeItem.operand with code := 0 }])) venue).nextBlock
      = some (1, .loadItems ([edgeItem].map Item.operand ++ [{ edgeItem.operand with code := 0 }])) := by
  refine ⟨fun i hi => ?_, by decide +kernel, by decide +kernel, rfl, rfl⟩
  rw [List.eq_of_mem_replicate hi]
  refine ⟨by decide, by decide, by decide +kernel, by decide +kernel, fun n hn => ?_⟩
  cases hn
  decide

theorem hyps_ItemsAreDeletedAndCounted :
    ([410] ≠ [] ∧ (List.replicate 128 410).length ≤ 128 ∧ 0 ∉ [410] ∧
      (asked (.deleteItems [410]) venue).nextBlock = some (1, .deleteItems [410])) ∧
    (lookupBy Item.code 520 venue.ce.items = some fries ∧ fries.code ≠ 0 ∧
      (asked (.setStock 520 (stockValue (.count 0))) venue).nextBlock = some (1, .setStock 520 (stockValue (.count 0))) ∧
      fries.stock ≠ .count 0) ∧
    (let none_ : Item := { fries with stock := .count 0 }
     lookupBy Item.code 520 [burger, none_] = some none_ ∧ none_.stock = .count 0 ∧ Stock.count 65535 ≠ .count 0) ∧
    (fries.stock = .count 0 ↔ Stock.uncounted = .count 0) := by decide +kernel

/-- Station settings at the edges of their ranges. -/
def edgeCfg : StationCfg :=
  { loaded := true, kind := .display, rate := 115200, divertLevel := 128, returnLevel := 127, fallback := some 1,
    takenTimeout := 30, holdLimit := 300, goAny := true }

/-- Those settings as a control block carries them, and settings at their defaults. -/
def edgeOp : StationOperand :=
  { station := 5, kind := 2, rate := 115200, divertLevel := 128, returnLevel := 127, fallback := 1,
    takenTimeout := 30, holdLimit := 300, goAny := 1 }
def plainOp (st kind : Nat) : StationOperand :=
  { station := st, kind := kind, rate := 19200, divertLevel := 0, returnLevel := 0, fallback := 0xFF,
    takenTimeout := 0xFFFF, holdLimit := 0xFFFF, goAny := 0xFF }

def seam8 : Fin 9 := ⟨8, by decide +kernel⟩

theorem hyps_StandAndStationLoadsApply :
    (50000 ≤ 50000 ∧ (∀ x ∈ some (0 : StationId), venue.kr.stations[x].cfg.loaded = true ∧
        venue.kr.stations[x].cfg.kind = .expo) ∧
      (asked (.loadStand 3 2 0 50000) venue).nextBlock
        = some (1, .loadStand (3 : StandId).val (policyByte .fireOnPay) (optStationByte (some 0)) 50000) ∧
      (∀ c ∈ venue.ce.checks, c.stand ≠ 3)) ∧
    (let s := serving plain venue
     (∃ c ∈ s.ce.checks, c.stand = 3) ∧ ¬ (s.ce.stands[(3 : StandId)].policy = .fireOnPay ∧
       s.ce.stands[(3 : StandId)].expo = some 0)) ∧
    (venue.kr.stations[5].cfg.loaded = false ∧ venue.kr.stations[2].cfg.loaded = true ∧
      (asked (.loadStation edgeOp) venue).nextBlock = some (1, .loadStation edgeOp)) := by decide +kernel

theorem test_settingsAreWritten :
    edgeCfg.writtenAs 5 edgeOp ∧ edgeCfg.writtenAs 2 { edgeOp with station := 2 } ∧
    (kindCfg .display).writtenAs 0 (plainOp 0 2) ∧ (kindCfg .expo).writtenAs 2 (plainOp 2 3) := by
  unfold StationCfg.writtenAs
  decide +kernel

/-- For each field of LOAD STATION a value that fails first. -/
theorem hyps_StationFieldsAreJudged :
    let absent := fun (o : StationOperand) => if o.takenTimeout = 0xFFFF then 5 else o.takenTimeout
    let hold := fun (o : StationOperand) => if o.holdLimit = 0xFFFF then 60 else o.holdLimit
    let relies := fun (o : StationOperand) (x : StationId) => o.fallback = x.val ∧ x ≠ 5 ∧
      venue.kr.stations[x].cfg.loaded = true ∧ (venue.kr.stations[x].cfg.kind = .expo ↔ o.kind = 3)
    8 ≤ ({ edgeOp with station := 8 } : StationOperand).station ∧ edgeOp.station = (5 : StationId).val ∧
    ({ edgeOp with kind := 0 } : StationOperand).kind ∉ [1, 2, 3] ∧ edgeOp.kind ∈ [1, 2, 3] ∧
    ({ edgeOp with rate := 9600 } : StationOperand).rate ∉ [19200, 38400, 57600, 115200] ∧
    edgeOp.rate ∈ [19200, 38400, 57600, 115200] ∧
    128 < ({ edgeOp with divertLevel := 129 } : StationOperand).divertLevel ∧ edgeOp.divertLevel ≤ 128 ∧
    (¬ (({ plainOp 5 2 with returnLevel := 1 } : StationOperand).returnLevel = 0) ∧
      ¬ (({ edgeOp with returnLevel := 128 } : StationOperand).returnLevel < edgeOp.divertLevel) ∧
      edgeOp.returnLevel < edgeOp.divertLevel) ∧
    (absent { edgeOp with takenTimeout := 0 } < 1 ∧ 30 < absent { edgeOp with takenTimeout := 31 } ∧
      absent (plainOp 5 2) = 5 ∧ absent edgeOp ≤ 30) ∧
    (hold { edgeOp with holdLimit := 4 } < 5 ∧ 300 < hold { edgeOp with holdLimit := 301 } ∧ hold (plainOp 5 2) = 60 ∧
      hold edgeOp ≤ 300) ∧
    (({ edgeOp with goAny := 2 } : StationOperand).goAny ∉ [0, 1, 0xFF] ∧ edgeOp.goAny ∈ [0, 1, 0xFF]) ∧
    (∀ f ∈ [5, 7, 0, 8], ({ edgeOp with fallback := f } : StationOperand).fallback ≠ 0xFF ∧
      ∀ x, ¬ relies { edgeOp with fallback := f } x) ∧ relies edgeOp 1 := by decide +kernel

theorem hyps_StationSettingsFit : venue.settingsFit 2 edgeCfg ∧ venue.settingsFit 5 edgeCfg := by
  unfold State.settingsFit
  refine ⟨⟨rfl, by decide, by decide, by decide, by decide, by decide, by decide, by decide, by decide, fun x hx => ?_⟩,
    rfl, by decide, by decide, by decide, by decide, by decide, by decide, by decide, by decide, fun x hx => ?_⟩ <;>
  · cases hx
    decide +kernel

theorem test_plainSettingsFit : venue.settingsFit 0 (kindCfg .display) ∧ venue.settingsFit 2 (kindCfg .expo) := by
  unfold State.settingsFit
  exact ⟨⟨rfl, by decide, by decide, by decide, by decide, by decide, by decide, by decide, by decide, nofun⟩,
    rfl, by decide, by decide, by decide, by decide, by decide, by decide, by decide, by decide, nofun⟩

/-- A change of kind under each condition of R16 alone, and under none. -/
theorem hyps_StationKindsChange :
    let held := fun (s : State) (st : StationId) => ∃ k ∈ s.kr.tickets, k.station = st
    let named := fun (s : State) (st : StationId) (c : StationCfg) =>
      c.kind = .expo ∧ ∃ i ∈ s.ce.items, i.primary = st ∨ i.overflow = some st
    let gathers := fun (s : State) (st : StationId) => s.kr.stations[st].cfg.kind = .expo ∧
      ∃ sd : StandId, s.ce.stands[sd].loaded = true ∧ s.ce.stands[sd].expo = some st
    let relied := fun (s : State) (st : StationId) (c : StationCfg) =>
      (s.kr.stations[st].cfg.kind = .expo ↔ c.kind ≠ .expo) ∧
        ∃ x, x ≠ st ∧ s.kr.stations[x].cfg.loaded = true ∧ s.kr.stations[x].cfg.fallback = some st
    (∀ st : StationId, st < 3 → venue.kr.stations[st].cfg.loaded = true) ∧
    venue.kr.stations[2].cfg.kind ≠ edgeCfg.kind ∧ venue.kr.stations[0].cfg.kind ≠ .display ∧
    held (withTickets [ticket7 1 2 .queued] venue) 2 ∧
    (¬ held venue 2 ∧ named venue 2 (kindCfg .expo)) ∧
    (¬ held venue 0 ∧ ¬ named venue 0 (kindCfg .display) ∧ gathers venue 0) ∧
    (let s := onEngine (fun e => { e with items := [burger] })
       (onStation 1 (fun x => { x with cfg := { x.cfg with fallback := some 2 } }) venue)
     ¬ held s 2 ∧ ¬ named s 2 (kindCfg .expo) ∧ ¬ gathers s 2 ∧ relied s 2 (kindCfg .expo)) ∧
    (¬ held venue 2 ∧ ¬ named venue 2 edgeCfg ∧ ¬ gathers venue 2 ∧ ¬ relied venue 2 edgeCfg) := by decide +kernel

/-- The settings of a display that keep its kind, at a station with `n` tickets queued and a divert state. -/
def queueOf (n : Nat) (diverting : Bool) : State :=
  onStation 1 (fun t => { t with normalQ := List.replicate n 1, diverting := diverting }) venue

theorem hyps_StationLoadsCompareTheBacklog :
    let b := fun (s : State) => s.backlogOf 1
    let c : StationCfg := { kindCfg .display with divertLevel := 12, returnLevel := 6 }
    c.fallback = none ∧ (queueOf 0 false).kr.stations[1].cfg.kind = c.kind ∧
    ((queueOf 12 false).kr.stations[1].diverting = false ∧ 12 ≤ b (queueOf 12 false)) ∧
    ((queueOf 6 true).kr.stations[1].diverting = true ∧ b (queueOf 6 true) ≤ 6) ∧
    b (queueOf 11 false) < 12 ∧ 6 < b (queueOf 7 true) := by decide +kernel

def seam9 : Fin 10 := ⟨9, by decide +kernel⟩

theorem hyps_ReadsChangeNothing :
    (lookupBy Item.code 410 venue.ce.items = some burger ∧ burger.code ≠ 0 ∧
      (asked (.readItem 410) venue).nextBlock = some (1, .readItem burger.code)) ∧
    (lookupBy Item.code 65535 venue.ce.items = none ∧
      (asked (.readItem 65535) venue).nextBlock = some (1, .readItem 65535)) ∧
    (asked (.readTills 3) venue).nextBlock = some (1, .readTills (3 : LineId).val) ∧
    (lookupBy Check.number 7 (serving plain venue).ce.checks = some plain ∧
      (asked (.queryCheck 7) (serving plain venue)).nextBlock = some (1, .queryCheck plain.number)) ∧
    (lookupBy Check.number 8 (serving plain venue).ce.checks = none ∧
      (asked (.queryCheck 8) (serving plain venue)).nextBlock = some (1, .queryCheck 8)) ∧
    (asked .readStations venue).nextBlock = some (1, .readStations) ∧
    (asked .readStatus venue).nextBlock = some (1, .readStatus) := by decide +kernel

/-! ### Till lines and the intake, as the host sets them -/

theorem hyps_TillSettingsApply :
    ((asked (.loadLine 3 1 230400 50 15) venue).nextBlock = some (1, .loadLine (3 : LineId).val (flagByte true) 230400 50 15) ∧
      (asked (.loadLine 0 0 38400 2 0) venue).nextBlock = some (1, .loadLine (0 : LineId).val (flagByte false) 38400 2 0) ∧
      venue.lines[3].enabled = false) ∧
    (let e : TillEntry := { till := 63, enabled := true, stand := 15, role := .supervisor }
     (asked (.loadTill [e.operand]) venue).nextBlock = some (1, .loadTill [e.operand]) ∧ (venue.till e.till).enabled = false ∧
       (asked (.loadTill ((List.replicate 64 e).map TillEntry.operand)) venue).nextBlock
         = some (1, .loadTill ((List.replicate 64 e).map TillEntry.operand))) ∧
    (let e : TillEntry := { till := 17, enabled := false, stand := 3, role := .cashier }
     (asked (.loadTill [e.operand]) venue).nextBlock = some (1, .loadTill [e.operand]) ∧ (venue.till e.till).enabled = true) ∧
    ((asked (.setIntakeMarks 8 7) venue).nextBlock = some (1, .setIntakeMarks 8 7) ∧
      (asked (.setIntakeMarks 56 0) (crowded 57)).nextBlock = some (1, .setIntakeMarks 56 0) ∧
      (crowded 57).intake.paused = false ∧ 56 ≤ (crowded 57).intake.slips.length) := by decide +kernel

/-! ### Slips -/

theorem hyps_SlipsEndWithOneAnswer :
    (∀ k ∈ ([0, 1, 2, 3, 4, 5, 6, 7, 8, 255] : List Byte),
      (slip 17 k [] venue).intake.slips = { source := .till 17, kind := k, content := [] } :: []) ∧
    (remoteSlip 5 [] venue).intake.slips = { source := .remote 5, kind := 0, content := [] } :: [] := by decide +kernel

theorem hyps_QueriesAnswerAndChangeNothing :
    ((slip 17 7 (bytesOf 2 1) venue).headSlip 17 7 (bytesOf 2 1) [] ∧ ∀ c ∈ venue.ce.checks, c.number ≠ 1) ∧
    (slip 17 7 (bytesOf 2 65535) venue).headSlip 17 7 (bytesOf 2 65535) [] ∧
    ((serving plain venue).hasCheck 7 plain ∧ ¬ (serving plain venue).mayAct 18 plain ∧
      (serving plain venue).mayAct 17 plain ∧ (serving plain venue).mayAct 36 plain) := by
  unfold State.headSlip State.hasCheck State.mayAct
  decide +kernel

/-- The lines of an ORDER of two burgers. -/
def twoBurgers : List SlipLine := [{ item := 410, qty := 2, mods := [] }]

/-- Its content: notify, one line (R174). -/
def orderBytes : List Byte := [1, 1, 1, 0x9A, 2, 0]

theorem test_canSellBurgers : venue.canSell twoBurgers := by
  refine ⟨fun l hl => ⟨burger, ?_⟩, fun l hl i k hi hk => ?_⟩
  all_goals obtain rfl : l = { item := 410, qty := 2, mods := [] } := by simpa [twoBurgers] using hl
  · decide +kernel
  · have : lookupBy Item.code 410 venue.ce.items = some burger := by decide +kernel
    rw [this] at hi
    cases hi
    cases hk

def seam10 : Fin 11 := ⟨10, by decide +kernel⟩

theorem hyps_OrdersOpenChecks :
    ((slip 17 1 orderBytes venue).headSlip 17 1 orderBytes [] ∧ readOrder orderBytes = .ok (true, twoBurgers) ∧
      venue.ce.stands[(venue.till 17).stand].state = .opened ∧ venue.canSell twoBurgers ∧
      venue.priceOf twoBurgers ≤ 99999999 ∧ venue.ce.checks.length < 512 ∧ 1 ≤ venue.sj.free) ∧
    readRemote ([3, 0, 0, 0x09, 0xC4] ++ orderBytes.tail) = .ok (3, venue.priceOf twoBurgers, twoBurgers) :=
  ⟨⟨rfl, by decide +kernel, by decide +kernel, test_canSellBurgers, by decide +kernel, by decide +kernel,
    by decide +kernel⟩, by decide +kernel⟩

/-- A full Check Table, as long as its length is looked at. -/
def fullTable : State := onEngine (fun e => { e with checks := List.replicate 512 plain }) venue

def seam11 : Fin 12 := ⟨11, by decide +kernel⟩

/-- What the refusals of an ORDER and a remote order ask of the state and the content. -/
theorem hyps_SlipsAreTestedInOrder :
    ((slip 17 1 [] venue).headSlip 17 1 [] [] ∧ readOrder [] = .error none) ∧
    (onStand 3 (fun d => { d with state := .closing }) venue).ce.stands[(venue.till 17).stand].state = .closing ∧
    (onStand 3 (fun d => { d with state := .closed }) venue).ce.stands[(venue.till 17).stand].state = .closed ∧
    ((∀ l ∈ twoBurgers, (lookupBy Item.code l.item venue.ce.items).isSome) ∧
      lookupBy Item.code 411 venue.ce.items = none ∧
      readOrder [0, 2, 1, 0x9A, 2, 0, 1, 0x9B, 1, 0]
        = .ok (false, twoBurgers ++ { item := 411, qty := 1, mods := [] } :: [])) ∧
    (let ls : List SlipLine := twoBurgers ++ { item := 520, qty := 13, mods := [] } :: []
     readOrder [0, 2, 1, 0x9A, 2, 0, 2, 8, 13, 0] = .ok (false, ls) ∧
     (∀ l ∈ ls, (lookupBy Item.code l.item venue.ce.items).isSome) ∧
     (ls.filter fun l => twoBurgers.any fun g => g.item == l.item) = twoBurgers ∧
     lookupBy Item.code 520 venue.ce.items = some fries ∧ fries.stock = .count 12 ∧
     12 < ((ls.filter fun l => l.item == 520).map SlipLine.qty).sum) ∧
    512 ≤ fullTable.ce.checks.length ∧
    (onJournal (fun j => { j with reservations := 2048 }) venue).sj.free = 0 ∧
    (∀ r ∈ [readRemote [], readRemote [16, 0, 0, 0, 0]], r = .error none) ∧
    (readRemote ([3, 0, 0, 0x09, 0xC5] ++ orderBytes.tail) = .ok (3, 2501, twoBurgers) ∧
      2501 ≠ venue.priceOf twoBurgers) ∧
    readRemote ([3, 0xFF, 0xFF, 0xFF, 0xFF] ++ orderBytes.tail) = .ok (3, 4294967295, twoBurgers) := by
  unfold State.headSlip
  decide +kernel

/-- A check with `n` HELD lines, and one with a share PAID and one DUE. -/
def longBill (n : Nat) : Check := bill 7 ((List.range n).map fun i => line (i + 1) .held) [Share.new 1 (n * 2500)]
def halfPaid : Check :=
  bill 7 [line 1 .held] [{ Share.new 1 1000 with tendered := 1000, state := .paid }, Share.new 2 1500]

/-- What the refusals of ADD, VOID LINE and VOID CHECK ask of the check. -/
theorem hyps_LineSlipsAreTested :
    (readAdd [0, 7] = .error none ∧ namedCheck [0, 7] = some 7 ∧ readAdd ([0, 7] ++ orderBytes.tail) = .ok (7, twoBurgers)) ∧
    ((∀ c ∈ venue.ce.checks, c.number ≠ 7) ∧ (serving plain venue).hasCheck 7 plain ∧
      ¬ (serving plain venue).mayAct 18 plain ∧ (serving plain venue).mayAct 17 plain) ∧
    (∃ x ∈ authorizing.shares, x.tenders ≠ []) ∧
    (24 < (longBill 24).lines.length + twoBurgers.length ∧ (longBill 23).lines.length + twoBurgers.length ≤ 24 ∧
      99999999 < ({ plain with total := 99997500 } : Check).total + venue.priceOf twoBurgers) ∧
    (readVoidLine [0, 7] = none ∧ readVoidLine [0, 7, 255] = some (7, 255)) ∧
    (∀ l ∈ (bill 7 [line 1 .voided] []).lines, l.index = 1 → l.state = .voided) ∧
    (∀ l ∈ plain.lines, l.index = 255 → l.state = .voided) ∧
    ((line 1 .done).state = .done ∧ (line 1 .fired).state = .fired ∧ (line 1 .cooked).state = .cooked ∧
      ((serving plain venue).till 17).role = .cashier ∧ ((serving plain venue).till 36).role = .supervisor) ∧
    (let s := withTickets (List.replicate 1024 (ticket7 1 1 .shown)) (serving
        (bill 7 [{ line 1 .fired with ticket := some 1 }] [Share.new 1 2500]) venue)
     s.work.kitchenVoid (bill 7 [] []) [{ line 1 .fired with ticket := some 1 }] = none) ∧
    (readCheckNumber [0] = none ∧ readCheckNumber [0, 7] = some 7) := by
  unfold State.hasCheck State.mayAct
  decide +kernel

/-- What the refusals of SPLIT and TENDER ask of the check: each test with all before it passed. -/
theorem hyps_ShareSlipsAreTested :
    (readSplit [0, 7] = none ∧ Rising Share.index halfPaid.shares ∧ Rising Line.index (longBill 2).lines) ∧
    (waiting ∈ authorizing.shares ∧ waiting.state = .authorizing ∧ ∀ y ∈ authorizing.shares, waiting.index ≤ y.index) ∧
    (let x : Share := { Share.new 1 2500 with tendered := 1 }
     ∀ y ∈ (bill 7 [line 1 .held] [x]).shares, y.state ≠ .authorizing ∧ 0 < y.tendered ∧ y.state ≠ .paid) ∧
    (let c := bill 7 [line 1 .held] [{ Share.new 1 2500 with tendered := 2500, state := .paid }]
     (∀ y ∈ c.shares, ¬ (0 < y.tendered ∧ y.state ≠ .paid)) ∧ c.balance = 0 ∧
     0 < c.shares.countP fun x => decide (x.state = .paid)) ∧
    ((∀ y ∈ halfPaid.shares, ¬ (0 < y.tendered ∧ y.state ≠ .paid)) ∧ 0 < halfPaid.balance ∧
      (halfPaid.shares.countP fun x => decide (x.state = .paid)) = 1 ∧ 8 < 1 + (SplitOperand.even 8).shares ∧
      (SplitOperand.byAmount [1, 2]).shares ≤ 7 ∧ [1, 2].sum ≠ halfPaid.balance) ∧
    ((plain.shares.countP fun x => decide (x.state = .paid)) = 0 ∧
      (let names := fun (c : Check) (i : Nat) => ∃ l ∈ c.lines, l.index = i ∧ l.state ≠ .voided
       names plain 1 ∧ ¬ names plain 2 ∧ names (longBill 2) 2 ∧ ¬ names (bill 7 [line 1 .voided] []) 1) ∧
      readSplit [0, 7, 2, 1, 2, 1, 1, 1, 1] = some (7, .byLine 1 ([(1, 1)] ++ (1, 1) :: [])) ∧
      1 ∈ [((1 : Nat), (1 : Nat))].map Prod.fst ∧ 1 < 2 ∧
      (∀ e ∈ [((1 : Nat), (1 : Nat))], e.1 ≠ 2) ∧ ∀ e ∈ [((1 : Nat), (1 : Nat))], e.2 ≠ 2) ∧
    (readTender [0, 7] = none ∧ lookupBy Share.index 8 plain.shares = none ∧
      lookupBy Share.index 1 halfPaid.shares = some { Share.new 1 1000 with tendered := 1000, state := .paid } ∧
      lookupBy Share.index 1 authorizing.shares = some waiting ∧
      (let z : Tender := { kind := .cash, amount := 1, state := .applied, tag := none }
       3 ≤ ({ Share.new 1 2500 with tendered := 3, tenders := [z, z, z] } : Share).tenders.length) ∧
      (Share.new 1 2500).due - (Share.new 1 2500).tendered < 2501) := by
  unfold Rising
  decide +kernel

/-- Twelve lines of 99 of an item at the highest price are above the largest amount. -/
theorem hyps_OrdersTooLarge :
    let dear : Item := { burger with price := 99999 }
    let ls : List SlipLine := List.replicate 12 { item := 410, qty := 99, mods := [] }
    99999999 < (onEngine (fun e => { e with items := [dear] }) venue).priceOf ls := by decide +kernel

theorem test_plainBalances : (serving plain venue).BillsBalance := by
  unfold State.BillsBalance Rising Check.balanced
  decide +kernel

/-- A check whose one line is FIRED on ticket 1. -/
def cooking : Check := bill 7 [{ line 1 .fired with ticket := some 1 }] [Share.new 1 2500]

def seam12 : Fin 13 := ⟨12, by decide +kernel⟩

theorem hyps_LineChangesDissolveSplits :
    ((slip 17 2 ([0, 7] ++ orderBytes.tail) (serving plain venue)).headSlip 17 2 ([0, 7] ++ orderBytes.tail) [] ∧
      readAdd ([0, 7] ++ orderBytes.tail) = .ok (7, twoBurgers) ∧ (serving plain venue).hasCheck 7 plain ∧
      (serving plain venue).mayAct 17 plain ∧ (serving plain venue).BillsBalance ∧ (∀ x ∈ plain.shares, x.tenders = []) ∧
      plain.lines.length + twoBurgers.length ≤ 24 ∧ plain.total + venue.priceOf twoBurgers ≤ 99999999) ∧
    (readVoidLine [0, 7, 1] = some (7, 1) ∧ line 1 .held ∈ plain.lines ∧ (line 1 .held).state ≠ .voided) ∧
    (let s := withTickets [ticket7 1 1 .queued] (serving cooking venue)
     (s.work.kitchenVoid cooking cooking.lines).isSome = true ∧ (s.till 36).role = .supervisor) ∧
    (let s := withTickets (List.replicate 1024 (ticket7 1 1 .shown)) (serving cooking venue)
     s.work.kitchenVoid cooking cooking.lines = none) :=
  ⟨⟨rfl, by decide +kernel, by unfold State.hasCheck; decide +kernel, by unfold State.mayAct; decide +kernel,
    test_plainBalances, by decide +kernel, by decide +kernel, by decide +kernel⟩, by decide +kernel, by decide +kernel,
    by decide +kernel⟩

def seam13 : Fin 14 := ⟨13, by decide +kernel⟩

theorem hyps_VoidedChecksLeaveARecord :
    ((serving plain venue).hasCheck 7 plain ∧ (serving plain venue).BillsBalance ∧
      readCheckNumber [0, 7] = some 7 ∧ ((serving plain venue).till 36).role = .supervisor ∧
      (asked (.voidCheck 7) (serving plain venue)).nextBlock = some (1, .voidCheck 7)) ∧
    ((serving plain venue).work.kitchenVoid plain []).isSome = true :=
  ⟨⟨by unfold State.hasCheck; decide +kernel, test_plainBalances, by decide +kernel, by decide +kernel,
    by decide +kernel⟩, by decide +kernel⟩

def seam14 : Fin 15 := ⟨14, by decide +kernel⟩

theorem hyps_SplitsShareTheBalance :
    ((serving plain venue).hasCheck 7 plain ∧ (serving plain venue).mayAct 17 plain ∧
      (plain.lines.map Line.index).Nodup) ∧
    (readSplit [0, 7, 1, 8] = some (7, .even 8) ∧ plain.splitFits (.even 8) ∧ 0 < plain.dueOf (.even 8) 7) ∧
    (readSplit [0, 7, 1, 1] = some (7, .even 1) ∧ plain.splitFits (.even 1)) ∧
    (readSplit [0, 7, 2, 1, 1, 1, 1] = some (7, .byLine 1 [(1, 1)]) ∧ plain.splitFits (.byLine 1 [(1, 1)]) ∧
      0 < plain.dueOf (.byLine 1 [(1, 1)]) 0) ∧
    (readSplit [0, 7, 3, 2, 0, 0, 0, 1, 0, 0, 9, 0xC3] = some (7, .byAmount [1, 2499]) ∧
      plain.splitFits (.byAmount [1, 2499]) ∧ 0 < plain.dueOf (.byAmount [1, 2499]) 1) := by
  refine ⟨⟨by unfold State.hasCheck; decide +kernel, by unfold State.mayAct; decide +kernel, by decide⟩,
    ⟨by decide +kernel, by unfold Check.splitFits; decide +kernel, by decide +kernel⟩,
    ⟨by decide +kernel, by unfold Check.splitFits; decide +kernel⟩,
    ⟨by decide +kernel, ⟨by decide +kernel, by decide +kernel, by decide +kernel, by decide +kernel, by decide +kernel,
      by decide +kernel, by decide +kernel, by decide +kernel, by decide +kernel, fun g h1 h2 => ?_⟩, by decide +kernel⟩,
    by decide +kernel, by unfold Check.splitFits; decide +kernel, by decide +kernel⟩
  obtain rfl : g = 1 := by omega
  decide

def seam15 : Fin 16 := ⟨15, by decide +kernel⟩

theorem hyps_CashTendersGiveChange :
    let s := slip 17 4 (bytesOf 2 7 ++ bytesOf 1 1 ++ bytesOf 1 1 ++ bytesOf 4 99999999) (serving plain venue)
    s.headSlip 17 4 (bytesOf 2 7 ++ bytesOf 1 1 ++ bytesOf 1 1 ++ bytesOf 4 99999999) [] ∧ s.hasCheck 7 plain ∧
    s.mayAct 17 plain ∧ lookupBy Share.index 1 plain.shares = some (Share.new 1 2500) ∧
    (Share.new 1 2500).state = .due ∧ (Share.new 1 2500).tenders.length < 3 ∧ (1 ≤ 99999999 ∧ 99999999 ≤ 99999999) := by
  unfold State.headSlip State.hasCheck State.mayAct
  decide +kernel

theorem hyps_CardTendersTakeTheirPath :
    (let s := slip 17 4 (bytesOf 2 7 ++ bytesOf 1 1 ++ bytesOf 1 2 ++ bytesOf 4 2500) (serving plain venue)
     s.headSlip 17 4 (bytesOf 2 7 ++ bytesOf 1 1 ++ bytesOf 1 2 ++ bytesOf 4 2500) [] ∧ s.hasCheck 7 plain ∧
     s.mayAct 17 plain ∧ 2500 ≤ (Share.new 1 2500).due - (Share.new 1 2500).tendered ∧
     s.upc.state ≠ .online ∧ 2500 ≤ s.ce.stands[plain.stand].floor) ∧
    venue.ce.stands[plain.stand].floor < 2501 ∧
    (let s := onUplink (fun u => { u with state := .online }) venue
     s.upc.state = .online ∧ s.tu.live.length < 32 ∧ 1 ≤ s.sj.free) ∧
    32 ≤ (onTender (fun u => { u with live := List.replicate 32 (entry 9 false 0) }) venue).tu.live.length ∧
    (onJournal (fun j => { j with reservations := 2048 }) venue).sj.free = 0 := by
  unfold State.headSlip State.hasCheck State.mayAct
  decide +kernel

/-! ### Authorizations -/

/-- Check 7 waits for the answer to tag 9. -/
def waitingFor (orphan : Bool) (elapsed : Nat) : State :=
  onTender (fun u => { u with live := [entry 9 orphan elapsed] })
    (onEngine (fun e => { e with answers := [(9, .approve), (9, .decline)] }) (serving authorizing venue))

theorem hyps_AuthAnswersSettleTenders :
    (let s := waitingFor true 0
     (9, .approve) ∈ s.ce.answers ∧ (9, .decline) ∈ s.ce.answers ∧
       lookupBy AuthEntry.tag 9 s.tu.live = some (entry 9 true 0) ∧ (entry 9 true 0).orphan = true) ∧
    (let s := waitingFor false 0
     lookupBy AuthEntry.tag 9 s.tu.live = some (entry 9 false 0) ∧ (entry 9 false 0).orphan = false ∧
       s.hasCheck 7 authorizing ∧ lookupBy Share.index 1 authorizing.shares = some waiting) := by
  unfold State.hasCheck
  decide +kernel

theorem hyps_AuthExpiriesMoveEntries :
    (lookupBy AuthEntry.tag 9 (waitingFor true 19).tu.live = some (entry 9 true 19) ∧
      (entry 9 true 19).wait.elapsed < (entry 9 true 19).wait.limit) ∧
    (entry 9 true 20).wait.limit ≤ (entry 9 true 20).wait.elapsed ∧
    (waitingFor true 20).tu.expired.length < 32 ∧
    32 ≤ (onTender (fun u => { u with expired := List.replicate 32 { entry := entry 8 true 20, outcome := .voided, age := 0 } })
      (waitingFor true 20)).tu.expired.length ∧
    (lookupBy AuthEntry.tag 9 (waitingFor false 20).tu.live = some (entry 9 false 20) ∧
      (waitingFor false 20).hasCheck 7 authorizing ∧ lookupBy Share.index 1 authorizing.shares = some waiting) := by
  unfold State.hasCheck
  decide +kernel

theorem hyps_LateWindowsDropEntries :
    (let s := expiredOne 9 .removed
     s.tu.expired = { entry := entry 9 false 20, outcome := .removed, age := 120 } :: [] ∧ s.tu.lateWindow ≤ 120) ∧
    (119 < venue.tu.lateWindow) ∧
    ((asked (.setAuthTimes 5 10) venue).nextBlock = some (1, .setAuthTimes 5 10) ∧
      (asked (.setAuthTimes 60 600) venue).nextBlock = some (1, .setAuthTimes 60 600)) ∧
    (let e : ExpiredEntry := { entry := entry 9 false 20, outcome := .removed, age := 120 }
     (expiredOne 9 .removed).tu.expired = [e] ++ [] ∧ (∀ x ∈ [e], 120 ≤ x.age) ∧ ∀ x ∈ [e], x.age < 121) := by
  decide +kernel

/-! ### The kitchen -/

/-- Check 7 with its line FIRING at the head of the Fire Backlog, which is offered a try. -/
def backlogged : State :=
  onEngine (fun e => { e with backlog := [{ check := 7, lines := [1] }], tryOffered := true })
    (serving (bill 7 [line 1 .firing] [Share.new 1 2500]) venue)

theorem hyps_BacklogTryMakesTickets :
    (let c := bill 7 [line 1 .firing] [Share.new 1 2500]
     let plan := backlogged.work.plan c c.lines
     backlogged.ce.tryOffered = true ∧ backlogged.hasCheck 7 c ∧ (c.lines.map Line.index).Nodup ∧
     backlogged.ce.backlog = [{ check := 7, lines := [1] }] ∧ backlogged.work.hasRoom plan = true ∧
     backlogged.work.target (line 1 .firing) = 1 ∧ backlogged.ce.stands[c.stand].expo = some 0 ∧
     (withTickets (List.replicate 991 (ticket7 1 5 .queued)) backlogged).work.hasRoom plan = false ∧
     (withTickets (List.replicate 990 (ticket7 1 5 .queued)) backlogged).work.hasRoom plan = true) ∧
    venue.ce.backlog = [] := by
  unfold State.hasCheck
  decide +kernel

/-- Ticket 1 of check 7, SHOWN at display 1 or in a slot of printer 2, with its completion offered. -/
def completing (k : Ticket) (via : Via) : State :=
  onRouter (fun r => { r with tickets := [k], completions := [{ ticket := 1, station := k.station, via := via }] })
    (serving cooking venue)

/-- A slot whose ticket has been taken at a printer. -/
def takenSlot : OutSlot := { ticket := 1, ended := true, marked := true, timer := none }

def seam16 : Fin 17 := ⟨16, by decide +kernel⟩

theorem hyps_CompletionsFinishLines :
    (let k := ticket7 1 1 .shown
     let s := onStation 1 (fun t => { t with shown := [1] }) (completing k .bump)
     s.kr.completions = { ticket := 1, station := 1, via := .bump } :: [] ∧
     lookupBy Ticket.number 1 s.kr.tickets = some k ∧ k.station = 1 ∧ s.kr.stations[1].shown.contains 1 = true ∧
     s.hasCheck 7 cooking ∧ s.ce.stands[cooking.stand].state ≠ .closing) ∧
    (let s := onPort 2 (fun p => { p with slotB := some takenSlot }) (completing (ticket7 1 2 .sending) (.slot .b))
     ((s.ports[2].slot .b).any fun z => z.ticket == 1 && z.ended && z.marked) = true) ∧
    (completing (ticket7 1 1 .shown) .bump).kr.stations[1].shown.contains 1 = false := by
  unfold State.hasCheck
  decide +kernel

/-- Check 7 with its line DONE, and its ticket in the recall list of display 1. -/
def recalled (c : Check) : State :=
  onStation 1 (fun t => { t with recallL := [1] })
    (onRouter (fun r => { r with tickets := [ticket7 1 1 .bumped], recalls := [{ ticket := 1, station := 1 }] })
      (serving c venue))

theorem hyps_RecallsShowTickets :
    (let c := bill 7 [{ line 1 .done with ticket := some 1 }] [Share.new 1 2500]
     let k := ticket7 1 1 .bumped
     let s := recalled c
     s.kr.recalls = { ticket := 1, station := 1 } :: [] ∧ lookupBy Ticket.number 1 s.kr.tickets = some k ∧
     k.station = 1 ∧ s.kr.stations[1].recallL.contains 1 = true ∧
     (s.kr.tickets.countP fun x => decide (x.station = 1) && decide (x.state ≠ .bumped)) < 128 ∧ k.kind = .normal ∧
     k.check = some c.number ∧ s.hasCheck c.number c ∧ k.assembly = none ∧
     (k.entries.any fun e => e.line.isSome && !e.voided) = true ∧
     ∃ l ∈ c.lines, (k.entries.any fun e => e.line == some l.index && !e.voided) = true ∧ l.state = .done) ∧
    (withTickets (List.replicate 128 (ticket7 2 1 .shown)) venue).kr.tickets.countP
      (fun x => decide (x.station = 1) && decide (x.state ≠ .bumped)) = 128 ∧
    ∀ c ∈ (recalled { plain with number := 8 }).ce.checks, c.number ≠ 7 := by
  unfold State.hasCheck
  decide +kernel

/-! ### Station ports -/

/-- A slot whose frame is on the wire, and one whose frame has ended. -/
def sendingSlot : OutSlot := { ticket := 1, ended := false, marked := false, timer := none }
def sentSlot : OutSlot := { ticket := 1, ended := true, marked := false, timer := some { elapsed := 5, limit := 5 } }

theorem hyps_PortsSendTicketsAndProbes :
    (let s := withTickets [ticket7 1 7 .queued] (onPort 7 (fun p => { p with link := .up })
       (onStation 7 (fun t => { t with cfg := kindCfg .print, normalQ := [1] }) venue))
     s.upc.part = .running ∧ s.kr.stations[7].cfg.loaded = true ∧ s.ports[7].link = .up ∧ s.ports[7].hold = false ∧
     s.ports[7].sending = false ∧ s.ports[7].slot s.ports[7].mark = none ∧
     s.kr.stations[7].voidQ ++ s.kr.stations[7].normalQ = 1 :: [] ∧
     lookupBy Ticket.number 1 s.kr.tickets = some (ticket7 1 7 .queued)) ∧
    (venue.kr.stations[2].cfg.loaded = true ∧ venue.kr.stations[2].voidQ ++ venue.kr.stations[2].normalQ = []) ∧
    (let s := onPort 2 (fun p => { p with slotA := some sendingSlot, mark := .b }) venue
     s.ports[2].link = .up ∧ s.ports[2].hold = false ∧ s.ports[2].sending = true) ∧
    (onPort 2 (fun p => { p with hold := true }) venue).ports[2].hold = true ∧
    (let s := onPort 2 (fun p => { p with link := .down, probe := some 5 }) venue
     s.ports[2].link = .down ∧ s.ports[2].probe = some 5 ∧ 5 ≤ 5) := by decide +kernel

/-- Station frames (R176). -/
def takenA : List PortChar := portChars [3, 0]
def bumpOne : List PortChar := portChars [4, 0, 1]
def recallOne : List PortChar := portChars [5, 0, 1]
def faultOne : List PortChar := portChars [6, 1]
def helloPrint : List PortChar := portChars [7, 1]

theorem hyps_StationFramesActOnTickets :
    (venue.upc.part = .running ∧ venue.kr.stations[1].cfg.loaded = true ∧ venue.ports[1].link = .up ∧
      readPort takenA = [.frame (.taken .a)] ∧ readPort bumpOne = [.frame (.bump 1)] ∧
      readPort recallOne = [.frame (.recallOf 1)] ∧ venue.ports[1].slot .a = none) ∧
    ((onPort 1 (fun p => { p with slotA := some sendingSlot }) venue).ports[1].slot .a = some sendingSlot ∧
      sendingSlot.ended = false ∧ takenSlot.marked = true) ∧
    (let s := withTickets [ticket7 1 1 .sending] (onPort 1 (fun p => { p with slotA := some sentSlot }) venue)
     s.ports[1].slot .a = some sentSlot ∧ sentSlot.ended = true ∧ sentSlot.marked = false ∧
     lookupBy Ticket.number sentSlot.ticket s.kr.tickets = some (ticket7 1 1 .sending) ∧
     venue.kr.stations[1].cfg.kind ≠ .print ∧ venue.kr.stations[2].cfg.kind = .print) ∧
    ((ticket7 1 2 .sending).kind ≠ .void ∧ (ticket7 1 2 .sending).check.isSome = true ∧
      (ticket7 1 2 .sending).remake = false ∧ ({ ticket7 1 2 .sending with check := none } : Ticket).check = none) ∧
    (let s := withTickets [ticket7 1 1 .shown] (onStation 1 (fun t => { t with shown := [1] }) venue)
     1 ∈ s.kr.stations[1].shown ∧ (∀ o ∈ s.kr.completions, o.ticket ≠ 1) ∧ 2 ∉ s.kr.stations[1].shown) ∧
    (1 ∈ (recalled plain).kr.stations[1].recallL ∧ 1 ∉ venue.kr.stations[1].recallL ∧
      (recalled plain).kr.tickets.countP (fun x => decide (x.station = 1) && decide (x.state ≠ .bumped)) < 128) := by
  decide +kernel

theorem hyps_HoldsAndDiscards :
    (venue.upc.part = .running ∧ venue.kr.stations[2].cfg.loaded = true ∧ venue.ports[2].link = .up ∧
      venue.ports[2].hold = false) ∧
    (let s := onPort 2 (fun p => { p with hold := true }) venue
     s.ports[2].hold = true ∧ s.kr.stations[2].cfg.goAny = false) ∧
    (onStation 2 (fun t => { t with cfg := { t.cfg with goAny := true } }) venue).kr.stations[2].cfg.goAny = true ∧
    (∀ c ∈ ([{ data := chGO, framingError := true }, { data := 0 }] : List PortChar),
      c.framingError = true ∨ (c.data ≠ chGO ∧ c.data ≠ chHOLD)) ∧
    (onPort 2 (fun p => { p with link := .down }) venue).ports[2].link ≠ .up ∧
    (onPort 2 (fun p => { p with link := .off }) venue).ports[2].link = .off ∧
    (readPort [{ data := 0x41 }] = List.replicate 1 .discard ∧
      readPort [{ data := 0x41 }, { data := chGO }, { data := 0x42 }] = List.replicate 2 .discard) ∧
    (readPort [{ data := chHOLD }] = [] ∧ ∃ r ∈ readPort [{ data := chSOF }], r ≠ .discard) ∧
    (onPort 2 (fun p => { p with badFrames := 65535 }) venue).ports[2].badFrames = 65535 := by decide +kernel

theorem hyps_StationsGoDown :
    (kitchen.QueuesBounded ∧ kitchen.TicketsPlaced) ∧
    (kitchen.upc.part = .running ∧ kitchen.kr.stations[2].cfg.loaded = true ∧ kitchen.ports[2].link = .up ∧
      readPort faultOne = [.frame (.fault 1)] ∧ readPort helloPrint = [.frame (.hello .print)]) ∧
    (let s := onPort 2 (fun p => { p with slotA := some sentSlot }) kitchen
     s.ports[2].hold = false ∧ s.ports[2].slot .a = some sentSlot ∧ sentSlot.timer = some { elapsed := 5, limit := 5 }) ∧
    (let s := onPort 2 (fun p => { p with hold := true, holdTimer := some { elapsed := 60, limit := 60 } }) kitchen
     s.ports[2].hold = true ∧ s.ports[2].holdTimer = some { elapsed := 60, limit := 60 }) ∧
    (asked (.stationControl 2 1) kitchen).nextBlock = some (1, .stationControl (2 : StationId).val 1) ∧
    (({ elapsed := 59, limit := 60 } : Timer).elapsed < ({ elapsed := 59, limit := 60 } : Timer).limit) :=
  ⟨⟨test_kitchenBounded, test_kitchenPlaced⟩, by decide +kernel⟩

def seam17 : Fin 18 := ⟨17, by decide +kernel⟩

/-- Its one ticket moves to its fallback, behind the ticket queued there; with the fallback not UP it stays. -/
theorem test_queueMovesToFallback :
    let s := after (.fault 2 faultOne) kitchen
    let u := after (.fault 2 faultOne) (onPort 1 (fun p => { p with link := .down }) kitchen)
    s.kr.stations[1].normalQ = [3, 1] ∧ s.kr.stations[2].normalQ = [] ∧ u.kr.stations[2].normalQ = [1] ∧
    s.upc.sendQueue.map OutEnvelope.body
      = [.event { secs := 0, unset := true } (.stationDown 2 .fault (some 1) (some 1) 1 0)] := by decide +kernel

theorem hyps_StationsComeUp :
    (let s := onPort 2 (fun p => { p with link := .down }) venue
     s.upc.part = .running ∧ s.kr.stations[2].cfg.loaded = true ∧ s.ports[2].link = .down ∧
     readPort helloPrint = [.frame (.hello .print)] ∧ s.kr.stations[2].cfg.kind = .print ∧
     s.kr.stations[1].cfg.kind ≠ .print ∧ readPort faultOne = [.frame (.fault 1)]) ∧
    (onPort 2 (fun p => { p with link := .off }) venue).ports[2].link = .off ∧
    ((asked (.stationControl 2 1) venue).nextBlock = some (1, .stationControl (2 : StationId).val 1) ∧
      (asked (.stationControl 2 2) venue).nextBlock = some (1, .stationControl (2 : StationId).val 2) ∧
      (asked (.stationControl 2 3) venue).nextBlock = some (1, .stationControl (2 : StationId).val 3)) ∧
    (∀ x ∈ [(8, 1), (2, 0), (2, 4), (5, 1)],
      (asked (.stationControl x.1 x.2) venue).nextBlock = some (1, .stationControl x.1 x.2)) ∧
    venue.kr.stations[(5 : StationId)].cfg.loaded = false := by
  decide +kernel

/-! ### Till lines -/

/-- Line 1 enabled, with this round count, and these positions; its tills are 17 and 18. -/
def calledLine (round : Nat) (ring turn walk : Option DropId) : State :=
  venue.onLine 1 fun l => { l with enabled := true, round := round, ringPos := ring, roundPos := turn, walkPos := walk }

theorem hyps_CallsFollowTheRing :
    (let s := calledLine 15 none none none
     s.upc.part = .running ∧ s.lines[1].enabled = true ∧ s.lines[1].call = none ∧ s.intake.paused = false ∧
     s.lines[1].tills[1].enabled = true ∧ s.lines[1].tills[1].present = true ∧
     ∀ d' : DropId, s.lines[1].tills[d'].enabled = true ∧ (s.lines[1].tills[d'].present = true ∨ 15 = 0) → 1 ≤ d') ∧
    (let s := calledLine 15 (some 2) (some 2) none
     s.lines[1].roundPos = some 2 ∧
     (∀ d' : DropId, s.lines[1].tills[d'].enabled = true ∧ (s.lines[1].tills[d'].present = true ∨ 15 = 0) → d' ≤ 2) ∧
     s.lines[1].tills[1].enabled = true) ∧
    (let s := [(17 : TillId), 18].foldl (fun s t => onTill t (fun x => { x with present := false }) s)
       (calledLine 15 none none none)
     s.lines[1].roundPos = none ∧ (∀ d : DropId, ¬ (s.lines[1].tills[d].enabled = true ∧
       (s.lines[1].tills[d].present = true ∨ 15 = 0))) ∧ ∃ d : DropId, s.lines[1].tills[d].enabled = true) ∧
    (∀ d : DropId, venue.lines[0].tills[d].enabled = false) ∧
    (let s := onTill 18 (fun x => { x with notices := [.ready 7 3 1] })
       { calledLine 0 (some 1) none none with intake := { up.intake with paused := true } }
     s.intake.paused = true ∧ s.lines[1].tills[2].enabled = true ∧ s.lines[1].tills[2].notices = .ready 7 3 1 :: [] ∧
     ∀ d' : DropId, s.lines[1].tills[d'].enabled = true ∧ s.lines[1].tills[d'].notices ≠ [] → d' = 2) ∧
    (∀ d : DropId, ¬ ((calledLine 0 none none none).lines[1].tills[d].enabled = true ∧
      (calledLine 0 none none none).lines[1].tills[d].notices ≠ [])) := by decide +kernel

theorem hyps_TillAnswersAreTaken :
    (let s := (calledLine 0 (some 1) (some 1) none).onLine 1 fun l => { l with call := some calling }
     s.lines[1].call = some calling ∧ s.lines[1].enabled = true ∧ calling.malformed = false) ∧
    readAnswer (plainChars (frameBytes [7, 0, 1])) = .good 7 [0, 1] ∧
    ((crowded 63).intake.slips.length < 64 ∧ 64 ≤ (crowded 64).intake.slips.length) ∧
    readAnswer (plainChars [0xF1, 7, 0, 1, 0, 0xF2]) = .bad ∧ readAnswer (plainChars [0xF8]) = .malformed ∧
    readAnswer (plainChars [0xF1, 7]) = .unfinished := by decide +kernel

/-! ### Stands -/

/-- Stand 3 CLOSING, with the seconds its deadline timer has run and the force flag. -/
def closing (deadline n : Nat) (force : Bool) (s : State) : State :=
  let terms : Closing := { deadline := deadline, force := force, timer := some n }
  onStand 3 (fun d => { d with state := .closing, closing := some terms }) s

theorem hyps_StandsOpenAndClose :
    ((asked (.openStand 3) venue).nextBlock = some (1, .openStand (3 : StandId).val) ∧
      venue.ce.stands[(3 : StandId)].loaded = true ∧
      (asked (.openStand 15) venue).nextBlock = some (1, .openStand (15 : StandId).val) ∧
      venue.ce.stands[(15 : StandId)].loaded = false) ∧
    ((asked (.closeStand 3 3600 1) venue).nextBlock = some (1, .closeStand (3 : StandId).val 3600 (flagByte true)) ∧
      (asked (.closeStand 3 0 0) venue).nextBlock = some (1, .closeStand (3 : StandId).val 0 (flagByte false)) ∧
      venue.ce.stands[(3 : StandId)].state = .opened) ∧
    0 < (serving plain venue).ce.checks.countP (fun c => decide (c.stand = 3)) ∧
    (venue.ce.checks.countP (fun c => decide (c.stand = 3)) = 0 ∧
      venue.kr.tickets.countP (fun k => decide (k.stand = 3) && decide (k.state ≠ .bumped)) = 0) ∧
    (closing 10 0 true venue).ce.stands[(3 : StandId)].state = .closing ∧
    venue.ce.stands[(0 : StandId)].state = .unopened := by decide +kernel

theorem hyps_ClosesComplete :
    venue.kr.clearance[(3 : StandId)].reported = false ∧
    (let s := onRouter (fun r => { r with clearance := modify r.clearance 3 fun c => { c with reported := true } })
       (closing 10 0 true venue)
     s.kr.clearance[(3 : StandId)].reported = true ∧ s.ce.stands[(3 : StandId)].state = .closing ∧
     s.ce.checks.countP (fun c => decide (c.stand = 3)) = 0 ∧
     s.kr.tickets.countP (fun k => decide (k.stand = 3) && decide (k.state ≠ .bumped)) = 0) ∧
    venue.ce.stands[(3 : StandId)].state ≠ .closing ∧
    ((closing 10 9 false venue).ce.stands[(3 : StandId)].closing
        = some { deadline := 10, force := false, timer := some 9 } ∧ 9 < 10) ∧
    (closing 10 10 false venue).ce.stands[(3 : StandId)].closing
        = some { deadline := 10, force := false, timer := some 10 } ∧
    (closing 10 10 true venue).ce.stands[(3 : StandId)].closing
        = some { deadline := 10, force := true, timer := some 10 } := by decide +kernel

def seam18 : Fin 19 := ⟨18, by decide +kernel⟩

theorem hyps_ForcedClosesBalance : (closing 10 10 true (serving plain venue)).BillsBalance := by
  unfold State.BillsBalance Rising Check.balanced
  decide +kernel

/-! ### The journal, the settings of the uplink, the clock -/

theorem hyps_RecordsAreDrained :
    ((asked (.drainJournal 0) up).nextBlock = some (1, .drainJournal 0) ∧
      (asked (.drainJournal 65) up).nextBlock = some (1, .drainJournal 65) ∧
      (asked (.drainJournal 1) up).nextBlock = some (1, .drainJournal 1) ∧
      (asked (.drainJournal 64) up).nextBlock = some (1, .drainJournal 64)) ∧
    (let s := onJournal (fun j => { j with records := [record] }) up
     s.upc.linkUp = true ∧ s.sj.records ≠ []) ∧
    ((∀ r ∈ (asked (.drainJournal 1) up).upc.run, r.linked = true) ∧
      ∃ r ∈ (onUplink (fun u => { u with run := u.run.map fun r => { r with linked := false } })
        (asked (.drainJournal 1) up)).upc.run, r.linked = false) ∧
    (up.sj.records = [] ∧ State.reset.upc.linkUp = false) ∧
    (let s := onJournal (fun j => { j with records := [record], burst := some burst }) up
     s.sj.burst = some burst ∧ s.sj.records = record :: [] ∧ s.upc.sendQueue.length < 64 ∧
     burst.sent + 1 < burst.asked ∧ ({ burst with asked := 1 } : Burst).asked ≤ burst.sent + 1) ∧
    64 ≤ (onUplink (fun u => { u with sendQueue := List.replicate 64 queued }) up).upc.sendQueue.length := by
  decide +kernel

theorem hyps_JournalWarningIsCompared :
    (∀ level ∈ [15, 16, 1024, 1025],
      (asked (.setJournalWarning level) up).nextBlock = some (1, .setJournalWarning level)) ∧
    (let free := fun (s : State) => 2048 - s.sj.records.length - s.sj.reservations
     free (onJournal (fun j => { j with reservations := 2032 }) up) ≤ 16 ∧ up.sj.low = false ∧ 1024 < free up ∧
     (onJournal (fun j => { j with low := true }) up).sj.low = true ∧ (free up ≤ 16 ↔ up.sj.low = true)) := by
  decide +kernel

theorem hyps_EventMaskIsSet :
    (asked (.setEvents 32768) up).nextBlock = some (1, .setEvents 32768) ∧ 2 ^ 15 ≤ 32768 ∧
    (asked (.setEvents 32767) up).nextBlock = some (1, .setEvents 32767) ∧ 32767 < 2 ^ 15 ∧
    ((uplinkIn .recovering 7 8).upc.state = .recovering ∧
      (uplinkIn .recovering 7 8).upc.needed ≤ (uplinkIn .recovering 7 8).upc.progress + 1) := by decide +kernel

theorem hyps_UplinkTimesAndClockAreSet :
    (∀ x ∈ [(1, 8), (31, 8), (2, 0), (30, 65), (2, 1), (30, 64)],
      (asked (.setUplinkTimes x.1 x.2) up).nextBlock = some (1, .setUplinkTimes x.1 x.2)) ∧
    ((uplinkIn .recovering 1 8).upc.state = .recovering ∧ 1 ≤ (uplinkIn .recovering 1 8).upc.progress) ∧
    ((uplinkIn .recovering 0 8).upc.progress < 1 ∧ (uplinkIn .online 8 8).upc.state ≠ .recovering) ∧
    ((asked (.setClock 217471) up).nextBlock = some (1, .setClock 217471) ∧ 217471 % 131072 = 86399 ∧
      (asked (.setClock 86400) up).nextBlock = some (1, .setClock 86400) ∧ 86399 < 86400 % 131072) := by decide +kernel

/-! ### Voids in the kitchen -/

/-- Lines of check 7 on the tickets of `kitchen`: `i` FIRED on ticket `n`, gathered by ASSEMBLY 5. -/
def gathered (i n : Nat) : Line := { line i .fired with ticket := some n, assembly := some 5 }

theorem hyps_VoidsReachTheKitchen :
    (kitchen.QueuesBounded ∧ kitchen.TicketsPlaced) ∧
    (kitchen.toldStations plain [line 1 .held] = [] ∧ kitchen.toldStations plain [gathered 1 2] = [1] ∧
      kitchen.kr.tickets.length + [(1 : StationId)].length ≤ 1024 ∧ kitchen.loadOf 1 < 128) ∧
    ¬ (withTickets (List.replicate 1024 (ticket7 1 1 .shown)) kitchen).kr.tickets.length + 1 ≤ 1024 ∧
    ¬ (withTickets (List.replicate 128 (ticket7 1 1 .shown)) kitchen).loadOf 1 < 128 ∧
    ((ticket7 1 2 .sending).touched plain [gathered 1 2] = [] ∧
      (ticket7 3 1 .queued).emptiedBy plain [{ gathered 1 3 with assembly := none }] = true ∧
      (ticket7 2 1 .shown).touched plain [gathered 1 2] ≠ [] ∧
      (ticket7 2 1 .shown).emptiedBy plain [gathered 1 2] = false) ∧
    (let a : Ticket := { ticket7 5 0 .waiting with kind := .assembly }
     a.touched plain [gathered 1 2] ≠ [] ∧ a.emptiedBy plain [gathered 1 2] = true ∧
     ({ a with entries := a.entries ++ [{ line := some 2, item := 520, qty := 1, mods := [], voided := false }] } : Ticket
       ).emptiedBy plain [gathered 1 2] = false) :=
  ⟨⟨test_kitchenBounded, test_kitchenPlaced⟩, by decide +kernel⟩

def seam19 : Fin 20 := ⟨19, by decide +kernel⟩

/-- The line voided on a SHOWN ticket is told to its display by a VOID ticket, the marked ticket stays, and the ASSEMBLY
that gathered nothing else is freed, its number with it. -/
theorem test_kitchenVoid :
    ((kitchen.work.kitchenVoid plain [gathered 1 2]).map fun w =>
      (w.kr.stations[1].voidQ, w.kr.tickets.map fun k => (k.number, k.entries.map TicketEntry.voided))) =
    some ([6, 5], [(1, [false]), (2, [true]), (3, [false]), (4, [false]), (5, [true]), (6, [false])]) := by decide +kernel

end Sys2Proof.Tests
end

section
/-! PROOFS. Control blocks that answer for a table, a station or the part, power-on and SERVICE RESET. -/
namespace Sys2Proof.Machine

/-! ### Control blocks: the block that its owner may carry out is carried out (R156) -/

/-- The wanted block, where it is one piece of work: the work is carried out and the block answered (R41, R156). -/
theorem State.block_work {run : ControlOp → Option (State → BlockReply × State)} {s : State} {tag : Nat}
    {op : ControlOp} {f : Work → BlockReply × Work} (h : s.nextBlock = some (tag, op)) (hf : run op = some (asWork f)) :
    s.block run = (s.commit (f s.work).2).finishBlock (f s.work).1 :=
  State.block_runs run s tag op _ h hf

theorem exec_readItem {s : State} {tag code : Nat} (h : s.nextBlock = some (tag, .readItem code)) :
    exec .readItem s = .next (State.finishBlock (readItem code s.work).1 (s.commit (readItem code s.work).2)) :=
  congrArg Host.Outcome.next (State.block_work h rfl)

theorem exec_readTills {s : State} {tag line : Nat} (h : s.nextBlock = some (tag, .readTills line)) :
    exec .readTills s = .next ((readTills line s).2.finishBlock (readTills line s).1) :=
  congrArg Host.Outcome.next (State.block_runs _ s tag _ _ h rfl)

theorem exec_queryCheck {s : State} {tag n : Nat} (h : s.nextBlock = some (tag, .queryCheck n)) :
    exec .queryCheck s = .next (State.finishBlock (queryCheck n s.work).1 (s.commit (queryCheck n s.work).2)) :=
  congrArg Host.Outcome.next (State.block_work h rfl)

theorem exec_readStations {s : State} {tag : Nat} (h : s.nextBlock = some (tag, .readStations)) :
    exec .readStations s = .next (s.finishBlock (readStations s.work).1) :=
  congrArg Host.Outcome.next (State.block_work h rfl)

theorem exec_readStatus {s : State} {tag : Nat} (h : s.nextBlock = some (tag, .readStatus)) :
    exec .readStatus s = .next (s.finishBlock (readStatus s).1) :=
  congrArg Host.Outcome.next (State.block_runs _ s tag _ _ h rfl)

/-! ### Reads (R6, R24, R60, R137, R161) -/

/-- READ ITEM on an item of the table reads its fields and changes nothing (R6). -/
theorem readItem_found {code : Nat} {w : Work} {i : Item} (hc : code ≠ 0)
    (h : lookupBy Item.code code w.ce.items = some i) :
    readItem code w = ({ result := .ok, operands := i.fields }, w) := by
  simp [readItem, Work.item?, hc, h]

theorem readItem_missing {code : Nat} {w : Work} (hc : code ≠ 0)
    (h : lookupBy Item.code code w.ce.items = none) :
    readItem code w = ({ result := .notFound, operands := [.number (some code)] }, w) := by
  simp [readItem, Work.item?, hc, h]

/-- A line number below 4 names its line. -/
@[simp] theorem lineOf_val (l : LineId) : lineOf l.val = some l := by
  simp [lineOf]

theorem readTills_line (l : LineId) (s : State) :
    readTills l.val s = ({ result := .ok, operands :=
      [.flag s.lines[l].enabled, .rate s.lines[l].rate, .duration (some s.lines[l].window),
        .duration (some s.lines[l].turn), .index (s.lines[l].ringPos.map fun d => d.val + 1),
        .count s.lines[l].round,
        .flag s.intake.paused] ++ allDrops.flatMap fun d => s.lines[l].tills[d].fields }, s) := by
  simp [readTills]

/-- QUERY CHECK on an open check reads the whole record and changes nothing (R60). -/
theorem queryCheck_found {n : Nat} {w : Work} {c : Check} (hn : n ≠ 0)
    (h : lookupBy Check.number n w.ce.checks = some c) :
    queryCheck n w = ({ result := .ok, operands := c.fields }, w) := by
  simp [queryCheck, Work.check?, hn, h]

theorem queryCheck_missing {n : Nat} {w : Work} (hn : n ≠ 0) (h : lookupBy Check.number n w.ce.checks = none) :
    queryCheck n w = ({ result := .notFound }, w) := by
  simp [queryCheck, Work.check?, hn, h]

/-- The backlog of a station, as the statements count it (R119). -/
theorem State.work_backlog (s : State) (st : StationId) : s.work.backlog st = s.backlogOf st := by
  simp [Work.backlog, Work.station, Work.port, Port.occupied, State.backlogOf, Nat.add_assoc]

/-- The load of a station, as the statements count it (R103). -/
theorem State.work_load (s : State) (st : StationId) : s.work.load st = s.loadOf st :=
  (List.countP_eq_length_filter ..).symm

/-- In RUNNING every count of READ STATUS is the count itself (R161). -/
theorem State.statusCount_running {s : State} (h : s.upc.part = .running) (n : Nat) : s.statusCount n = .count n := by
  simp [State.statusCount, h]

/-- Settles O29. -/
theorem readsChangeNothing : Obligations.ReadsChangeNothing := by
  intro s tag
  refine ⟨fun i hi hc h => ?_, fun code hc hi h => ?_, fun l h => ?_, fun c hc hn h => ?_, fun n hn hc h => ?_,
    fun h => ?_, fun h hp => ?_⟩
  · rw [exec_readItem h, readItem_found hc hi]
    rfl
  · rw [exec_readItem h, readItem_missing hc hi]
    rfl
  · rw [exec_readTills h, readTills_line]
    rfl
  · rw [exec_queryCheck h, queryCheck_found hn hc]
    simp only [Check.fields, List.append_assoc]
    rfl
  · rw [exec_queryCheck h, queryCheck_missing hn hc]
    rfl
  · rw [exec_readStations h, readStations]
    refine congrArg (fun f => Host.Outcome.next (State.finishBlock
      { result := .ok, operands := allStations.flatMap f } s)) (funext fun st => ?_)
    rw [Work.stationFields, State.work_backlog, State.work_load]
    rfl
  · rw [exec_readStatus h, readStatus]
    simp only [State.statusCount_running hp, hp]
    rfl

/-! ### Power-on (R169) -/

/-- Every element of a table at power-on has its power-on value. -/
theorem reset_lines (l : LineId) : State.reset.lines[l] = TillLine.reset := by
  simp [State.reset]
theorem reset_stands (sd : StandId) : State.reset.ce.stands[sd] = Stand.reset := by
  simp [State.reset]
theorem reset_clearance (sd : StandId) :
    State.reset.kr.clearance[sd] = { requested := false, reported := false } := by
  simp [State.reset]
theorem reset_stations (st : StationId) : State.reset.kr.stations[st] = Station.reset := by
  simp [State.reset]
theorem reset_ports (st : StationId) : State.reset.ports[st] = Port.reset := by
  simp [State.reset]
theorem reset_tills (d : DropId) : TillLine.reset.tills[d] = Till.reset := by
  simp [TillLine.reset]

/-- Settles O14. -/
theorem powerOnTakesPowerOnValues : Obligations.PowerOnTakesPowerOnValues := by
  intro s
  refine ⟨_, rfl, rfl, rfl, rfl, rfl, rfl, rfl, rfl, rfl, rfl, rfl, rfl, rfl,
    fun sd => ⟨reset_stands sd, reset_clearance sd⟩, rfl, rfl, rfl, rfl, rfl,
    fun st => ⟨reset_stations st, reset_ports st⟩, rfl, fun l => ?_, fun l d => ?_⟩
  · change State.reset.lines[l] = { TillLine.reset with tills := State.reset.lines[l].tills }
    rw [reset_lines]
  · change State.reset.lines[l].tills[d] = Till.reset
    rw [reset_lines, reset_tills]

/-! ### SERVICE RESET (R158, R168) -/

@[simp] theorem State.hello_run (k : ResetKind) (s : State) : (s.hello k).upc.run = s.upc.run := by
  unfold State.hello
  split <;> simp

@[simp] theorem State.hello_waiting (k : ResetKind) (s : State) : (s.hello k).upc.waiting = s.upc.waiting := by
  unfold State.hello
  split <;> simp

@[simp] theorem State.serviceReset_upc (force : Bool) (s : State) : (s.serviceReset force).upc = s.upc := rfl

/-- At the end of an envelope no envelope runs, and those that wait go on waiting (R155). -/
theorem State.endEnvelope_run (r : Run) (s : State) : (s.endEnvelope r).upc.run = none := by
  unfold State.endEnvelope
  split <;> simp [State.reply]

theorem State.endEnvelope_waiting (r : Run) (s : State) : (s.endEnvelope r).upc.waiting = s.upc.waiting := by
  unfold State.endEnvelope
  split <;> simp [State.reply]

/-- With all its blocks answered and none waiting behind it, the running envelope ends (R158). -/
theorem State.settle_end {s : State} {r : Run} (hr : s.upc.run = some r) (hb : r.blocks = [])
    (hw : s.upc.waiting = []) : s.settle = s.endEnvelope r := by
  have hfuel : s.settleFuel = 2 := by simp [State.settleFuel, hr, hb, hw]
  have hstep : s.settleStep = some (s.endEnvelope r) := by simp [State.settleStep, hr, hb]
  have hstop : (s.endEnvelope r).settleStep = none :=
    State.settleStep_idle _ (State.endEnvelope_run r s) ((State.endEnvelope_waiting r s).trans hw)
  simp [State.settle, hfuel, State.settleFor, hstep, hstop]

/-- The envelope whose reset is planned, after its last block: the REPLY, the reset across every block, HELLO (R168). -/
theorem State.finishBlock_reset {s : State} {r : Run} {force : Bool} {tag : Nat} {stop : Bool} {op : ControlOp}
    (b : BlockReply) (hr : s.upc.run = some r) (hb : r.blocks = [.good tag stop op]) (hf : r.reset = some force)
    (hw : s.upc.waiting = []) :
    s.finishBlock b = (State.serviceReset force (State.handOver (.reply .ok
      (r.replies ++ [{ cmd := some op.code, tag := tag, result := b.result, operands := b.operands }]))
      { s with upc := { s.upc with run := none } })).hello (if force then .serviceForced else .service) := by
  simp only [State.finishBlock, hr, hb]
  refine Eq.trans (State.settle_end rfl rfl hw) ?_
  simp only [State.endEnvelope, hf, State.reply]

/-- The port of a loaded station is reset; that of an unloaded one has nothing to reset (R125). -/
theorem State.serviceReset_ports (force : Bool) (s : State) (st : StationId) :
    (s.serviceReset force).ports[st] =
      if s.kr.stations[st].cfg.loaded then s.ports[st].serviceReset else s.ports[st] := by
  fin_cases st <;> rfl

/-- Settles O25. -/
theorem serviceResetClearsAndKeeps : Obligations.ServiceResetClearsAndKeeps := by
  intro s r force tag stop op hr hb hf hw replied
  have hports (st : StationId) : (replied.serviceReset force).ports[st] =
      if s.kr.stations[st].cfg.loaded then s.ports[st].serviceReset else s.ports[st] := by
    rw [State.serviceReset_ports]
    simp [replied]
  refine ⟨replied.serviceReset force, State.finishBlock_reset _ hr hb hf hw, rfl, ?clock, ?pending, ?intake, rfl, rfl,
    ?checkCtr, ?items, rfl, rfl, fun sd => ?stand, ?tu, rfl, ?ticketCtr, rfl, rfl, fun st => ?station,
    fun st => ⟨fun hl => ?loaded, fun hl => ?unloaded⟩, ?out, fun hforce => ?quiet, fun hforce => ?forced,
    fun l => ?line, fun l d => ?till⟩
  case loaded => rw [hports, if_pos hl, Port.serviceReset]
  case unloaded => rw [hports, hl]; rfl
  case quiet => subst hforce; simp [State.serviceReset, replied]
  case forced => subst hforce; simp [State.serviceReset, replied]
  case out =>
    change replied.out ++ allStations.flatMap (resetOutputs replied.kr.stations replied.ports) = _
    rw [State.handOver_out, State.handOver_kr, State.handOver_ports]
    rfl
  case line => simp [State.serviceReset, TillLine.serviceReset, replied]
  case till => simp [State.serviceReset, TillLine.serviceReset, Till.serviceReset, replied]
  case stand => simp [State.serviceReset, Stand.serviceReset, replied]
  case station => simp [State.serviceReset, Station.serviceReset, replied]
  all_goals simp [State.serviceReset, replied]

end Sys2Proof.Machine
end

section
/-! PROOFS. The tables of chapter 1: LOAD ITEMS, DELETE ITEMS, SET STOCK. -/
namespace Sys2Proof.Machine

/-! ### A piece of work that sends events alone (R41, R159) -/

/-- Raising events in order adds them to what the work has sent, and changes nothing else. -/
theorem Work.raiseAll_eq (es : List Event) (w : Work) :
    w.raiseAll es = { w with fx := w.fx ++ es.map .event } := by
  induction es generalizing w with
  | nil => simp [Work.raiseAll]
  | cons e es ih =>
    rw [show w.raiseAll (e :: es) = (w.raise e).raiseAll es from rfl, ih]
    simp [Work.raise, Work.emit]

/-- Events carried out change neither the till lines nor the log of transmissions. -/
theorem State.commit_events {w : Work} {es : List Event} (h : w.fx = es.map .event) (s : State) :
    (s.commit w).lines = s.lines ∧ (s.commit w).out = s.out := by
  have key (es : List Event) (x : State) : ((es.map Effect.event).foldl State.apply x).lines = x.lines ∧
      ((es.map Effect.event).foldl State.apply x).out = x.out := by
    induction es generalizing x with
    | nil => exact ⟨rfl, rfl⟩
    | cons e es ih => simpa [State.apply] using ih (x.raise e)
  rw [State.commit, h]
  exact key es _

/-- A piece of work that sends events alone leaves all but its blocks and the send queue (R41). -/
theorem State.commit_onlyBlocks {w : Work} {es : List Event} (h : w.fx = es.map .event) (s : State) :
    s.OnlyBlocks (s.commit w) w.ce w.tu w.kr w.ports w.sj := by
  obtain ⟨hlines, hout⟩ := State.commit_events h s
  refine ⟨⟨State.commit_pending w s, State.commit_intake w s, State.commit_clock w s, ?_, State.commit_upc w s,
    fun l => ?_, fun l d => ?_⟩, hlines, hout, State.commit_ce w s, State.commit_tu w s, State.commit_kr w s,
    State.commit_ports w s, State.commit_sj w s⟩
  · rw [hout]
  · rw [hlines]
  · rw [hlines]; rfl

/-! ### LOAD ITEMS (R2, R4) -/

theorem exec_loadItems {s : State} {tag : Nat} {os : List ItemOperand} (h : s.nextBlock = some (tag, .loadItems os)) :
    exec .loadItems s = .next (State.finishBlock (loadItems os s.work).1 (s.commit (loadItems os s.work).2)) :=
  congrArg Host.Outcome.next (State.block_work h rfl)

@[simp] theorem stationOf_val (x : StationId) : stationOf x.val = some x := by
  simp [stationOf]

theorem stationOf_none {n : Nat} (h : 8 ≤ n) : stationOf n = none := by
  simp [stationOf, h]

@[simp] theorem optStationOf_byte (o : Option StationId) : optStationOf (optStationByte o) = some o := by
  cases o with
  | none => rfl
  | some x =>
    have : x.val ≠ 0xFF := by omega
    simp [optStationOf, optStationByte, this]

@[simp] theorem flagOf_byte (b : Bool) : flagOf (flagByte b) = some b := by
  cases b <;> rfl

theorem stockOf_value {k : Stock} (h : ∀ n, k = .count n → n ≤ 65535) : stockOf (stockValue k) = some k := by
  cases k with
  | uncounted => rfl
  | count n =>
    have hn := h n rfl
    have : n ≠ 0xFFFFFF := by omega
    simp [stockOf, stockValue, this, hn]

/-- An item that LOAD ITEMS may load is read back from its operand (R2, R179). -/
theorem Work.validItem_operand {w : Work} {s : State} {i : Item} (hk : w.kr = s.kr) (h : s.itemFits i) :
    w.validItem i.operand = some i := by
  obtain ⟨hcode, hprice, ⟨hload, hkind⟩, hover, hstock⟩ := h
  have hcooks {x : StationId} (h1 : s.kr.stations[x].cfg.loaded = true) (h2 : s.kr.stations[x].cfg.kind ≠ .expo) :
      w.cooks x = true := by
    simp only [Work.cooks, Work.station, hk, h1, h2, ne_eq, not_false_eq_true, decide_true, Bool.and_self]
  have hv : ∀ x ∈ i.overflow, w.cooks x ∧ x ≠ i.primary := fun x hx =>
    ⟨hcooks (hover x hx).1 (hover x hx).2.1, (hover x hx).2.2⟩
  have hc : i.code ≠ 0 := by omega
  unfold Work.validItem
  simp only [Item.operand, stationOf_val, optStationOf_byte, flagOf_byte, stockOf_value hstock]
  exact if_pos ⟨hc, hprice, hcooks hload hkind, hv⟩

/-- An entry with code 0, a price above 99,999 or a primary station above 7 gives no item (R2). -/
theorem Work.validItem_bad {w : Work} {o : ItemOperand} (h : o.code = 0 ∨ 99999 < o.price ∨ 8 ≤ o.primary) :
    w.validItem o = none := by
  unfold Work.validItem
  split
  · rename_i p v e k hp hv he hk
    refine if_neg fun hok => ?_
    have hp8 : ¬ 8 ≤ o.primary := fun h8 => by simp [stationOf_none h8] at hp
    obtain ⟨hc, hpr, -⟩ := hok
    omega
  · rfl

/-- A valid entry takes its place in the Item Table while there is room for it (R4). -/
theorem Work.putItem_room {w : Work} (i : Item) (h : w.ce.items.length < itemTableSize) :
    ∃ es : List Event, w.putItem i =
      some { w with ce.items := putBy Item.code i w.ce.items, fx := w.fx ++ es.map .event } := by
  unfold Work.putItem
  split
  · exact ⟨_, congrArg some (Work.raiseAll_eq _ _)⟩
  · exact ⟨[], by simp [h]⟩

/-- Entries put in list order. -/
def putAll (items l : List Item) : List Item := items.foldl (fun l i => putBy Item.code i l) l

/-- Valid entries with room for them are applied one after another (R4). -/
theorem loadItemsFrom_valid {items : List Item} {s : State} {w : Work} (hk : w.kr = s.kr)
    (hfit : ∀ i ∈ items, s.itemFits i) (hroom : w.ce.items.length + items.length ≤ 2048) (applied : Nat)
    (more : List ItemOperand) :
    ∃ es : List Event, loadItemsFrom applied (items.map Item.operand ++ more) w =
      loadItemsFrom (applied + items.length) more
        { w with ce.items := putAll items w.ce.items, fx := w.fx ++ es.map .event } := by
  induction items generalizing w applied with
  | nil => exact ⟨[], by simp [putAll]⟩
  | cons i items ih =>
    simp only [List.length_cons] at hroom
    obtain ⟨es, hput⟩ := Work.putItem_room (w := w) i (by simp only [itemTableSize]; omega)
    have hlen := putBy_length_le Item.code i w.ce.items
    obtain ⟨es', hrest⟩ := ih
      (w := { w with ce.items := putBy Item.code i w.ce.items, fx := w.fx ++ es.map .event })
      hk (fun j hj => hfit j (List.mem_cons_of_mem _ hj)) (by simp only; omega) (applied + 1)
    refine ⟨es ++ es', ?_⟩
    simp only [List.map_cons, List.cons_append, loadItemsFrom, Work.validItem_operand hk (hfit i List.mem_cons_self),
      hput, hrest, List.length_cons, putAll, List.foldl_cons, List.map_append, List.append_assoc]
    congr 1
    omega

/-- After entries are put in list order the later of two with one code stands (R4). -/
theorem lookupBy_putAll (items l : List Item) (code : Nat) :
    lookupBy Item.code code (putAll items l) =
      (items.reverse.find? fun i => i.code == code).or (lookupBy Item.code code l) := by
  induction items generalizing l with
  | nil => rfl
  | cons i items ih =>
    rw [show putAll (i :: items) l = putAll items (putBy Item.code i l) from rfl, ih, List.reverse_cons,
      List.find?_append, Option.or_assoc]
    congr 1
    by_cases h : i.code = code
    · subst h
      simp [lookupBy_putBy_self]
    · simp [lookupBy_putBy_other Item.code i l code (Ne.symm h), h]

/-- LOAD ITEMS of 1 to 64 entries applies them from the first (R4). -/
theorem loadItems_eq {os : List ItemOperand} (h : os ≠ []) (h' : os.length ≤ 64) (w : Work) :
    loadItems os w = loadItemsFrom 0 os w := by
  have : ¬ (os = [] ∨ 64 < os.length) := by rintro (h1 | h1); exacts [h h1, by omega]
  simp [loadItems, this]

/-- Settles O26. -/
theorem loadedItemsStand : Obligations.LoadedItemsStand := by
  intro s tag items more hfit hroom hlen hnext
  obtain ⟨es, hload⟩ := loadItemsFrom_valid (w := s.work) rfl hfit hroom 0 more
  have hlen' : (items.map Item.operand ++ more).length ≤ 64 := by simpa using hlen
  refine ⟨fun hm hne => ?_, fun bad rest hm hbad => ?_⟩
  · rw [exec_loadItems hnext, loadItems_eq (by simp [hne]) hlen', hload]
    simp only [hm, loadItemsFrom, Nat.zero_add]
    exact ⟨_, rfl, ⟨putAll items s.ce.items, State.commit_onlyBlocks (es := es) (by simp) s⟩,
      fun code => by simp [lookupBy_putAll]⟩
  · rw [exec_loadItems hnext, loadItems_eq (by simp [hm]) hlen', hload, hm]
    simp only [loadItemsFrom, Work.validItem_bad hbad, Nat.zero_add]
    exact ⟨_, rfl, fun code => by simp [lookupBy_putAll]⟩

/-! ### DELETE ITEMS and SET STOCK (R5, R9, R10) -/

theorem exec_deleteItems {s : State} {tag : Nat} {cs : List Nat} (h : s.nextBlock = some (tag, .deleteItems cs)) :
    exec .deleteItems s = .next (State.finishBlock (deleteItems cs s.work).1 (s.commit (deleteItems cs s.work).2)) :=
  congrArg Host.Outcome.next (State.block_work h rfl)

theorem exec_setStock {s : State} {tag code value : Nat} (h : s.nextBlock = some (tag, .setStock code value)) :
    exec .setStock s =
      .next (State.finishBlock (setStock code value s.work).1 (s.commit (setStock code value s.work).2)) :=
  congrArg Host.Outcome.next (State.block_work h rfl)

/-- A code is found where the Item Table holds it. -/
theorem Work.item?_isSome_iff {code : Nat} {w : Work} :
    (w.item? code).isSome = true ↔ ∃ x ∈ w.ce.items, x.code = code := by
  simp [Work.item?, lookupBy]

/-- Codes taken out in list order: the entries they name are gone, and none was passed over exactly when each was
found as it was reached, which a repeated code is not (R5). -/
theorem deleteFrom_eq (cs : List Nat) (i gone skipped : Nat) (first : Option Nat) (w : Work) :
    (deleteFrom i cs (gone, skipped, first) w).2 =
        { w with ce.items := w.ce.items.filter fun x => x.code ∉ cs } ∧
      skipped ≤ (deleteFrom i cs (gone, skipped, first) w).1.2.1 ∧
      ((deleteFrom i cs (gone, skipped, first) w).1.2.1 = skipped ↔
        cs.Nodup ∧ ∀ c ∈ cs, ∃ x ∈ w.ce.items, x.code = c) := by
  induction cs generalizing i gone skipped first w with
  | nil => simp [deleteFrom]
  | cons c cs ih =>
    have hfilter (l : List Item) : (l.filter fun x => x.code != c).filter (fun x => x.code ∉ cs) =
        l.filter fun x => x.code ∉ c :: cs := by
      rw [List.filter_filter]
      congr 1
      funext x
      by_cases h : x.code = c <;> simp [h]
    unfold deleteFrom
    by_cases h : ∃ x ∈ w.ce.items, x.code = c
    · rw [if_pos (Work.item?_isSome_iff.2 h)]
      obtain ⟨h1, h2, h3⟩ := ih (i + 1) (gone + 1) skipped first { w with ce.items := eraseBy Item.code c w.ce.items }
      refine ⟨h1.trans ?_, h2, h3.trans ?_⟩
      · simp only [eraseBy, hfilter]
      · simp only [eraseBy, List.mem_filter, bne_iff_ne, List.nodup_cons, List.mem_cons, forall_eq_or_imp, h, true_and]
        constructor
        · rintro ⟨hn, hall⟩
          refine ⟨⟨fun hc => ?_, hn⟩, fun d hd => ?_⟩
          · obtain ⟨x, ⟨-, hx⟩, hx'⟩ := hall c hc
            exact hx hx'
          · obtain ⟨x, ⟨hx, -⟩, hx'⟩ := hall d hd
            exact ⟨x, hx, hx'⟩
        · rintro ⟨⟨hc, hn⟩, hall⟩
          refine ⟨hn, fun d hd => ?_⟩
          obtain ⟨x, hx, rfl⟩ := hall d hd
          exact ⟨x, ⟨hx, fun e => hc (e ▸ hd)⟩, rfl⟩
    · rw [if_neg (fun hs => h (Work.item?_isSome_iff.1 hs))]
      obtain ⟨h1, h2, -⟩ := ih (i + 1) gone (skipped + 1) (first.or (some i)) w
      refine ⟨h1.trans ?_, by omega, ⟨fun h' => by omega, fun h' => absurd (h'.2 c List.mem_cons_self) h⟩⟩
      have hnone : w.ce.items.filter (fun x => x.code != c) = w.ce.items :=
        List.filter_eq_self.2 fun x hx => by simpa using fun e => h ⟨x, hx, e⟩
      rw [← hfilter, hnone]

/-- DELETE ITEMS with 1 to 128 codes removes what they name, and is OK when none was passed over (R5). -/
theorem deleteItems_eq {cs : List Nat} (h : cs ≠ []) (h' : cs.length ≤ 128) (h0 : 0 ∉ cs) (w : Work) :
    (deleteItems cs w).2 = { w with ce.items := w.ce.items.filter fun x => x.code ∉ cs } ∧
      (deleteItems cs w).1.result =
        if cs.Nodup ∧ ∀ c ∈ cs, ∃ x ∈ w.ce.items, x.code = c then .ok else .notFound := by
  have hbad : ¬ (cs = [] ∨ 128 < cs.length ∨ 0 ∈ cs) := by
    rintro (h1 | h1 | h1)
    exacts [h h1, by omega, h0 h1]
  obtain ⟨h1, -, h3⟩ := deleteFrom_eq cs 1 0 0 none w
  rw [deleteItems, if_neg hbad]
  exact ⟨h1, if_congr h3 rfl rfl⟩

/-- SET STOCK on an item of the table (R9). -/
theorem setStock_found {i : Item} {k : Stock} {w : Work} (hi : lookupBy Item.code i.code w.ce.items = some i)
    (h0 : i.code ≠ 0) (hk : ∀ n, k = .count n → n ≤ 65535) :
    setStock i.code (stockValue k) w =
      ({ result := .ok, operands := [.stock i.stock, .stock k] }, w.setStock i k) := by
  simp [setStock, stockOf_value hk, h0, Work.item?, hi]

/-- Settles O27. -/
theorem itemsAreDeletedAndCounted : Obligations.ItemsAreDeletedAndCounted := by
  refine ⟨fun s tag cs hne hlen h0 hnext => ?_, fun s tag i k hi h0 hk hnext => ?_⟩
  · obtain ⟨hw, hres⟩ := deleteItems_eq hne hlen h0 s.work
    refine ⟨(deleteItems cs s.work).1, ?_, ?_, ?_⟩
    · rw [exec_deleteItems hnext, hw]
      rfl
    · rw [hres]
      split <;> simp
    · rw [hres]
      split <;> simp_all
  · intro set reply
    have hrun : exec .setStock s =
        .next (State.finishBlock reply (((stockEvents i.code i.stock k).map Effect.event).foldl State.apply set)) := by
      rw [exec_setStock hnext, setStock_found hi h0 hk, Work.setStock, Work.raiseAll_eq]
      rfl
    rw [hrun, stockEvents]
    refine ⟨fun h1 h2 => ?_, fun h1 h2 => ?_, fun h => ?_⟩
    · rw [if_pos ⟨h1, h2⟩]
      rfl
    · rw [if_neg (fun hn => hn.1 h1), if_pos ⟨h1, h2⟩]
      rfl
    · rw [if_neg (fun hn => hn.1 (h.2 hn.2)), if_neg (fun hn => hn.2 (h.1 hn.1))]
      rfl

end Sys2Proof.Machine
end

section
/-! PROOFS. LOAD STAND and LOAD STATION (1.4, 1.5). -/
namespace Sys2Proof.Machine

/-! ### LOAD STAND (R12) -/

theorem exec_loadStand {s : State} {tag sd policy expo floor : Nat}
    (h : s.nextBlock = some (tag, .loadStand sd policy expo floor)) :
    exec .loadStand s = .next (State.finishBlock (loadStand sd policy expo floor s.work).1
      (s.commit (loadStand sd policy expo floor s.work).2)) :=
  congrArg Host.Outcome.next (State.block_work h rfl)

@[simp] theorem standOf_val (sd : StandId) : standOf sd.val = some sd := by
  simp [standOf]

@[simp] theorem policyOf_byte (p : FirePolicy) : policyOf (policyByte p) = some p := by
  cases p <;> rfl

/-- A stand has an open check exactly when some check of the table is of that stand. -/
theorem Work.openChecks_pos_iff {w : Work} {sd : StandId} : 0 < w.openChecks sd ↔ ∃ c ∈ w.ce.checks, c.stand = sd := by
  simp [Work.openChecks, List.countP_pos_iff]

theorem Work.gathers_iff {w : Work} {st : StationId} :
    w.gathers st = true ↔ w.kr.stations[st].cfg.loaded = true ∧ w.kr.stations[st].cfg.kind = .expo := by
  rw [Work.gathers, Bool.and_eq_true, decide_eq_true_iff]
  rfl

/-- LOAD STAND with valid settings is refused only where an open check holds the policy or the expo station (R12). -/
theorem loadStand_valid {sd : StandId} {p : FirePolicy} {expo : Option StationId} {floor : Nat} {w : Work}
    (hfloor : floor ≤ 50000) (hexpo : ∀ x ∈ expo, w.gathers x = true) :
    loadStand sd.val (policyByte p) (optStationByte expo) floor w =
      if 0 < w.openChecks sd ∧ ¬ ((w.stand sd).policy = p ∧ (w.stand sd).expo = expo) then ({ result := .inUse }, w)
      else ({ result := .ok },
        w.onStand sd fun d => { d with loaded := true, policy := p, expo := expo, floor := floor }) := by
  have hnone : ¬ ∃ x ∈ expo, w.gathers x = false := fun ⟨x, hx, hf⟩ => by simp [hexpo x hx] at hf
  simp only [loadStand, standOf_val, policyOf_byte, optStationOf_byte]
  rw [if_neg (by omega), if_neg hnone]

/-! ### LOAD STATION: the value checks (R15) -/

theorem exec_loadStation {s : State} {tag : Nat} {o : StationOperand} (h : s.nextBlock = some (tag, .loadStation o)) :
    exec .loadStation s = .next (State.finishBlock (loadStation o s.work).1 (s.commit (loadStation o s.work).2)) :=
  congrArg Host.Outcome.next (State.block_work h rfl)

/-- A field that fails its check is named, and nothing changes (R15). -/
theorem exec_loadStation_fails {s : State} {tag n : Nat} {o : StationOperand} {st : StationId}
    (h : s.nextBlock = some (tag, .loadStation o)) (ho : o.station = st.val)
    (he : s.work.stationSettings st o = .error n) :
    exec .loadStation s = .next (s.finishBlock { result := .badValue, operands := [.index (some n)] }) := by
  rw [exec_loadStation h]
  simp only [loadStation, ho, stationOf_val, he]
  rfl

theorem kindOf_none {n : Nat} (h : n ∉ [1, 2, 3]) : kindOf n = none := by
  simp only [List.mem_cons, List.not_mem_nil, or_false, not_or] at h
  simp [kindOf, h]

/-- The numbers 1 to 3 name the kinds, and 3 is EXPO (R179). -/
theorem kindOf_some {n : Nat} (h : n ∈ [1, 2, 3]) : ∃ k, kindOf n = some k ∧ (k = .expo ↔ n = 3) := by
  simp only [List.mem_cons, List.not_mem_nil, or_false] at h
  rcases h with rfl | rfl | rfl
  · exact ⟨.print, rfl, by simp⟩
  · exact ⟨.display, rfl, by simp⟩
  · exact ⟨.expo, rfl, by simp⟩

@[simp] theorem kindOf_code (k : StationKind) : kindOf k.code = some k := by
  cases k <;> rfl

theorem goAnyOf_none {n : Nat} (h : n ∉ [0, 1, 0xFF]) : goAnyOf n = none := by
  simp only [List.mem_cons, List.not_mem_nil, or_false, not_or] at h
  simp [goAnyOf, flagOf, h]

theorem goAnyOf_some {n : Nat} (h : n ∈ [0, 1, 0xFF]) : ∃ g, goAnyOf n = some g := by
  simp only [List.mem_cons, List.not_mem_nil, or_false] at h
  rcases h with rfl | rfl | rfl
  exacts [⟨false, rfl⟩, ⟨true, rfl⟩, ⟨false, rfl⟩]

theorem sameFamily_iff {a b : StationKind} : sameFamily a b = true ↔ (a = .expo ↔ b = .expo) := by
  cases a <;> cases b <;> decide

/-- The settings up to GO-any pass their checks (R15). -/
structure StationOperand.Passes (o : StationOperand) (kind : StationKind) : Prop where
  kind   : kindOf o.kind = some kind
  rate   : o.rate ∈ [19200, 38400, 57600, 115200]
  divert : o.divertLevel ≤ 128
  levels : (o.divertLevel = 0 → o.returnLevel = 0) ∧ (0 < o.divertLevel → o.returnLevel < o.divertLevel)
  taken  : 1 ≤ durationOr 5 o.takenTimeout ∧ durationOr 5 o.takenTimeout ≤ 30
  hold   : 5 ≤ durationOr 60 o.holdLimit ∧ durationOr 60 o.holdLimit ≤ 300

/-- What a fallback of a station must be (R15). -/
def Work.servesAs (w : Work) (st : StationId) (kind : StationKind) (x : StationId) : Prop :=
  x ≠ st ∧ (w.station x).cfg.loaded = true ∧ ((w.station x).cfg.kind = .expo ↔ kind = .expo)

/-- Settings that pass are judged by GO-any and then by the fallback (R15). -/
theorem Work.stationSettings_passes {o : StationOperand} {kind : StationKind} (h : o.Passes kind) (w : Work)
    (st : StationId) :
    (goAnyOf o.goAny = none → w.stationSettings st o = .error 9) ∧
    ∀ g, goAnyOf o.goAny = some g →
      ((∀ fb, optStationOf o.fallback = some fb → ¬ ∀ x ∈ fb, w.servesAs st kind x) →
        w.stationSettings st o = .error 6) ∧
      ∀ fb, optStationOf o.fallback = some fb → (∀ x ∈ fb, w.servesAs st kind x) →
        w.stationSettings st o = .ok
          { loaded := true, kind := kind, rate := o.rate, divertLevel := o.divertLevel,
            returnLevel := o.returnLevel, fallback := fb, takenTimeout := durationOr 5 o.takenTimeout,
            holdLimit := durationOr 60 o.holdLimit, goAny := g } := by
  obtain ⟨hkind, hrate, hdivert, hlevels, htaken, hhold⟩ := h
  have hserves (fb : Option StationId) : (∃ x ∈ fb, x = st ∨ (w.station x).cfg.loaded = false ∨
      sameFamily (w.station x).cfg.kind kind = false) ↔ ¬ ∀ x ∈ fb, w.servesAs st kind x := by
    simp only [Work.servesAs, ← sameFamily_iff, not_forall, exists_prop, not_and_or, not_not, Bool.not_eq_true]
  simp only [Work.stationSettings, hkind]
  rw [if_neg (not_not.2 hrate), if_neg (by omega), if_neg (by omega), if_neg (by omega), if_neg (by omega)]
  refine ⟨fun hg => by rw [hg], fun g hg => ⟨fun hbad => ?_, fun fb hfb hok => ?_⟩⟩
  · cases hfb : optStationOf o.fallback with
    | none => simp only [hg]
    | some fb => simp only [hg, (hserves fb).2 (hbad fb hfb), if_true]
  · simp only [hg, hfb, if_neg (fun hx => (hserves fb).1 hx hok)]

/-- The operand of settings that may be loaded is read back as those settings (R15, R179). -/
theorem State.stationSettings_written {s : State} {st : StationId} {c : StationCfg} {o : StationOperand}
    (hfit : s.settingsFit st c) (hw : c.writtenAs st o) : s.work.stationSettings st o = .ok c := by
  obtain ⟨hloaded, hrate, hdivert, hzero, hlevels, htaken, htaken', hhold, hhold', hback⟩ := hfit
  obtain ⟨-, hkind, hrate', hdivert', hreturn', hfallback, htime, hlimit, hgo⟩ := hw
  have ht : durationOr 5 o.takenTimeout = c.takenTimeout := by unfold durationOr; split <;> omega
  have hh : durationOr 60 o.holdLimit = c.holdLimit := by unfold durationOr; split <;> omega
  have hg : goAnyOf o.goAny = some c.goAny := by
    rcases hgo with h | ⟨h, h'⟩
    · rw [h]; cases c.goAny <;> rfl
    · rw [h, h']; rfl
  have hpass : o.Passes c.kind :=
    { kind := by rw [hkind, kindOf_code]
      rate := by rw [hrate']; simpa using hrate
      divert := by omega
      levels := by omega
      taken := by omega
      hold := by omega }
  have hok := ((Work.stationSettings_passes hpass s.work st).2 _ hg).2 c.fallback
    (by rw [hfallback, optStationOf_byte]) hback
  rw [hok, hrate', hdivert', hreturn', ht, hh, ← hloaded]

/-! ### LOAD STATION: a change of kind (R16) -/

/-- The four conditions of R16 that refuse a change of kind: the station holds a ticket; it becomes EXPO and an item
names it; it is EXPO and a loaded stand names it; it changes its family and a loaded station falls back on it. -/
def State.kindHeld (s : State) (st : StationId) : Prop := ∃ k ∈ s.kr.tickets, k.station = st
def State.kindNamed (s : State) (st : StationId) (kind : StationKind) : Prop :=
  kind = .expo ∧ ∃ i ∈ s.ce.items, i.primary = st ∨ i.overflow = some st
def State.kindGathers (s : State) (st : StationId) : Prop :=
  s.kr.stations[st].cfg.kind = .expo ∧
    ∃ sd : StandId, s.ce.stands[sd].loaded = true ∧ s.ce.stands[sd].expo = some st
def State.kindRelied (s : State) (st : StationId) (kind : StationKind) : Prop :=
  (s.kr.stations[st].cfg.kind = .expo ↔ kind ≠ .expo) ∧
    ∃ x, x ≠ st ∧ s.kr.stations[x].cfg.loaded = true ∧ s.kr.stations[x].cfg.fallback = some st

/-- A first load, and a load that keeps the kind, are not refused (R16). -/
theorem State.kindInUse_kept {s : State} {st : StationId} {kind : StationKind}
    (h : s.kr.stations[st].cfg.loaded = false ∨ s.kr.stations[st].cfg.kind = kind) : s.work.kindInUse st kind = none :=
  if_pos h

theorem mem_allStations (x : StationId) : x ∈ allStations := by
  fin_cases x <;> decide

/-- A change of kind is refused with the first of the four conditions that holds (R16). -/
theorem State.kindInUse_changed {s : State} {st : StationId} {kind : StationKind}
    (hl : s.kr.stations[st].cfg.loaded = true) (hk : s.kr.stations[st].cfg.kind ≠ kind) :
    (s.kindHeld st → s.work.kindInUse st kind = some 1) ∧
    (¬ s.kindHeld st → s.kindNamed st kind → s.work.kindInUse st kind = some 2) ∧
    (¬ s.kindHeld st → ¬ s.kindNamed st kind → s.kindGathers st → s.work.kindInUse st kind = some 3) ∧
    (¬ s.kindHeld st → ¬ s.kindNamed st kind → ¬ s.kindGathers st →
      (s.kindRelied st kind → s.work.kindInUse st kind = some 4) ∧
      (¬ s.kindRelied st kind → s.work.kindInUse st kind = none)) := by
  have hheld : s.work.kr.tickets.any (fun t => decide (t.station = st)) = true ↔ s.kindHeld st := by
    simp [State.kindHeld]
  have hgathers : (s.kr.stations[st].cfg.kind = .expo ∧
      ∃ d ∈ s.ce.stands.toList, d.loaded = true ∧ d.expo = some st) ↔ s.kindGathers st := by
    refine and_congr_right fun _ => ⟨?_, ?_⟩
    · rintro ⟨d, hd, h⟩
      obtain ⟨i, hi, rfl⟩ := List.getElem_of_mem hd
      exact ⟨⟨i, by simpa using hi⟩, by simpa using h⟩
    · rintro ⟨sd, h⟩
      exact ⟨s.ce.stands[sd], by simp, h⟩
  have hrelied : (sameFamily s.kr.stations[st].cfg.kind kind = false ∧
      ∃ x ∈ allStations, x ≠ st ∧ s.kr.stations[x].cfg.loaded = true ∧ s.kr.stations[x].cfg.fallback = some st) ↔
      s.kindRelied st kind := by
    refine and_congr ?_ (by simp [mem_allStations])
    rw [← Bool.not_eq_true, sameFamily_iff]
    tauto
  have hfirst : ¬ (s.kr.stations[st].cfg.loaded = false ∨ s.kr.stations[st].cfg.kind = kind) :=
    not_or.2 ⟨ne_of_eq_of_ne hl (by decide), hk⟩
  refine ⟨fun h1 => ?_, fun h1 h2 => ?_, fun h1 h2 h3 => ?_, fun h1 h2 h3 => ⟨fun h4 => ?_, fun h4 => ?_⟩⟩
  all_goals refine (if_neg hfirst).trans ?_
  · exact if_pos (hheld.2 h1)
  all_goals refine (if_neg (mt hheld.1 h1)).trans ?_
  · exact if_pos h2
  all_goals refine (if_neg h2).trans ?_
  · exact if_pos (hgathers.2 h3)
  all_goals refine (if_neg (mt hgathers.1 h3)).trans ?_
  · exact if_pos (hrelied.2 h4)
  · exact if_neg (mt hrelied.1 h4)

/-! ### LOAD STATION: the new settings act (R14, R17, R125) -/

/-- A change of kind that R16 refuses changes nothing. -/
theorem exec_loadStation_refused {s : State} {tag n : Nat} {o : StationOperand} {st : StationId} {c : StationCfg}
    (h : s.nextBlock = some (tag, .loadStation o)) (ho : o.station = st.val)
    (hc : s.work.stationSettings st o = .ok c) (hn : s.work.kindInUse st c.kind = some n) :
    exec .loadStation s = .next (s.finishBlock { result := .inUse, operands := [.code n] }) := by
  rw [exec_loadStation h]
  simp only [loadStation, ho, stationOf_val, hc, hn]
  rfl

/-- Settings that pass every test are applied (R14 to R17). -/
theorem exec_loadStation_applies {s : State} {tag : Nat} {o : StationOperand} {st : StationId} {c : StationCfg}
    (h : s.nextBlock = some (tag, .loadStation o)) (ho : o.station = st.val)
    (hc : s.work.stationSettings st o = .ok c) (hn : s.work.kindInUse st c.kind = none) :
    exec .loadStation s = .next ((s.commit (s.work.applyStation st c)).finishBlock { result := .ok }) := by
  rw [exec_loadStation h]
  simp only [loadStation, ho, stationOf_val, hc, hn]

/-- The divert state that a backlog calls for by new settings, from each of the two (R17, R119). -/
theorem Station.divertsAt_normal {x : Station} (h : x.diverting = false) (c : StationCfg) (b : Nat) :
    ({ x with cfg := c } : Station).divertsAt b = (decide (0 < c.divertLevel) && decide (c.divertLevel ≤ b)) := by
  simp [Station.divertsAt, h]
theorem Station.divertsAt_diverting {x : Station} (h : x.diverting = true) (c : StationCfg) (b : Nat) :
    ({ x with cfg := c } : Station).divertsAt b = (decide (0 < c.divertLevel) && decide (c.returnLevel < b)) := by
  simp [Station.divertsAt, h]

/-- A station's divert state stays where its backlog calls for it (R119). -/
theorem Work.divertTest_stays {w : Work} {st : StationId}
    (h : (w.station st).divertsAt (w.backlog st) = (w.station st).diverting) : w.divertTest st = w :=
  if_pos h

/-- A station's divert state turns where its backlog calls for the other (R119). -/
theorem Work.divertTest_turns {w : Work} {st : StationId} {d : Bool}
    (h : (w.station st).divertsAt (w.backlog st) = d) (hd : d ≠ (w.station st).diverting) :
    w.divertTest st = (w.onStation st fun s => { s with diverting := d }).raise
      (if d then .divertOn st (w.backlog st) else .divertOff st (w.backlog st)) := by
  subst h
  exact if_neg hd

theorem Work.station_onStation (w : Work) (st : StationId) (f : Station → Station) :
    (w.onStation st f).station st = f (w.station st) :=
  modify_self w.kr.stations st f

theorem modify_modify {α : Type} {n : Nat} (v : Vector α n) (i : Fin n) (f g : α → α) :
    modify (modify v i f) i g = v.set i (g (f v[i])) := by
  rw [modify, modify_self, modify, Vector.set_set]

/-- The first load of a station puts its port into service with a PROBE (R125). -/
theorem Work.applyStation_first {w : Work} {st : StationId} {c : StationCfg} (h : (w.station st).cfg.loaded = false) :
    w.applyStation st c = ((w.onStation st fun s => { s with cfg := c }).onPort st
      fun p => { p with probe := some 0 }).emit (.output (.probe st (probeFrame st))) := by
  simp [Work.applyStation, h]

/-- A later load compares the backlog with the new levels (R17). -/
theorem Work.applyStation_later {w : Work} {st : StationId} {c : StationCfg} (h : (w.station st).cfg.loaded = true) :
    w.applyStation st c = (w.onStation st fun s => { s with cfg := c }).divertTest st := by
  simp [Work.applyStation, h]

/-- A later load carried out: the divert state turns, or stays, as the backlog calls for by the new levels (R17,
R119). -/
theorem State.commit_applyStation_later {s : State} {st : StationId} {c : StationCfg} {d : Bool}
    (h : s.kr.stations[st].cfg.loaded = true)
    (hd : ({ s.kr.stations[st] with cfg := c } : Station).divertsAt (s.backlogOf st) = d) :
    s.commit (s.work.applyStation st c) =
      if d = s.kr.stations[st].diverting then
        { s with kr := { s.kr with stations := s.kr.stations.set st { s.kr.stations[st] with cfg := c } } }
      else State.raise (if d then .divertOn st (s.backlogOf st) else .divertOff st (s.backlogOf st))
        { s with kr := { s.kr with
          stations := s.kr.stations.set st { s.kr.stations[st] with cfg := c, diverting := d } } } := by
  rw [Work.applyStation_later (w := s.work) h]
  have hset := modify_modify s.kr.stations st (fun x => { x with cfg := c }) (fun x => { x with diverting := d })
  have hstation : (s.work.onStation st fun x => { x with cfg := c }).station st =
      { s.kr.stations[st] with cfg := c } := Work.station_onStation _ _ _
  have hbacklog : (s.work.onStation st fun x => { x with cfg := c }).backlog st = s.backlogOf st := by
    rw [← State.work_backlog, Work.backlog, hstation]
    rfl
  rw [← hset]
  split
  · rename_i hsame
    rw [Work.divertTest_stays (by rw [hbacklog, hstation, hd, hsame])]
    rfl
  · rename_i hturn
    rw [Work.divertTest_turns (by rw [hbacklog, hstation, hd]) (by rw [hstation]; exact hturn), hbacklog]
    rfl

/-- LOAD STAND with valid settings loads the stand, unless an open check holds the policy or the expo station (R12). -/
theorem exec_loadStand_valid {s : State} {tag : Nat} {sd : StandId} {p : FirePolicy} {expo : Option StationId}
    {floor : Nat} (hfloor : floor ≤ 50000)
    (hexpo : ∀ x ∈ expo, s.kr.stations[x].cfg.loaded = true ∧ s.kr.stations[x].cfg.kind = .expo)
    (hnext : s.nextBlock = some (tag, .loadStand sd.val (policyByte p) (optStationByte expo) floor)) :
    ((∀ c ∈ s.ce.checks, c.stand ≠ sd) ∨ (s.ce.stands[sd].policy = p ∧ s.ce.stands[sd].expo = expo) →
      exec .loadStand s = .next (State.finishBlock { result := .ok } { s with ce := { s.ce with
        stands := s.ce.stands.set sd
          { s.ce.stands[sd] with loaded := true, policy := p, expo := expo, floor := floor } } })) ∧
    ((∃ c ∈ s.ce.checks, c.stand = sd) → ¬ (s.ce.stands[sd].policy = p ∧ s.ce.stands[sd].expo = expo) →
      exec .loadStand s = .next (s.finishBlock { result := .inUse })) := by
  rw [exec_loadStand hnext, loadStand_valid hfloor fun x hx => Work.gathers_iff.2 (hexpo x hx)]
  refine ⟨fun h => ?_, fun h1 h2 => ?_⟩
  · rw [if_neg]
    · rfl
    · rintro ⟨hopen, hkept⟩
      obtain ⟨c, hc, hsd⟩ := Work.openChecks_pos_iff.1 hopen
      exact h.elim (fun h => h c hc hsd) hkept
  · rw [if_pos ⟨Work.openChecks_pos_iff.2 h1, h2⟩]
    rfl

/-- LOAD STATION names the first field that fails its check (R15). -/
theorem exec_loadStation_names {s : State} {tag : Nat} {o : StationOperand} {st : StationId} {kind : StationKind}
    (hnext : s.nextBlock = some (tag, .loadStation o)) (ho : o.station = st.val) (hk : kindOf o.kind = some kind) :
    let fails := fun (n : Nat) =>
      exec .loadStation s = .next (s.finishBlock { result := .badValue, operands := [.index (some n)] })
    let taken := durationOr 5 o.takenTimeout
    let hold := durationOr 60 o.holdLimit
    let levels := (o.divertLevel = 0 → o.returnLevel = 0) ∧ (0 < o.divertLevel → o.returnLevel < o.divertLevel)
    (o.rate ∉ [19200, 38400, 57600, 115200] → fails 3) ∧
    (o.rate ∈ [19200, 38400, 57600, 115200] →
      (128 < o.divertLevel → fails 4) ∧
      (o.divertLevel ≤ 128 → ¬ levels → fails 5) ∧
      (o.divertLevel ≤ 128 → levels →
        (taken < 1 ∨ 30 < taken → fails 7) ∧
        (1 ≤ taken → taken ≤ 30 →
          (hold < 5 ∨ 300 < hold → fails 8) ∧
          (5 ≤ hold → hold ≤ 300 →
            (o.goAny ∉ [0, 1, 0xFF] → fails 9) ∧
            (o.goAny ∈ [0, 1, 0xFF] → o.fallback ≠ 0xFF →
              (∀ x : StationId, ¬ (o.fallback = x.val ∧ s.work.servesAs st kind x)) → fails 6))))) := by
  intro fails taken hold levels
  have named {n : Nat} (h : s.work.stationSettings st o = .error n) : fails n := exec_loadStation_fails hnext ho h
  have hsettings : s.work.stationSettings st o = s.work.stationSettings st o := rfl
  conv_rhs at hsettings => rw [Work.stationSettings]; simp only [hk]
  refine ⟨fun h => named ?_, fun hrate => ⟨fun h => named ?_, fun hd h => named ?_, fun hd hl => ⟨fun h => named ?_,
    fun ht ht' => ⟨fun h => named ?_, fun hh hh' => ?_⟩⟩⟩⟩
  · exact hsettings.trans (if_pos h)
  all_goals replace hsettings := hsettings.trans (if_neg (not_not.2 hrate))
  · exact hsettings.trans (if_pos h)
  all_goals replace hsettings := hsettings.trans (if_neg (by omega))
  · exact hsettings.trans (if_pos (by omega))
  all_goals replace hsettings := hsettings.trans (if_neg (by omega))
  · exact hsettings.trans (if_pos h)
  all_goals replace hsettings := hsettings.trans (if_neg (by omega))
  · exact hsettings.trans (if_pos h)
  obtain ⟨hnone, hsome⟩ := Work.stationSettings_passes ⟨hk, hrate, hd, hl, ⟨ht, ht'⟩, ⟨hh, hh'⟩⟩ s.work st
  refine ⟨fun h => named (hnone (goAnyOf_none h)), fun h hf hx => named ?_⟩
  obtain ⟨g, hg⟩ := goAnyOf_some h
  refine (hsome g hg).1 fun fb hfb hall => ?_
  rw [optStationOf, if_neg hf, stationOf] at hfb
  split at hfb
  · rename_i h8
    cases hfb
    exact hx ⟨o.fallback, h8⟩ ⟨rfl, hall _ rfl⟩
  · cases hfb

/-- Settles O28. -/
theorem standAndStationLoadsApply : Obligations.StandAndStationLoadsApply := by
  refine ⟨fun s tag sd p expo floor hfloor hexpo hnext => exec_loadStand_valid hfloor hexpo hnext,
    fun s tag o hnext => ?_, fun s tag st c o hfit hw hnext => ?_⟩
  · refine ⟨fun h => ?_, fun st ho => ⟨fun h => ?_, fun h => ?_⟩⟩
    · rw [exec_loadStation hnext, loadStation, stationOf_none h]
      rfl
    · exact exec_loadStation_fails hnext ho (by rw [Work.stationSettings, kindOf_none h])
    · obtain ⟨kind, hk, hexpo⟩ := kindOf_some h
      have hserves (x : StationId) : s.work.servesAs st kind x ↔ x ≠ st ∧ s.kr.stations[x].cfg.loaded = true ∧
          (s.kr.stations[x].cfg.kind = .expo ↔ o.kind = 3) := by
        rw [← hexpo]
        rfl
      have hnames := exec_loadStation_names hnext ho hk
      simp only [hserves] at hnames
      exact hnames
  · have ho : o.station = st.val := hw.1
    have hc := State.stationSettings_written hfit hw
    have applied (hn : s.work.kindInUse st c.kind = none) := exec_loadStation_applies hnext ho hc hn
    refine ⟨fun hfirst => ?_, fun hl hk => ?_, fun hl hkept => ?_⟩
    · rw [applied (State.kindInUse_kept (.inl hfirst)), Work.applyStation_first (w := s.work) hfirst]
      rfl
    · obtain ⟨h1, h2, h3, h4⟩ := State.kindInUse_changed hl hk
      have refused {n : Nat} (h : s.work.kindInUse st c.kind = some n) := exec_loadStation_refused hnext ho hc h
      exact ⟨fun a => refused (h1 a), fun a b => refused (h2 a b), fun a b d => refused (h3 a b d),
        fun a b d e => refused ((h4 a b d).1 e)⟩
    · have hn : s.work.kindInUse st c.kind = none := by
        by_cases hk : s.kr.stations[st].cfg.kind = c.kind
        · exact State.kindInUse_kept (.inr hk)
        · obtain ⟨h1, h2, h3, h4⟩ := hkept.resolve_left hk
          exact ((State.kindInUse_changed hl hk).2.2.2 h1 h2 h3).2 h4
      have turns {d : Bool} (hd : ({ s.kr.stations[st] with cfg := c } : Station).divertsAt (s.backlogOf st) = d) :=
        (applied hn).trans (congrArg (fun x => Host.Outcome.next (State.finishBlock { result := .ok } x))
          (State.commit_applyStation_later hl hd))
      refine ⟨fun hd h1 h2 => ?_, fun hd h => ?_, fun hd h => ?_, fun hd h1 h2 => ?_⟩
      · rw [turns (d := true) (by rw [Station.divertsAt_normal hd]; simp [h1, h2]), if_neg (by rw [hd]; decide)]
        rfl
      · rw [turns (d := false) (by rw [Station.divertsAt_diverting hd]; rcases h with h | h <;> simp [h]),
          if_neg (by rw [hd]; decide)]
        rfl
      · rw [turns (d := false) (by rw [Station.divertsAt_normal hd]; rcases h with h | h <;> simp [h]),
          if_pos hd.symm]
      · rw [turns (d := true) (by rw [Station.divertsAt_diverting hd]; simp [h1, h2]), if_pos hd.symm]

end Sys2Proof.Machine
end

section
/-! PROOFS. The kitchen as the Check Engine's work meets it: what the Router's operations leave alone, and what a firing
does to the lines of its check (6.2, 6.3). -/
namespace Sys2Proof.Machine

/-! ### Keyed tables -/

theorem lookupBy_mapBy_self {α : Type} {key : α → Nat} {k : Nat} {f : α → α} (hf : ∀ x, key (f x) = key x)
    (l : List α) : lookupBy key k (mapBy key k f l) = (lookupBy key k l).map f := by
  induction l with
  | nil => rfl
  | cons x xs ih =>
    unfold lookupBy mapBy at *
    by_cases h : key x = k
    · simp [h, hf]
    · simpa [h] using ih

theorem lookupBy_mapBy_other {α : Type} {key : α → Nat} {k m : Nat} {f : α → α} (hf : ∀ x, key (f x) = key x)
    (h : m ≠ k) (l : List α) : lookupBy key m (mapBy key k f l) = lookupBy key m l := by
  induction l with
  | nil => rfl
  | cons x xs ih =>
    unfold lookupBy mapBy at *
    by_cases hx : key x = k
    · have hm : ¬ k = m := fun e => h e.symm
      simpa [hx, hf, hm] using ih
    · simp only [List.map_cons, beq_eq_false_iff_ne.2 hx, Bool.false_eq_true, if_false, List.find?_cons, ih]

/-! ### What work in the kitchen leaves alone -/

/-- A piece of work has changed the Router and the ports, offered a try of the Fire Backlog and sent things, at most. -/
structure Work.KitchenOnly (w v : Work) : Prop where
  ce  : v.ce = { w.ce with tryOffered := v.ce.tryOffered }
  tu  : v.tu = w.tu
  sj  : v.sj = w.sj
  now : v.now = w.now

theorem Work.KitchenOnly.refl (w : Work) : w.KitchenOnly w := ⟨rfl, rfl, rfl, rfl⟩

theorem Work.KitchenOnly.trans {u v w : Work} (h : u.KitchenOnly v) (h' : v.KitchenOnly w) : u.KitchenOnly w :=
  ⟨by rw [h'.ce, h.ce], h'.tu.trans h.tu, h'.sj.trans h.sj, h'.now.trans h.now⟩

theorem Work.KitchenOnly.backlog {w v : Work} (h : w.KitchenOnly v) : v.ce.backlog = w.ce.backlog := by
  rw [h.ce]

/-- Work that leaves the Check Engine, the Tender Unit, the journal and the clock is work in the kitchen. -/
theorem Work.KitchenOnly.of_eq {w v : Work} (hce : v.ce = w.ce) (htu : v.tu = w.tu) (hsj : v.sj = w.sj)
    (hnow : v.now = w.now) : w.KitchenOnly v :=
  ⟨by rw [hce], htu, hsj, hnow⟩

theorem Work.KitchenOnly.foldl {α : Type} {f : Work → α → Work} (hf : ∀ (w : Work) x, w.KitchenOnly (f w x))
    (xs : List α)
    (w : Work) : w.KitchenOnly (xs.foldl f w) := by
  induction xs generalizing w with
  | nil => exact .refl w
  | cons x xs ih => exact (hf w x).trans (ih _)

theorem Work.divertTest_kitchenOnly (st : StationId) (w : Work) : w.KitchenOnly (w.divertTest st) := by
  by_cases h : (w.station st).divertsAt (w.backlog st) = (w.station st).diverting
  · rw [Work.divertTest_stays h]
    exact .refl w
  · rw [Work.divertTest_turns rfl h]
    exact .of_eq rfl rfl rfl rfl

theorem Work.noteClear_kitchenOnly (sd : StandId) (before : Nat) (w : Work) :
    w.KitchenOnly (w.noteClear sd before) := by
  unfold Work.noteClear
  split
  · exact .of_eq rfl rfl rfl rfl
  · exact .refl w

theorem Work.unplace_kitchenOnly (n : Nat) (st : StationId) (w : Work) : w.KitchenOnly (w.unplace n st) := by
  unfold Work.unplace
  split
  · exact .of_eq rfl rfl rfl rfl
  · exact .of_eq rfl rfl rfl rfl

theorem Work.freeRaw_kitchenOnly (n : Nat) (w : Work) : w.KitchenOnly (w.freeRaw n) := by
  unfold Work.freeRaw
  split
  · exact .refl w
  · refine Work.KitchenOnly.trans ?_ (Work.noteClear_kitchenOnly _ _ _)
    exact (Work.unplace_kitchenOnly n _ w).trans ⟨rfl, rfl, rfl, rfl⟩

theorem Work.freeTicket_kitchenOnly (n : Nat) (w : Work) : w.KitchenOnly (w.freeTicket n) := by
  unfold Work.freeTicket
  split
  · exact .refl w
  · exact (Work.freeRaw_kitchenOnly n w).trans (Work.divertTest_kitchenOnly _ _)

theorem Work.queueNormal_kitchenOnly (n : Nat) (st : StationId) (w : Work) : w.KitchenOnly (w.queueNormal n st) := by
  refine Work.KitchenOnly.trans ?_ (Work.divertTest_kitchenOnly st _)
  exact .of_eq rfl rfl rfl rfl

theorem Work.queueVoid_kitchenOnly (n : Nat) (st : StationId) (w : Work) : w.KitchenOnly (w.queueVoid n st) := by
  refine Work.KitchenOnly.trans ?_ (Work.divertTest_kitchenOnly st _)
  exact .of_eq rfl rfl rfl rfl

theorem Work.takeNumbers_kitchenOnly (k : Nat) (w : Work) : w.KitchenOnly (w.takeNumbers k).2 := by
  induction k generalizing w with
  | zero => exact .refl w
  | succ k ih => exact Work.KitchenOnly.trans (v := w.takeNumber.2) (.of_eq rfl rfl rfl rfl) (ih _)

theorem Work.takeNumbers_length (k : Nat) (w : Work) : (w.takeNumbers k).1.length = k := by
  induction k generalizing w with
  | zero => rfl
  | succ k ih => exact congrArg (· + 1) (ih w.takeNumber.2)

/-! ### Lines sent to the kitchen (R45, R47, R105 to R107) -/

/-- A line on its way to the kitchen changes in its state, its ticket and its ASSEMBLY at most. -/
def Line.SentAs (l m : Line) : Prop :=
  { l with state := m.state, ticket := m.ticket, assembly := m.assembly } = m

theorem Line.SentAs.refl (l : Line) : l.SentAs l := rfl

theorem Line.SentAs.trans {l m k : Line} (h : l.SentAs m) (h' : m.SentAs k) : l.SentAs k := by
  unfold Line.SentAs at *
  rw [← h', ← h]

/-- A check with its lines changed one by one. -/
def Check.mapLines (f : Line → Line) (c : Check) : Check := { c with lines := c.lines.map f }

@[simp] theorem Check.mapLines_number (f : Line → Line) (c : Check) : (c.mapLines f).number = c.number := rfl
@[simp] theorem Check.mapLines_lines (f : Line → Line) (c : Check) : (c.mapLines f).lines = c.lines.map f := rfl

theorem Check.mapLines_mapLines (f g : Line → Line) (c : Check) :
    (c.mapLines f).mapLines g = c.mapLines fun l => g (f l) := by
  simp [Check.mapLines]

/-- Changing the lines of some indices changes the lines one by one. -/
theorem Check.onLines_index (is : List Nat) (f : Line → Line) :
    Check.onLines (fun l => decide (l.index ∈ is)) f = Check.mapLines fun l => if l.index ∈ is then f l else l := by
  funext c
  simp [Check.onLines, Check.mapLines]

/-- Lines of check `n`, with indices among `is`, have been sent as `f` says: their check has changed in nothing else,
and beside it only the Fire Backlog and the kitchen. -/
structure Work.Sends (n : Nat) (is : List Nat) (f : Line → Line) (w v : Work) : Prop where
  ce    : v.ce = { w.ce with checks := v.ce.checks, backlog := v.ce.backlog, tryOffered := v.ce.tryOffered }
  self  : ∀ c, w.check? n = some c → v.check? n = some (c.mapLines f)
  other : ∀ m, m ≠ n → v.check? m = w.check? m
  tu    : v.tu = w.tu
  sj    : v.sj = w.sj
  now   : v.now = w.now
  sent  : ∀ l : Line, l.SentAs (f l)
  rest  : ∀ l : Line, l.index ∉ is → f l = l

theorem Work.Sends.index {n : Nat} {is : List Nat} {f : Line → Line} {w v : Work} (h : w.Sends n is f v) (l : Line) :
    (f l).index = l.index := by
  rw [← h.sent l]

theorem Check.mapLines_id (c : Check) : c.mapLines id = c := by
  simp [Check.mapLines]

theorem Work.KitchenOnly.check {w v : Work} (h : w.KitchenOnly v) (n : Nat) : v.check? n = w.check? n := by
  rw [Work.check?, h.ce]
  rfl

theorem Work.KitchenOnly.sends {w v : Work} (h : w.KitchenOnly v) (n : Nat) (is : List Nat) : w.Sends n is id v where
  ce := by rw [h.ce]
  self := fun c hc => by rw [h.check, hc, Check.mapLines_id]
  other := fun m _ => h.check m
  tu := h.tu
  sj := h.sj
  now := h.now
  sent := Line.SentAs.refl
  rest := fun _ _ => rfl

theorem Work.Sends.trans {n : Nat} {is js ks : List Nat} {f g : Line → Line} {u v w : Work} (h : u.Sends n is f v)
    (h' : v.Sends n js g w) (hi : is ⊆ ks) (hj : js ⊆ ks) : u.Sends n ks (fun l => g (f l)) w where
  ce := by rw [h'.ce, h.ce]
  self := fun c hc => by rw [h'.self _ (h.self c hc), Check.mapLines_mapLines]
  other := fun m hm => (h'.other m hm).trans (h.other m hm)
  tu := h'.tu.trans h.tu
  sj := h'.sj.trans h.sj
  now := h'.now.trans h.now
  sent := fun l => (h.sent l).trans (h'.sent (f l))
  rest := fun l hl => by
    rw [h.rest l fun hm => hl (hi hm), h'.rest l fun hm => hl (hj hm)]

/-- A change of one check is seen at its number and at no other. -/
theorem Work.check?_onCheck_self {n : Nat} {c : Check} {w : Work} {f : Check → Check}
    (hf : ∀ c, (f c).number = c.number) (hc : w.check? n = some c) : (w.onCheck n f).check? n = some (f c) := by
  unfold Work.check? at *
  rw [Work.onCheck_ce, lookupBy_mapBy_self hf, hc]
  rfl

theorem Work.check?_onCheck_other {n m : Nat} {w : Work} {f : Check → Check} (hf : ∀ c, (f c).number = c.number)
    (hm : m ≠ n) : (w.onCheck n f).check? m = w.check? m := by
  unfold Work.check?
  rw [Work.onCheck_ce, lookupBy_mapBy_other hf hm]

/-! ### The tickets of a firing (R105) -/

/-- Lines picked by index are changed within their check. -/
theorem Work.onLines_sends (n : Nat) (is : List Nat) {f : Line → Line} (hf : ∀ l : Line, l.SentAs (f l)) (w : Work) :
    w.Sends n is (fun l => if l.index ∈ is then f l else l)
      (w.onCheck n (Check.onLines (fun l => decide (l.index ∈ is)) f)) where
  ce := rfl
  self := fun c hc => by rw [Check.onLines_index, Work.check?_onCheck_self (by simp) hc]
  other := fun m hm => by rw [Check.onLines_index, Work.check?_onCheck_other (by simp) hm]
  tu := rfl
  sj := rfl
  now := rfl
  sent := fun l => by
    split
    · exact hf l
    · exact .refl l
  rest := fun l hl => if_neg hl

/-- The lines sent are FIRED, or FIRING, and the Fire Backlog is as it was. -/
structure Work.SendsAll (n : Nat) (is : List Nat) (st : LineState) (f : Line → Line) (w v : Work) : Prop
    extends Work.Sends n is f w v where
  state   : ∀ l : Line, l.index ∈ is → (f l).state = st
  backlog : v.ce.backlog = w.ce.backlog

/-- What the kitchen does before or after lines are sent adds nothing to what is sent. -/
theorem Work.SendsAll.kitchen {n : Nat} {is : List Nat} {st : LineState} {f : Line → Line} {u v w x : Work}
    (h : v.SendsAll n is st f w) (hb : u.KitchenOnly v) (ha : w.KitchenOnly x) : u.SendsAll n is st f x where
  toSends := ((hb.sends n is).trans (h.toSends.trans (ha.sends n is) (List.Subset.refl _) (List.Subset.refl _))
    (List.Subset.refl _) (List.Subset.refl _))
  state := h.state
  backlog := ha.backlog.trans (h.backlog.trans hb.backlog)

/-- One NORMAL ticket of a firing sends the lines of its group, and they are FIRED (R105). -/
theorem Work.makeNormal_sends (c : Check) (asm : Option (Nat × List Nat)) (n : Nat) (st : StationId) (g : List Line)
    (w : Work) : ∃ f, w.SendsAll c.number (g.map Line.index) .fired f (w.makeNormal c asm n st g) := by
  have hqueue (t : Ticket) : w.KitchenOnly ((w.putTicket t).queueNormal n st) :=
    (Work.KitchenOnly.of_eq (w := w) (v := w.putTicket t) rfl rfl rfl rfl).trans (Work.queueNormal_kitchenOnly n st _)
  refine ⟨_, Work.SendsAll.kitchen ⟨Work.onLines_sends c.number (g.map Line.index) ?_ _, fun l hl => ?_, rfl⟩ (hqueue _)
    (.refl _)⟩
  · exact fun l => rfl
  · simp only [hl, if_true]

/-- The NORMAL tickets of a firing, made one after another, send the lines of all their groups (R105). -/
theorem Work.makeNormals_sends (c : Check) (asm : Option (Nat × List Nat)) (xs : List (Nat × StationId × List Line))
    (w : Work) : ∃ f, w.SendsAll c.number (xs.flatMap fun x => x.2.2.map Line.index) .fired f
      (xs.foldl (fun w x => w.makeNormal c asm x.1 x.2.1 x.2.2) w) := by
  induction xs generalizing w with
  | nil => exact ⟨id, (Work.KitchenOnly.refl w).sends _ _, by simp, rfl⟩
  | cons x xs ih =>
    obtain ⟨f, hf⟩ := w.makeNormal_sends c asm x.1 x.2.1 x.2.2
    obtain ⟨g, hg⟩ := ih (w.makeNormal c asm x.1 x.2.1 x.2.2)
    refine ⟨fun l => g (f l), hf.toSends.trans hg.toSends (by simp) (by simp), fun l hl => ?_,
      hg.backlog.trans hf.backlog⟩
    by_cases h : l.index ∈ xs.flatMap fun x => x.2.2.map Line.index
    · exact hg.state _ (by rwa [hf.index])
    · rw [hg.rest _ (by rwa [hf.index])]
      simp only [List.flatMap_cons, List.mem_append] at hl
      exact hf.state l (hl.resolve_right h)

/-- The line indices that a plan sends. -/
def Plan.sent (p : Plan) : List Nat := p.normals.flatMap fun q => q.2.map Line.index

/-- The tickets of a plan send the lines of its groups, and they are FIRED (R105). -/
theorem Work.makeTickets_sends (c : Check) (p : Plan) (w : Work) :
    ∃ f, w.SendsAll c.number p.sent .fired f (w.makeTickets c p) := by
  have hnums := w.takeNumbers_kitchenOnly p.size
  have hzip : ((w.takeNumbers p.size).1.zip p.normals).flatMap (fun x => x.2.2.map Line.index) = p.sent := by
    have hlen : p.normals.length ≤ (w.takeNumbers p.size).1.length := by
      rw [Work.takeNumbers_length, Plan.size]
      omega
    rw [Plan.sent, ← List.map_snd_zip hlen, List.flatMap_map, List.map_snd_zip hlen]
  generalize hr : w.takeNumbers p.size = r at hnums hzip
  obtain ⟨ns, w₁⟩ := r
  have hmade (asm : Option (Nat × List Nat)) : ∃ f, w.SendsAll c.number p.sent .fired f
      ((ns.zip p.normals).foldl (fun w x => w.makeNormal c asm x.1 x.2.1 x.2.2) w₁) := by
    obtain ⟨f, hf⟩ := w₁.makeNormals_sends c asm (ns.zip p.normals)
    rw [hzip] at hf
    exact ⟨f, hf.kitchen hnums (.refl _)⟩
  simp only [Work.makeTickets, hr]
  split
  · obtain ⟨f, hf⟩ := hmade _
    exact ⟨f, hf.kitchen (.refl w) (.of_eq rfl rfl rfl rfl)⟩
  · exact hmade _

/-! ### Firings (R45, R104 to R107) -/

/-- A plan sends just the lines it is made for: each has a target among the stations (R104, R105). -/
theorem Work.plan_sent (w : Work) (c : Check) (ls : List Line) (i : Nat) :
    i ∈ (w.plan c ls).sent ↔ i ∈ ls.map Line.index := by
  simp only [Plan.sent, Work.plan, List.mem_flatMap, List.mem_filterMap]
  constructor
  · rintro ⟨q, ⟨st, -, hq⟩, hi⟩
    split at hq
    · cases hq
    · cases hq
      obtain ⟨l, hl, rfl⟩ := List.mem_map.1 hi
      exact List.mem_map_of_mem (List.mem_of_mem_filter hl)
  · intro hi
    obtain ⟨l, hl, rfl⟩ := List.mem_map.1 hi
    have hmem : l ∈ ls.filter fun x => decide (w.target x = w.target l) := by simp [hl]
    refine ⟨(w.target l, ls.filter fun x => decide (w.target x = w.target l)),
      ⟨w.target l, mem_allStations _, ?_⟩, List.mem_map_of_mem hmem⟩
    split
    · rename_i hnil
      simp [hnil] at hmem
    · rfl

theorem mem_insertIndex (i j : Nat) (is : List Nat) : j ∈ insertIndex i is ↔ j = i ∨ j ∈ is := by
  induction is with
  | nil => simp [insertIndex]
  | cons k ks ih =>
    unfold insertIndex
    split
    · simp
    · split
      · rename_i h; subst h; simp
      · simp only [List.mem_cons, ih]; tauto

/-- A firing that joins the Fire Backlog stands in its check's entry (R107). -/
theorem mem_joinBacklog (n : Nat) (ls : List Nat) (bl : List Firing) :
    ∃ e ∈ joinBacklog n ls bl, e.check = n ∧ ∀ i ∈ ls, i ∈ e.lines := by
  unfold joinBacklog
  split
  · rename_i h
    obtain ⟨e, he, hn⟩ := List.any_eq_true.1 h
    refine ⟨{ e with lines := ls.foldr insertIndex e.lines }, List.mem_map.2 ⟨e, he, by rw [if_pos hn]⟩,
      by simpa using hn, fun i hi => ?_⟩
    induction ls with
    | nil => cases hi
    | cons j js ih =>
      refine (mem_insertIndex j i _).2 ((List.mem_cons.1 hi).imp_right fun h => ih h)
  · exact ⟨⟨n, ls⟩, by simp, rfl, fun i hi => hi⟩

/-- The tickets made for the lines of a check with given indices send those lines, and they are FIRED (R105). -/
theorem Work.makeTickets_lines (c : Check) (is : List Nat) (w : Work) :
    ∃ f, w.Sends c.number is f (w.makeTickets c (w.plan c (c.lines.filter fun l => decide (l.index ∈ is)))) ∧
      (w.makeTickets c (w.plan c (c.lines.filter fun l => decide (l.index ∈ is)))).ce.backlog = w.ce.backlog ∧
      ∀ l : Line, l.index ∈ is → l.index ∈ c.lines.map Line.index → (f l).state = .fired := by
  obtain ⟨f, hf⟩ := w.makeTickets_sends c (w.plan c (c.lines.filter fun l => decide (l.index ∈ is)))
  refine ⟨f, ?_, hf.backlog, fun l hl hm => hf.state l ((w.plan_sent c _ _).2 ?_)⟩
  · refine hf.toSends.trans ((Work.KitchenOnly.refl _).sends c.number []) (fun i hi => ?_) (by simp)
    obtain ⟨l, hl, rfl⟩ := List.mem_map.1 ((w.plan_sent c _ i).1 hi)
    simpa using List.of_mem_filter hl
  · obtain ⟨m, hm, he⟩ := List.mem_map.1 hm
    exact List.mem_map.2 ⟨m, by simp [hm, he, hl], he⟩

/-- A line that begins to fire (R45). -/
def Line.begin (is : List Nat) (l : Line) : Line := if l.index ∈ is then { l with state := .firing } else l

@[simp] theorem Line.begin_index (is : List Nat) (l : Line) : (l.begin is).index = l.index := by
  unfold Line.begin; split <;> rfl

theorem Line.begin_state {is : List Nat} {l : Line} (h : l.index ∈ is) : (l.begin is).state = .firing := by
  simp [Line.begin, h]

/-- Lines of a check begin to fire (R45). -/
def Work.beginFiring (n : Nat) (is : List Nat) (w : Work) : Work :=
  w.onCheck n (Check.onLines (fun l => decide (l.index ∈ is)) fun l => { l with state := .firing })

theorem Work.beginFiring_sends (n : Nat) (is : List Nat) (w : Work) :
    w.Sends n is (Line.begin is) (w.beginFiring n is) :=
  w.onLines_sends n is (f := fun l => { l with state := .firing }) fun _ => rfl

/-- A firing makes its lines into tickets, or joins the Fire Backlog (R106, R107). -/
theorem Work.fire_cases {n : Nat} {c : Check} {w : Work} {is : List Nat} (hc : w.check? n = some c) (hne : is ≠ []) :
    (∃ d, d = c.mapLines (Line.begin is) ∧ w.fire n is = (w.beginFiring n is).makeTickets d
      ((w.beginFiring n is).plan d (d.lines.filter fun l => decide (l.index ∈ is)))) ∨
    w.fire n is = { w.beginFiring n is with
      ce := { (w.beginFiring n is).ce with backlog := joinBacklog n is (w.beginFiring n is).ce.backlog } } := by
  have hd := (w.beginFiring_sends n is).self c hc
  simp only [Work.beginFiring] at hd ⊢
  simp only [Work.fire, hne, if_false, hd]
  split
  · exact .inl ⟨_, rfl, rfl⟩
  · exact .inr rfl

/-- The lines of a check with indices among `is` are all FIRED, or all FIRING in the check's entry of the Fire Backlog
(R45, R106, R107). -/
def Work.FiresLines (v : Work) (c : Check) (is : List Nat) (f : Line → Line) : Prop :=
  (∀ l ∈ c.lines, l.index ∈ is → (f l).state = .fired) ∨
  (∀ l ∈ c.lines, l.index ∈ is → (f l).state = .firing) ∧
    ∃ e ∈ v.ce.backlog, e.check = c.number ∧ ∀ i ∈ is, i ∈ e.lines

/-- What a firing does to the lines of its check (R45, R106, R107). -/
theorem Work.fire_sends {n : Nat} {c : Check} {w : Work} (hc : w.check? n = some c) (is : List Nat) :
    ∃ f, w.Sends n is f (w.fire n is) ∧ (w.fire n is).FiresLines c is f := by
  have hcn : c.number = n := (lookupBy_some hc).2
  by_cases hnil : is = []
  · subst hnil
    exact ⟨id, (Work.KitchenOnly.refl w).sends n [], .inl (by simp)⟩
  have hbegin := w.beginFiring_sends n is
  rcases Work.fire_cases hc hnil with ⟨d, hd, hfire⟩ | hfire
  · obtain ⟨f, hf, -, hfired⟩ := (w.beginFiring n is).makeTickets_lines d is
    have hn : d.number = n := hd ▸ hcn
    rw [hn] at hf
    rw [hfire]
    refine ⟨_, hbegin.trans hf (List.Subset.refl _) (List.Subset.refl _), .inl fun l hl hi => hfired _ (by simpa) ?_⟩
    rw [hd, Check.mapLines_lines, List.map_map]
    exact List.mem_map.2 ⟨l, hl, rfl⟩
  · refine ⟨Line.begin is, ?_, .inr ⟨fun l _ hi => Line.begin_state hi, ?_⟩⟩
    · rw [hfire]
      exact { hbegin with ce := by rw [hbegin.ce] }
    · rw [hfire]
      exact hcn ▸ mem_joinBacklog n is _

end Sys2Proof.Machine
end

section
/-! PROOFS. A slip taken, its tests, numbers, stock and lines (R8, R32, R40 to R45). -/
namespace Sys2Proof.Machine

/-! ### Numbers (R40) -/

theorem mem_of_nextFree_mem {top : Nat} {held : List Nat} {fuel n : Nat} (h : nextFree top held fuel n ∈ held) :
    ∀ k ≤ fuel, (wrapNext top)^[k] n ∈ held := by
  induction fuel generalizing n with
  | zero =>
    intro k hk
    obtain rfl : k = 0 := by omega
    exact h
  | succ fuel ih =>
    rw [nextFree] at h
    split at h
    · rename_i hn
      intro k hk
      cases k with
      | zero => exact hn
      | succ k => exact ih h k (by omega)
    · rename_i hn
      exact absurd h hn

/-- Counting up from any number, wrapping from the top value to 1. -/
theorem iterate_wrapNext (top n k : Nat) (hk : k ≤ top) :
    (wrapNext top)^[k] n = if n + k ≤ top then n + k else if k = 0 then n else min n top + k - top := by
  induction k with
  | zero => simp
  | succ k ih =>
    rw [Function.iterate_succ_apply', wrapNext]
    have hk' := ih (by omega)
    clear ih
    generalize (wrapNext top)^[k] n = x at hk' ⊢
    simp only [Nat.add_eq_zero_iff, one_ne_zero, and_false, if_false]
    split_ifs at hk' <;> split_ifs <;> omega

/-- A number taken from a counter is free while fewer numbers are held than there are (R40, R85, R102). -/
theorem nextFree_not_mem {top : Nat} {held : List Nat} {fuel : Nat} (hfuel : held.length ≤ fuel)
    (htop : held.length < top) (n : Nat) : nextFree top held fuel n ∉ held := by
  intro h
  have hall := mem_of_nextFree_mem h
  have hinj : ((List.range (held.length + 1)).map fun k => (wrapNext top)^[k] n).Nodup := by
    refine (List.nodup_map_iff_inj_on List.nodup_range).2 fun i hi j hj hij => ?_
    rw [List.mem_range] at hi hj
    rw [iterate_wrapNext top n i (by omega), iterate_wrapNext top n j (by omega)] at hij
    split_ifs at hij <;> omega
  have hsub : ((List.range (held.length + 1)).map fun k => (wrapNext top)^[k] n) ⊆ held := by
    intro x hx
    obtain ⟨k, hk, rfl⟩ := List.mem_map.1 hx
    exact hall k (by rw [List.mem_range] at hk; omega)
  have hlen := (List.subperm_of_subset hinj hsub).length_le
  simp at hlen

/-- A check's number and its stand's pickup number are free when they are taken (R38, R40). -/
theorem Work.nextCheck_free {w : Work} (h : w.ce.checks.length < 512) : ∀ c ∈ w.ce.checks, c.number ≠ w.nextCheck :=
  fun c hc he => nextFree_not_mem (top := 9999) (held := w.ce.checks.map Check.number) (by simp) (by simp; omega)
    w.ce.checkCtr (List.mem_map.2 ⟨c, hc, he⟩)

theorem Work.nextPickup_free {w : Work} (sd : StandId) (h : w.ce.checks.length < 512) :
    ∀ c ∈ w.ce.checks, c.stand = sd → c.pickup ≠ w.nextPickup sd := by
  intro c hc hsd he
  have hlen := List.length_filter_le (fun c : Check => decide (c.stand = sd)) w.ce.checks
  refine nextFree_not_mem (top := 999) (held := (w.ce.checks.filter fun c => decide (c.stand = sd)).map Check.pickup)
    (fuel := w.ce.checks.length) (by simpa using hlen) (by simp only [List.length_map]; omega) (w.stand sd).pickup ?_
  exact List.mem_map.2 ⟨c, List.mem_filter.2 ⟨hc, by simpa using hsd⟩, he⟩

/-! ### A slip taken from the intake (R32 to R34, R41, R42) -/

/-- The head slip leaves the intake and is processed. -/
theorem State.takeSlip_head {want : Slip → Bool} {f : Slip → State → State} {s : State} {x : Slip} {rest : List Slip}
    (h : s.intake.slips = x :: rest) (hw : want x = true) : s.takeSlip want f = f x (s.afterTaking rest) := by
  simp only [State.takeSlip, h, hw, if_true]
  congr 1
  unfold State.setPaused
  split
  · rename_i hp
    simp only [State.afterTaking, Intake.pausedAtTake, State.endWalks] at hp ⊢
    rw [if_pos hp]
  · rename_i hp
    simp only [State.afterTaking, Intake.pausedAtTake] at hp ⊢
    rw [if_neg hp]

/-- Taking a slip changes no till (R33). -/
theorem State.afterTaking_till (rest : List Slip) (s : State) (t : TillId) :
    (s.afterTaking rest).till t = s.till t := by
  simp only [State.till, State.afterTaking]
  split <;> simp

@[simp] theorem State.afterTaking_work (rest : List Slip) (s : State) : (s.afterTaking rest).work = s.work := rfl

/-- What is sent last is carried out last (R41). -/
theorem State.commit_emit (e : Effect) (w : Work) (s : State) : s.commit (w.emit e) = (s.commit w).apply e := by
  simp [State.commit, Work.emit, State.putWork]

/-- A till's slip is one piece of work, with its ANSWER last (R41, R42). -/
theorem State.takeSlip_till {s : State} {t : TillId} {kind : Byte} {content : List Byte} {rest : List Slip}
    (f : TillId → Till → List Byte → Work → SlipAnswer × Work) (h : s.headSlip t kind content rest) :
    s.takeSlip (Slip.isKind kind) (processTill f) =
      ((s.afterTaking rest).commit (f t (s.till t) content s.work).2).post t
        (.answer kind (f t (s.till t) content s.work).1.check (f t (s.till t) content s.work).1.result) := by
  rw [State.takeSlip_head h (by simp [Slip.isKind, Origin.isTill])]
  simp only [processTill, State.doWork, State.afterTaking_work, State.afterTaking_till, State.commit_emit]
  rfl

/-- A remote order is one piece of work, with its ORDER_RESULT last (R41, R59). -/
theorem State.takeSlip_remote {s : State} {ref : Nat} {kind : Byte} {content : List Byte} {rest : List Slip}
    (h : s.intake.slips = { source := .remote ref, kind := kind, content := content } :: rest) :
    s.takeSlip (fun x => !x.source.isTill) processRemote =
      ((s.afterTaking rest).commit (remoteOrder ref content s.work).2).raise
        (.orderResult ref (remoteOrder ref content s.work).1) := by
  rw [State.takeSlip_head h rfl]
  simp only [processRemote, State.doWork, State.afterTaking_work, Work.raise, State.commit_emit]
  rfl

/-! ### The lines of a slip (R42, R174) -/

theorem readLines_length {n pos : Nat} {bs left : List Byte} {ls : List SlipLine}
    (h : readLines pos n bs = .ok (ls, left)) : ls.length = n := by
  fun_induction readLines pos n bs generalizing ls left with
  | case1 => cases h; rfl
  | case2 | case3 | case4 | case5 | case7 => cases h
  | case6 pos n i1 i2 q m rest h1 h2 h3 ls' left' hrest ih =>
    cases h
    exact congrArg (· + 1) (ih hrest)

/-- A slip has 1 to 12 lines (R42). -/
theorem readLineList_length {bs : List Byte} {ls : List SlipLine} (h : readLineList bs = .ok ls) :
    1 ≤ ls.length ∧ ls.length ≤ 12 := by
  unfold readLineList at h
  split at h
  · cases h
  · split at h
    · cases h
    · rename_i hcount
      split at h
      · cases h
      · rename_i hls
        cases h
        have hlen := readLines_length hls
        simp only [Bool.or_eq_true, decide_eq_true_eq, not_or] at hcount
        omega
      · cases h

theorem readOrder_length {bs : List Byte} {notify : Bool} {ls : List SlipLine} (h : readOrder bs = .ok (notify, ls)) :
    1 ≤ ls.length ∧ ls.length ≤ 12 := by
  unfold readOrder at h
  split at h
  · cases h
  · split at h
    · cases h
    · split at h
      · cases h
      · rename_i hls
        cases h
        exact readLineList_length hls

theorem readAdd_length {bs : List Byte} {n : Nat} {ls : List SlipLine} (h : readAdd bs = .ok (n, ls)) :
    1 ≤ ls.length ∧ ls.length ≤ 12 := by
  unfold readAdd at h
  split at h
  · split at h
    · cases h
    · split at h
      · cases h
      · rename_i hls
        cases h
        exact readLineList_length hls
  · cases h

theorem readRemote_length {bs : List Byte} {sd : StandId} {amount : Nat} {ls : List SlipLine}
    (h : readRemote bs = .ok (sd, amount, ls)) : 1 ≤ ls.length ∧ ls.length ≤ 12 := by
  unfold readRemote at h
  split at h
  · split at h
    · cases h
    · split at h
      · cases h
      · rename_i hls
        cases h
        exact readLineList_length hls
  · cases h

/-! ### Tests 3 to 6 of R44 -/

theorem Work.unknownAt_none {w : Work} {ls : List SlipLine} (h : ∀ l ∈ ls, (w.item? l.item).isSome) (i : Nat) :
    w.unknownAt i ls = none := by
  induction ls generalizing i with
  | nil => rfl
  | cons l ls ih =>
    have hl := h l List.mem_cons_self
    rw [Work.unknownAt, if_neg (by simpa [Option.isSome_iff_ne_none] using hl)]
    exact ih (fun x hx => h x (List.mem_cons_of_mem _ hx)) _

/-- The codes of a slip: each once, those of its lines. -/
theorem codesOf_spec (ls : List SlipLine) :
    (codesOf ls).Nodup ∧ ∀ code, code ∈ codesOf ls ↔ ∃ l ∈ ls, l.item = code := by
  have key (cs acc : List Nat) (hacc : acc.Nodup) :
      (cs.foldl (fun cs c => if c ∈ cs then cs else cs ++ [c]) acc).Nodup ∧
        ∀ code, code ∈ cs.foldl (fun cs c => if c ∈ cs then cs else cs ++ [c]) acc ↔ code ∈ acc ∨ code ∈ cs := by
    induction cs generalizing acc with
    | nil => simp [hacc]
    | cons c cs ih =>
      rw [List.foldl_cons]
      split
      · rename_i hc
        obtain ⟨h1, h2⟩ := ih acc hacc
        refine ⟨h1, fun code => (h2 code).trans ?_⟩
        rw [List.mem_cons]
        constructor
        · tauto
        · rintro (h | rfl | h)
          exacts [.inl h, .inl hc, .inr h]
      · rename_i hc
        obtain ⟨h1, h2⟩ := ih (acc ++ [c]) (by
          rw [List.nodup_append]
          exact ⟨hacc, by simp, fun a ha b hb => by rintro rfl; exact hc (by simpa using List.mem_singleton.1 hb ▸ ha)⟩)
        refine ⟨h1, fun code => (h2 code).trans ?_⟩
        simp [or_assoc]
  obtain ⟨h1, h2⟩ := key (ls.map SlipLine.item) [] List.nodup_nil
  refine ⟨h1, fun code => (h2 code).trans ?_⟩
  simp

/-- A slip that the Item Table can serve is short of nothing (R8, R44). -/
theorem State.canSell_shortAt {s : State} {ls : List SlipLine} (h : s.canSell ls) : s.work.shortAt ls = none := by
  rw [Work.shortAt, Option.map_eq_none_iff, List.find?_eq_none]
  intro code hcode
  obtain ⟨l, hl, rfl⟩ := ((codesOf_spec ls).2 code).1 hcode
  obtain ⟨i, hi⟩ := h.1 l hl
  have hi' : s.work.item? l.item = some i := hi
  rw [Work.short, hi', Option.map_some]
  split
  · rename_i k hk
    have := h.2 l hl i k hi (by simpa using hk)
    rw [decide_eq_true_eq, not_lt]
    exact this
  · simp

/-- The tests of the lines pass (R44). -/
theorem State.lineRefusal_none {s : State} {ls : List SlipLine} {have_ total : Nat} (hsell : s.canSell ls)
    (hlen : have_ + ls.length ≤ 24) (hprice : total + s.priceOf ls ≤ 99999999) :
    s.work.lineRefusal have_ total ls = none := by
  have hknown : s.work.unknownAt 1 ls = none :=
    Work.unknownAt_none (fun l hl => by obtain ⟨i, hi⟩ := hsell.1 l hl; simp [Work.item?, hi]) 1
  simp only [Work.lineRefusal, hknown, State.canSell_shortAt hsell]
  exact (if_neg (by omega)).trans (if_neg (Nat.not_lt.2 hprice))

/-! ### Stock taken and returned (R8) -/

/-- A counted item with its count changed; an uncounted one as it is (R8). -/
def Item.recount (g : Nat → Nat) (i : Item) : Item :=
  match i.stock with
  | .uncounted => i
  | .count n => { i with stock := .count (g n) }

/-- A count lowered by what a slip asks, and raised, up to 65,535, by what a voided line returns (R8). -/
def Item.less (k : Nat) : Item → Item := Item.recount fun n => n - k
def Item.more (k : Nat) : Item → Item := Item.recount fun n => min 65535 (n + k)

/-- What a stock count leaves of an item: all but the count. -/
theorem Item.recount_keeps (g : Nat → Nat) (i : Item) :
    (i.recount g).code = i.code ∧ (i.recount g).price = i.price ∧ (i.recount g).primary = i.primary ∧
      (i.recount g).overflow = i.overflow ∧ (i.recount g).expo = i.expo := by
  unfold Item.recount
  split <;> simp

theorem Item.less_zero (i : Item) : i.less 0 = i := by
  unfold Item.less Item.recount
  split
  · rfl
  · rename_i n h
    simp only [Nat.sub_zero]
    rw [← h]

/-- The work has changed the Item Table and sent things, at most. -/
def Work.ItemsOnly (w v : Work) : Prop := v = { w with ce := { w.ce with items := v.ce.items }, fx := v.fx }

theorem Work.ItemsOnly.trans {u v w : Work} (h : u.ItemsOnly v) (h' : v.ItemsOnly w) : u.ItemsOnly w := by
  unfold Work.ItemsOnly at *
  rw [h', h]

theorem Work.setStock_itemsOnly (i : Item) (k : Stock) (w : Work) : w.ItemsOnly (w.setStock i k) := by
  unfold Work.setStock Work.ItemsOnly
  rw [Work.raiseAll_eq]

/-- A new count stands at its item's code, and no other entry changes. -/
theorem Work.item?_setStock {i : Item} {k : Stock} {w : Work} (code : Nat) :
    (w.setStock i k).item? code = if code = i.code then some { i with stock := k } else w.item? code := by
  unfold Work.item? Work.setStock
  rw [Work.raiseAll_eq]
  split
  · rename_i h
    subst h
    exact lookupBy_putBy_self Item.code { i with stock := k } w.ce.items
  · rename_i h
    exact lookupBy_putBy_other Item.code { i with stock := k } w.ce.items code h

/-- Where the count of one item is set anew, if it is counted, its entry is recounted and no other entry changes. -/
theorem Work.recount_spec {w v : Work} {code : Nat} {g : Nat → Nat}
    (hcount : ∀ i n, w.item? code = some i → i.stock = .count n → v = w.setStock i (.count (g n)))
    (hsame : (∀ i, w.item? code = some i → i.stock = .uncounted) → v = w) :
    w.ItemsOnly v ∧ ∀ m, v.item? m = if m = code then (w.item? m).map (Item.recount g) else w.item? m := by
  by_cases h : ∃ i n, w.item? code = some i ∧ i.stock = .count n
  · obtain ⟨i, n, hi, hn⟩ := h
    have hcode : i.code = code := (lookupBy_some hi).2
    rw [hcount i n hi hn]
    refine ⟨Work.setStock_itemsOnly _ _ w, fun m => ?_⟩
    rw [Work.item?_setStock, hcode]
    split
    · rename_i h
      rw [h, hi]
      simp [Item.recount, hn, hcode]
    · rfl
  · have hun (i : Item) (hi : w.item? code = some i) : i.stock = .uncounted := by
      cases hk : i.stock with
      | uncounted => rfl
      | count n => exact absurd ⟨i, n, hi, hk⟩ h
    rw [hsame hun]
    refine ⟨rfl, fun m => ?_⟩
    split
    · rename_i h
      rw [h]
      cases hi : w.item? code with
      | none => rfl
      | some i => simp [Item.recount, hun i hi]
    · rfl

/-- The count of one item falls by what the slip asks of it (R8). -/
theorem Work.takeItem_spec (ls : List SlipLine) (w : Work) (code : Nat) :
    w.ItemsOnly (Work.takeItem ls w code) ∧ ∀ m, (Work.takeItem ls w code).item? m =
      if m = code then (w.item? m).map (Item.less (qtyOf code ls)) else w.item? m := by
  refine Work.recount_spec (fun i n hi hn => by simp only [Work.takeItem, hi, hn]) fun h => ?_
  cases hi : w.item? code with
  | none => simp only [Work.takeItem, hi]
  | some i => simp only [Work.takeItem, hi, h i hi]

/-- A voided line's quantity returns to its item, and nothing else of the table changes (R8). -/
theorem Work.returnStock_spec (l : Line) (w : Work) :
    w.ItemsOnly (w.returnStock l) ∧ ∀ m, (w.returnStock l).item? m =
      if m = l.item then (w.item? m).map (Item.more l.qty) else w.item? m := by
  refine Work.recount_spec (fun i n hi hn => by simp only [Work.returnStock, hi, hn]) fun h => ?_
  cases hi : w.item? l.item with
  | none => simp only [Work.returnStock, hi]
  | some i => simp only [Work.returnStock, hi, h i hi]

/-- The counts fall by what the slip asks of each item, and nothing else of the table changes (R8, R45). -/
theorem Work.takeStock_spec (ls : List SlipLine) (w : Work) :
    w.ItemsOnly (w.takeStock ls) ∧
      ∀ m, (w.takeStock ls).item? m = (w.item? m).map (Item.less (qtyOf m ls)) := by
  have key (cs : List Nat) (hcs : cs.Nodup) (w : Work) : w.ItemsOnly (cs.foldl (Work.takeItem ls) w) ∧
      ∀ m, (cs.foldl (Work.takeItem ls) w).item? m =
        if m ∈ cs then (w.item? m).map (Item.less (qtyOf m ls)) else w.item? m := by
    induction cs generalizing w with
    | nil => exact ⟨rfl, fun m => by simp⟩
    | cons c cs ih =>
      obtain ⟨hc, hcs⟩ := List.nodup_cons.1 hcs
      obtain ⟨h1, h2⟩ := Work.takeItem_spec ls w c
      obtain ⟨h3, h4⟩ := ih hcs (Work.takeItem ls w c)
      refine ⟨h1.trans h3, fun m => ?_⟩
      rw [List.foldl_cons, h4, h2]
      by_cases hm : m = c
      · subst hm
        simp [hc]
      · simp [hm]
  obtain ⟨hnodup, hmem⟩ := codesOf_spec ls
  obtain ⟨h1, h2⟩ := key (codesOf ls) hnodup w
  refine ⟨h1, fun m => (h2 m).trans ?_⟩
  split
  · rfl
  · rename_i hm
    have hzero : qtyOf m ls = 0 := by
      have hnil : ls.filter (fun l => l.item == m) = [] :=
        List.filter_eq_nil_iff.2 fun l hl => by simpa using fun e => hm ((hmem m).2 ⟨l, hl, e⟩)
      rw [qtyOf, hnil]
      rfl
    rw [hzero]
    simp [show Item.less 0 = id from funext Item.less_zero]

/-! ### New lines (R7, R45, R46) -/

/-- The lines made of a slip whose items are in the table: numbered on from `i`, each a HELD snapshot of its line, by
the table as it was before stock was taken. -/
theorem Work.newLines_spec {s : State} {w : Work} {q : Nat → Nat} {ls : List SlipLine}
    (hw : ∀ m, w.item? m = (lookupBy Item.code m s.ce.items).map (Item.less (q m)))
    (h : ∀ l ∈ ls, ∃ it, lookupBy Item.code l.item s.ce.items = some it) (i : Nat) :
    (w.newLines i ls).map Line.index = (List.range ls.length).map (· + i) ∧
      List.Forall₂ (fun x l => s.snapshot x l ∧ l.state = .held) ls (w.newLines i ls) := by
  induction ls generalizing i with
  | nil => exact ⟨rfl, .nil⟩
  | cons x xs ih =>
    obtain ⟨it, hit⟩ := h x List.mem_cons_self
    obtain ⟨hindex, hsnap⟩ := ih (fun l hl => h l (List.mem_cons_of_mem _ hl)) (i + 1)
    have hx : w.item? x.item = some (it.less (q x.item)) := by rw [hw, hit]; rfl
    obtain ⟨-, hprice, hprimary, hoverflow, hexpo⟩ := it.recount_keeps fun n => n - q x.item
    simp only [Work.newLines, hx, List.map_cons, hindex, List.length_cons, List.range_succ_eq_map, List.map_map]
    refine ⟨?_, .cons ⟨⟨it, hit, rfl, rfl, rfl, hprice, hprimary, hoverflow, hexpo, rfl⟩, rfl⟩ hsnap⟩
    simp only [Function.comp_def, Nat.zero_add, Nat.succ_eq_add_one, Nat.add_assoc, Nat.add_comm 1]

/-- The total of lines that are not VOIDED is the price of the slip they were made of (R38, R44). -/
theorem lineTotal_snapshots {s : State} {xs : List SlipLine} {ls : List Line}
    (h : List.Forall₂ (fun x l => s.snapshot x l ∧ l.state = .held) xs ls) : lineTotal ls = s.priceOf xs := by
  induction h with
  | nil => rfl
  | cons hx _ ih =>
    obtain ⟨⟨it, hit, -, hqty, -, hprice, -⟩, hheld⟩ := hx
    simp only [lineTotal, State.priceOf] at ih ⊢
    simp [Line.live, hheld, ih, hqty, hprice, hit]

theorem lineTotal_append (xs ys : List Line) : lineTotal (xs ++ ys) = lineTotal xs + lineTotal ys := by
  simp [lineTotal]

end Sys2Proof.Machine
end

section
/-! PROOFS. Lines accepted on a check (R45, R54, R55, R64, R74, R75), and the orders that open a check (R44, R58). -/
namespace Sys2Proof.Machine

/-! ### READY, closure and payment while a line is unfinished (R54, R55, R64) -/

/-- A line that is neither DONE nor VOIDED keeps its check from being ready and from closing (R54, R55). -/
theorem Check.not_finished {c : Check} (h : ∃ l ∈ c.lines, l.state ≠ .done ∧ l.state ≠ .voided) :
    (c.lines.all fun l => decide (l.state = .done) || decide (l.state = .voided)) = false := by
  obtain ⟨l, hl, h1, h2⟩ := h
  exact List.all_eq_false.2 ⟨l, hl, by simp [h1, h2]⟩

theorem Work.lineTests_unfinished {n : Nat} {c : Check} {w : Work} (hc : w.check? n = some c)
    (h : ∃ l ∈ c.lines, l.state ≠ .done ∧ l.state ≠ .voided) : w.lineTests n = w := by
  have hnot := Check.not_finished h
  have hready : w.readyTest n = w := by simp [Work.readyTest, hc, Check.ready, hnot]
  rw [Work.lineTests, hready]
  simp [Work.closureTest, hc, Check.closable, hnot]

/-- While some share is unpaid, a payment releases no line that has no owner; when none is, it releases every HELD one
(R74, R75). -/
theorem Check.released_unpaid {c : Check} (howner : ∀ l ∈ c.lines, l.owner = none)
    (h : c.shares.all Share.isPaid = false) : c.released = [] := by
  rw [Check.released, List.map_eq_nil_iff, List.filter_eq_nil_iff]
  intro l hl
  simp [howner l hl, h]

theorem Check.released_paid {c : Check} (howner : ∀ l ∈ c.lines, l.owner = none) (h : c.shares.all Share.isPaid = true)
    {l : Line} (hl : l ∈ c.lines) (hheld : l.state = .held) : l.index ∈ c.released := by
  refine List.mem_map_of_mem (List.mem_filter.2 ⟨hl, ?_⟩)
  simp [howner l hl, h, hheld]

theorem Check.released_held {c : Check} {i : Nat} (h : i ∈ c.released) :
    ∃ l ∈ c.lines, l.state = .held ∧ l.index = i := by
  obtain ⟨l, hl, rfl⟩ := List.mem_map.1 h
  obtain ⟨hl, hheld⟩ := List.mem_filter.1 hl
  exact ⟨l, hl, by simpa using (Bool.and_eq_true_iff.1 hheld).1, rfl⟩

/-- After a payment: the check's state, the release on a FIRE_ON_PAY stand, READY and closure (R64, R74, R75). -/
theorem Work.payments_eq {n : Nat} {c : Check} {w : Work} (hc : w.check? n = some c) :
    w.payments n =
      (if (w.stand c.stand).policy = .fireOnPay then
        (w.onCheck n fun c => { c with state := c.payState }).fire n c.released
      else w.onCheck n fun c => { c with state := c.payState }).lineTests n := by
  have hpaid : (w.onCheck n fun c => { c with state := c.payState }).check? n = some { c with state := c.payState } :=
    Work.check?_onCheck_self (fun _ => rfl) hc
  simp only [Work.payments, hpaid]
  rfl

/-- A check whose state is as its shares say is not changed by setting it (R64). -/
theorem Work.payState_sends {n : Nat} {c : Check} {w : Work} (hc : w.check? n = some c) (hpay : c.payState = c.state) :
    w.Sends n [] id (w.onCheck n fun c => { c with state := c.payState }) where
  ce := rfl
  self := fun d hd => by
    obtain rfl : c = d := Option.some.inj (hc.symm.trans hd)
    have hset := Work.check?_onCheck_self (f := fun c => { c with state := c.payState }) (fun _ => rfl) hc
    rw [hset, hpay, Check.mapLines_id]
  other := fun m hm => Work.check?_onCheck_other (fun _ => rfl) hm
  tu := rfl
  sj := rfl
  now := rfl
  sent := Line.SentAs.refl
  rest := fun _ _ => rfl

/-- A payment that leaves the check's state as it was sends the lines it releases, on a FIRE_ON_PAY stand, and only then
the kitchen changes; READY and closure follow (R74, R75). -/
theorem Work.payments_sends {n : Nat} {c : Check} {w : Work} (hc : w.check? n = some c) (hpay : c.payState = c.state) :
    ∃ f is v, w.Sends n is f v ∧ v.FiresLines c is f ∧ w.payments n = v.lineTests n ∧
      ((w.stand c.stand).policy = .fireOnPay → is = c.released) ∧
      ((w.stand c.stand).policy = .fireOnOrder → is = []) ∧ (is = [] → v.kr = w.kr ∧ v.ports = w.ports) := by
  have hset := Work.payState_sends hc hpay
  rw [Work.payments_eq hc]
  split
  · rename_i hpolicy
    obtain ⟨f, hs, hf⟩ := Work.fire_sends (hset.self c hc) c.released
    rw [Check.mapLines_id] at hf
    refine ⟨f, c.released, _, hset.trans hs (List.nil_subset _) (List.Subset.refl _), hf, rfl, fun _ => rfl,
      fun h => by simp [hpolicy] at h, fun h => ?_⟩
    rw [h, Work.fire, if_pos rfl]
    exact ⟨rfl, rfl⟩
  · rename_i hpolicy
    exact ⟨id, [], _, hset, .inl (by simp), rfl, fun h => absurd h hpolicy, fun _ => rfl, fun _ => ⟨rfl, rfl⟩⟩

/-! ### Lines accepted (R45, R46, R58) -/

/-- Lines accepted on a check with a HELD line: those that fire are sent, and nothing else happens (R45, R46, R58). On a
FIRE_ON_ORDER stand the new lines fire; on a FIRE_ON_PAY stand those that the check's payment releases. -/
theorem Work.fireAccepted_sends {w : Work} {c d : Check} (new : List Nat) (hd : w.check? c.number = some d)
    (hstand : d.stand = c.stand) (hpay : d.payState = d.state) (hheld : ∃ l ∈ d.lines, l.state = .held) :
    ∃ f is, w.Sends c.number is f (w.fireAccepted c new) ∧ (w.fireAccepted c new).FiresLines d is f ∧
      ((w.stand c.stand).policy = .fireOnOrder → is = new) ∧
      ((w.stand c.stand).policy = .fireOnPay → is = d.released) := by
  have hidle {is : List Nat} {f : Line → Line} {v : Work} (hs : w.Sends c.number is f v) (hf : v.FiresLines d is f) :
      v.lineTests c.number = v := by
    refine Work.lineTests_unfinished (hs.self d hd) ?_
    obtain ⟨l, hl, hheld⟩ := hheld
    refine ⟨f l, List.mem_map_of_mem hl, ?_⟩
    by_cases hi : l.index ∈ is
    · rcases hf with h | ⟨h, -⟩ <;> simp [h l hl hi]
    · simp [hs.rest l hi, hheld]
  unfold Work.fireAccepted
  split
  · rename_i hpolicy
    obtain ⟨f, hs, hf⟩ := Work.fire_sends hd new
    refine ⟨f, new, ?_⟩
    rw [hidle hs hf]
    exact ⟨hs, hf, fun _ => rfl, fun h => by simp [hpolicy] at h⟩
  · rename_i hpolicy
    obtain ⟨f, is, v, hs, hf, hv, hrel, -, -⟩ := Work.payments_sends hd hpay
    refine ⟨f, is, ?_⟩
    rw [hv, hidle hs hf, ← hstand]
    exact ⟨hs, hf, fun h => by simp [hpolicy, hstand] at h, hrel⟩

/-- Lines that fire have gone to the kitchen together, or wait for it together (R45, R106, R107). -/
theorem State.fired_of_firesLines {u : State} {v : Work} {c : Check} {is : List Nat} {f : Line → Line}
    (h : v.FiresLines c is f) (hindex : ∀ l : Line, (f l).index = l.index) (hu : u.ce = v.ce) {ls : List Line}
    (hls : ∀ l ∈ ls, l ∈ c.lines ∧ l.index ∈ is) : u.fired c.number (ls.map f) := by
  rcases h with h | ⟨h, e, he, hn, hall⟩
  · left
    intro m hm
    obtain ⟨l, hl, rfl⟩ := List.mem_map.1 hm
    exact h l (hls l hl).1 (hls l hl).2
  · right
    intro m hm
    obtain ⟨l, hl, rfl⟩ := List.mem_map.1 hm
    exact ⟨h l (hls l hl).1 (hls l hl).2, e, hu ▸ he, hn, by rw [hindex]; exact hall _ (hls l hl).2⟩

/-- A snapshot of a slip's line stays one when the line is sent to the kitchen (R7). -/
theorem State.snapshot_sent {s : State} {x : SlipLine} {l m : Line} (h : s.snapshot x l) (hs : l.SentAs m) :
    s.snapshot x m := by
  obtain ⟨it, h⟩ := h
  refine ⟨it, ?_⟩
  rw [← hs]
  exact h

/-! ### A check opened (R40, R45, R58) -/

/-- A reservation is taken while there is room, and the low flag and its event follow (R141, R143). -/
theorem Work.reserve_room {w : Work} (h : 1 ≤ w.sj.free) : ∃ low fx, w.reserve =
    some { w with sj := { w.sj with reservations := w.sj.reservations + 1, low := low }, fx := fx } := by
  rw [Work.reserve, if_pos h, Work.lowTest]
  split
  · exact ⟨_, _, rfl⟩
  · exact ⟨_, _, rfl⟩

theorem wrapNext_eq (top n : Nat) : wrapNext top n = if n < top then n + 1 else 1 := by
  unfold wrapNext
  split_ifs <;> omega

/-- A new check: PAID exactly when its share is, which is when it is prepaid or costs nothing (R45, R58, R73, R79). -/
theorem newCheck_state (n : Nat) (sd : StandId) (o : Origin) (notify : Bool) (pickup : Nat) (ls : List Line)
    (prepaid : Bool) :
    (newCheck n sd o notify pickup ls prepaid).payState = (newCheck n sd o notify pickup ls prepaid).state ∧
    ((newCheck n sd o notify pickup ls prepaid).state = .paid ↔ prepaid = true ∨ lineTotal ls = 0) ∧
    ((newCheck n sd o notify pickup ls prepaid).shares.all Share.isPaid = true ↔
      prepaid = true ∨ lineTotal ls = 0) := by
  by_cases h0 : lineTotal ls = 0 <;> cases prepaid <;>
    simp [newCheck, Check.payState, Share.isPaid, Share.new, h0, Nat.pos_iff_ne_zero]

/-- The check that an order opens over its lines (R45, R58). -/
def Work.opened (w : Work) (sd : StandId) (o : Origin) (notify : Bool) (ls : List SlipLine) (prepaid : Bool) : Check :=
  newCheck (w.takeStock ls).nextCheck sd o notify ((w.takeStock ls).nextPickup sd) ((w.takeStock ls).newLines 1 ls)
    prepaid

/-- A check takes its place in the Check Table, and its numbers are taken (R40, R45). -/
def Work.putCheck (d : Check) (w : Work) : Work :=
  ({ w with ce := { w.ce with checkCtr := wrapNext 9999 d.number, checks := putBy Check.number d w.ce.checks } } :
    Work).onStand d.stand fun x => { x with pickup := wrapNext 999 d.pickup }

/-- Opening a check: stock, the check with its numbers, its lines accepted (R45). -/
theorem Work.openCheck_eq (w : Work) (sd : StandId) (o : Origin) (notify : Bool) (ls : List SlipLine) (prepaid : Bool) :
    w.openCheck sd o notify ls prepaid = (w.opened sd o notify ls prepaid,
      ((w.takeStock ls).putCheck (w.opened sd o notify ls prepaid)).fireAccepted (w.opened sd o notify ls prepaid)
        ((w.opened sd o notify ls prepaid).lines.map Line.index)) := rfl

theorem Work.putCheck_self (d : Check) (w : Work) : (w.putCheck d).check? d.number = some d :=
  lookupBy_putBy_self Check.number d w.ce.checks

theorem Work.putCheck_other {d : Check} {m : Nat} (h : m ≠ d.number) (w : Work) :
    (w.putCheck d).check? m = w.check? m :=
  lookupBy_putBy_other Check.number d w.ce.checks m h

theorem Work.putCheck_pickup (d : Check) (w : Work) :
    (w.putCheck d).ce.stands[d.stand].pickup = wrapNext 999 d.pickup :=
  congrArg Stand.pickup (modify_self w.ce.stands d.stand _)

theorem Work.putCheck_policy (d : Check) (w : Work) :
    ((w.putCheck d).stand d.stand).policy = (w.stand d.stand).policy :=
  (congrArg Stand.policy
    (modify_self w.ce.stands d.stand fun x => { x with pickup := wrapNext 999 d.pickup })).trans rfl

/-- The lines made of a slip are HELD and have no owner (R45). -/
theorem snapshots_held {s : State} {xs : List SlipLine} {ls : List Line}
    (h : List.Forall₂ (fun x l => s.snapshot x l ∧ l.state = .held) xs ls) :
    ∀ l ∈ ls, l.state = .held ∧ l.owner = none := by
  induction h with
  | nil => simp
  | cons hx _ ih =>
    obtain ⟨⟨it, -, -, -, -, -, -, -, -, howner⟩, hheld⟩ := hx
    exact List.forall_mem_cons.2 ⟨⟨hheld, howner⟩, ih⟩

/-- An order that has passed its tests opens a check (R40, R45, R58): `w` is the work with the reservation taken, `u`
the state that the work leaves. -/
theorem State.openedCheck_of_work {s u : State} {w : Work} {sd : StandId} {o : Origin} {notify prepaid : Bool}
    {ls : List SlipLine} (hce : w.ce = s.ce) (htu : w.tu = s.tu)
    (hreserved : w.sj.reservations = s.sj.reservations + 1) (hrecords : w.sj.records = s.sj.records)
    (hsell : s.canSell ls) (hlen : 1 ≤ ls.length) (hroom : s.ce.checks.length < 512)
    (huce : u.ce = (w.openCheck sd o notify ls prepaid).2.ce) (hutu : u.tu = (w.openCheck sd o notify ls prepaid).2.tu)
    (husj : u.sj = (w.openCheck sd o notify ls prepaid).2.sj) :
    ∃ d, d.number = (w.opened sd o notify ls prepaid).number ∧ d.pickup = (w.opened sd o notify ls prepaid).pickup ∧
      d.total = (w.opened sd o notify ls prepaid).total ∧ s.OpenedCheck u d sd o notify ls prepaid := by
  rw [Work.openCheck_eq] at huce hutu husj
  obtain ⟨hst, hitems⟩ := Work.takeStock_spec ls w
  have hchecks : (w.takeStock ls).ce.checks = s.ce.checks := by rw [hst, ← hce]
  have hitem (m : Nat) : (w.takeStock ls).item? m =
      (lookupBy Item.code m s.ce.items).map (Item.less (qtyOf m ls)) := by rw [hitems, Work.item?, hce]
  obtain ⟨hindex, hsnap⟩ := Work.newLines_spec hitem hsell.1 1
  obtain ⟨hpay, hpaid, hall⟩ := newCheck_state (w.takeStock ls).nextCheck sd o notify ((w.takeStock ls).nextPickup sd)
    ((w.takeStock ls).newLines 1 ls) prepaid
  have hfree := Work.nextCheck_free (w := w.takeStock ls) (by rw [hchecks]; exact hroom)
  have hfreePickup := Work.nextPickup_free (w := w.takeStock ls) sd (by rw [hchecks]; exact hroom)
  rw [hchecks] at hfree hfreePickup
  have hheld := snapshots_held hsnap
  have hself := (w.takeStock ls).putCheck_self (w.opened sd o notify ls prepaid)
  have hline : ∃ l ∈ (w.opened sd o notify ls prepaid).lines, l.state = .held := by
    obtain ⟨l, hl⟩ := List.exists_mem_of_length_pos
      (hsnap.length_eq ▸ hlen : 0 < ((w.takeStock ls).newLines 1 ls).length)
    exact ⟨l, hl, (hheld l hl).1⟩
  obtain ⟨f, is, hs, hf, horder, honpay⟩ := Work.fireAccepted_sends
    ((w.opened sd o notify ls prepaid).lines.map Line.index) hself rfl hpay hline
  have hpolicy : (((w.takeStock ls).putCheck (w.opened sd o notify ls prepaid)).stand
      (w.opened sd o notify ls prepaid).stand).policy = s.ce.stands[sd].policy := by
    rw [Work.putCheck_policy, Work.stand, hst, hce]
    rfl
  rw [hpolicy] at horder honpay
  have hce' : u.ce = _ := huce.trans hs.ce
  refine ⟨(w.opened sd o notify ls prepaid).mapLines f, rfl, rfl, rfl, hfree, hfreePickup, ?self, ?other, rfl, rfl, rfl,
    rfl, rfl, lineTotal_snapshots hsnap, ?index, ?snapshot, ?shares, hpaid, ?held, ?fired, ?checkCtr, ?pickup,
    ?stock, ?reservations, ?records, ?tu⟩
  case self => rw [State.hasCheck, huce]; exact hs.self _ hself
  case other =>
    intro m hm
    have hm' : m ≠ (w.opened sd o notify ls prepaid).number := hm
    rw [huce]
    refine (hs.other m hm').trans ((Work.putCheck_other hm' _).trans ?_)
    rw [Work.check?, hchecks]
  case index =>
    rw [← hindex, Check.mapLines_lines, List.map_map]
    exact List.map_congr_left fun l _ => hs.index l
  case snapshot =>
    exact List.forall₂_map_right_iff.2 (hsnap.imp fun x l h => State.snapshot_sent h.1 (hs.sent l))
  case shares => rfl
  case held =>
    intro hp hopened m hm
    obtain ⟨l, hl, rfl⟩ := List.mem_map.1 hm
    have hunpaid : (w.opened sd o notify ls prepaid).shares.all Share.isPaid = false := by
      refine Bool.eq_false_iff.2 fun h => ?_
      have hp : (w.opened sd o notify ls prepaid).state = .paid := hpaid.2 (hall.1 h)
      exact absurd (hp.symm.trans hopened) (by decide)
    rw [hs.rest l (by rw [honpay hp, Check.released_unpaid (fun x hx => (hheld x hx).2) hunpaid]; simp)]
    exact (hheld l hl).1
  case fired =>
    intro h
    refine State.fired_of_firesLines hf hs.index huce fun l hl => ⟨hl, ?_⟩
    cases hp : s.ce.stands[sd].policy with
    | fireOnOrder => rw [horder hp]; exact List.mem_map_of_mem hl
    | fireOnPay =>
      rw [honpay hp]
      have hstate : (w.opened sd o notify ls prepaid).state = .paid := h.resolve_left (by rw [hp]; decide)
      exact Check.released_paid (fun x hx => (hheld x hx).2) (hall.2 (hpaid.1 hstate)) hl (hheld l hl).1
  case checkCtr => rw [hce']; exact wrapNext_eq 9999 _
  case pickup => rw [hce']; exact ((Work.putCheck_pickup _ _).trans (wrapNext_eq 999 _))
  case stock =>
    intro code
    rw [hce']
    exact hitem code
  case reservations => rw [husj, hs.sj, ← hreserved]; exact congrArg (fun x => x.sj.reservations) hst
  case records => rw [husj, hs.sj, ← hrecords]; exact congrArg (fun x => x.sj.records) hst
  case tu => rw [hutu, hs.tu, ← htu]; exact congrArg (fun x => x.tu) hst

/-! ### ORDER and REMOTE_ORDER_PROCESS (R44, R58) -/

theorem Stand.refusal_opened {d : Stand} (h : d.state = .opened) : d.refusal = none := by
  simp [Stand.refusal, h]

/-- An ORDER that passes its tests opens a check and answers with its numbers and its total (R44, R45). -/
theorem orderSlip_accepted {s : State} {t : TillId} {till : Till} {content : List Byte} {notify : Bool}
    {ls : List SlipLine} {w : Work} (hread : readOrder content = .ok (notify, ls))
    (hopen : s.ce.stands[till.stand].state = .opened) (hsell : s.canSell ls) (hprice : s.priceOf ls ≤ 99999999)
    (hroom : s.ce.checks.length < 512) (hw : s.work.reserve = some w) :
    orderSlip t till content s.work =
      (.yes (w.opened till.stand (.till t) notify ls false).number
        [.number (some (w.opened till.stand (.till t) notify ls false).pickup),
          .amount (w.opened till.stand (.till t) notify ls false).total],
        (w.openCheck till.stand (.till t) notify ls false).2) := by
  have hlen := readOrder_length hread
  have hstand : (s.work.stand till.stand).refusal = none := Stand.refusal_opened hopen
  have hlines : s.work.lineRefusal 0 0 ls = none := State.lineRefusal_none hsell (by omega) (by omega)
  have htable : ¬ tableSize ≤ s.work.ce.checks.length := Nat.not_le.2 hroom
  simp only [orderSlip, hread, hstand, hlines, Option.or_none, htable, if_false, hw, Work.openCheck_eq]

/-- A remote order that passes its tests opens a check that is paid (R58, R59). -/
theorem remoteOrder_accepted {s : State} {ref : Nat} {sd : StandId} {content : List Byte} {ls : List SlipLine}
    {w : Work}
    (hread : readRemote content = .ok (sd, s.priceOf ls, ls)) (hopen : s.ce.stands[sd].state = .opened)
    (hsell : s.canSell ls) (hprice : s.priceOf ls ≤ 99999999) (hroom : s.ce.checks.length < 512)
    (hw : s.work.reserve = some w) :
    remoteOrder ref content s.work =
      (.accepted (w.opened sd (.remote ref) true ls true).number sd (w.opened sd (.remote ref) true ls true).pickup
        (w.opened sd (.remote ref) true ls true).total,
        (w.openCheck sd (.remote ref) true ls true).2) := by
  have hlen := readRemote_length hread
  have hstand : (s.work.stand sd).refusal = none := Stand.refusal_opened hopen
  have hlines : s.work.lineRefusal 0 0 ls = none := State.lineRefusal_none hsell (by omega) (by omega)
  have htable : ¬ tableSize ≤ s.work.ce.checks.length := Nat.not_le.2 hroom
  have hpaid : ¬ s.priceOf ls ≠ s.work.priceOf ls := fun h => h rfl
  simp only [remoteOrder, hread, hstand, hlines, Option.or_none, htable, if_false, hpaid, hw, Work.openCheck_eq]

/-- Settles O34. -/
theorem ordersOpenChecks : Obligations.OrdersOpenChecks := by
  refine ⟨fun s t content rest notify ls hhead hread hopen hsell hprice hroom hfree => ?_,
    fun s ref kind content rest sd ls hhead hread hopen hsell hprice hroom hfree => ?_⟩
  all_goals obtain ⟨low, fx, hw⟩ := Work.reserve_room (w := s.work) hfree
  · have hrun := orderSlip_accepted (t := t) hread hopen hsell hprice hroom hw
    obtain ⟨d, hn, hp, ht, hd⟩ := State.openedCheck_of_work (o := .till t) (notify := notify) (prepaid := false)
      (u := (s.afterTaking rest).commit (orderSlip t (s.till t) content s.work).2) (sd := (s.till t).stand)
      rfl rfl rfl rfl hsell (readOrder_length hread).1 hroom (by rw [State.commit_ce, hrun])
      (by rw [State.commit_tu, hrun]) (by rw [State.commit_sj, hrun])
    refine ⟨_, d, ?_, hd⟩
    rw [hn, hp, ht]
    refine congrArg Host.Outcome.next ((State.takeSlip_till orderSlip hhead).trans ?_)
    rw [hrun]
    rfl
  · have hrun := remoteOrder_accepted (ref := ref) hread hopen hsell hprice hroom hw
    obtain ⟨d, hn, hp, ht, hd⟩ := State.openedCheck_of_work (o := .remote ref) (notify := true) (prepaid := true)
      (u := (s.afterTaking rest).commit (remoteOrder ref content s.work).2) (sd := sd)
      rfl rfl rfl rfl hsell (readRemote_length hread).1 hroom (by rw [State.commit_ce, hrun])
      (by rw [State.commit_tu, hrun]) (by rw [State.commit_sj, hrun])
    refine ⟨_, d, ?_, hd⟩
    rw [hn, hp, ht]
    refine congrArg Host.Outcome.next ((State.takeSlip_remote hhead).trans ?_)
    rw [hrun]

end Sys2Proof.Machine
end

section
/-! PROOFS. Lines added and voided (R46, R48, R49, R65): the void path of the kitchen and of the Fire Backlog as the
Check Engine meets them, the split dissolved, READY and closure. -/
namespace Sys2Proof.Machine

/-! ### The Router's void path changes the kitchen alone (R113 to R116) -/

theorem Work.voidOnNormal_kitchenOnly (c : Check) (l : Line) (w : Work) : w.KitchenOnly (w.voidOnNormal c l) := by
  unfold Work.voidOnNormal
  split
  · exact .refl w
  · split
    · split
      · exact Work.freeTicket_kitchenOnly _ w
      · exact .of_eq rfl rfl rfl rfl
    all_goals exact .of_eq rfl rfl rfl rfl

theorem Work.voidOnAssembly_kitchenOnly (c : Check) (l : Line) (w : Work) : w.KitchenOnly (w.voidOnAssembly c l) := by
  unfold Work.voidOnAssembly
  split <;> exact .of_eq rfl rfl rfl rfl

theorem Work.settleAssembly_kitchenOnly (completing : Option Nat) (n : Nat) (w : Work) :
    w.KitchenOnly (w.settleAssembly completing n) := by
  unfold Work.settleAssembly
  split
  · split
    · split
      · refine Work.KitchenOnly.trans ?_ (Work.freeTicket_kitchenOnly n _)
        exact .of_eq rfl rfl rfl rfl
      · simp only
        split
        · refine Work.KitchenOnly.trans ?_ (Work.queueNormal_kitchenOnly n _ _)
          exact .of_eq rfl rfl rfl rfl
        · exact .of_eq rfl rfl rfl rfl
    · exact .refl w
  · exact .refl w

theorem Work.makeVoid_kitchenOnly (c : Check) (cs : List (StationId × Nat × Line)) (st : StationId) (w : Work) :
    w.KitchenOnly (w.makeVoid c cs st) := by
  change w.KitchenOnly ((w.takeNumber.2.putTicket _).queueVoid w.takeNumber.1 st)
  refine Work.KitchenOnly.trans ?_ (Work.queueVoid_kitchenOnly _ st _)
  exact .of_eq rfl rfl rfl rfl

theorem Work.kitchenVoid_kitchenOnly {c : Check} {ls : List Line} {w v : Work} (h : w.kitchenVoid c ls = some v) :
    w.KitchenOnly v := by
  unfold Work.kitchenVoid at h
  simp only at h
  split at h
  · cases h
    refine (Work.KitchenOnly.foldl (fun w l => ?_) ls w).trans ((Work.KitchenOnly.foldl (fun w n => ?_) _ _).trans
      (Work.KitchenOnly.foldl (fun w st => ?_) _ _))
    · exact (w.voidOnNormal_kitchenOnly c l).trans (Work.voidOnAssembly_kitchenOnly c l _)
    · exact w.settleAssembly_kitchenOnly none n
    · exact w.makeVoid_kitchenOnly c _ st
  · cases h

/-! ### Lines taken out of the Fire Backlog (R49, R108) -/

/-- The work leaves check `n` as it is; other checks may have gone to the kitchen. -/
structure Work.Keeps (n : Nat) (w v : Work) : Prop where
  ce    : v.ce = { w.ce with checks := v.ce.checks, backlog := v.ce.backlog, tryOffered := v.ce.tryOffered }
  check : v.check? n = w.check? n
  tu    : v.tu = w.tu
  sj    : v.sj = w.sj
  now   : v.now = w.now

theorem Work.Keeps.refl (n : Nat) (w : Work) : w.Keeps n w := ⟨rfl, rfl, rfl, rfl, rfl⟩

theorem Work.Keeps.trans {n : Nat} {u v w : Work} (h : u.Keeps n v) (h' : v.Keeps n w) : u.Keeps n w :=
  ⟨by rw [h'.ce, h.ce], h'.check.trans h.check, h'.tu.trans h.tu, h'.sj.trans h.sj, h'.now.trans h.now⟩

theorem Work.KitchenOnly.keeps {w v : Work} (h : w.KitchenOnly v) (n : Nat) : w.Keeps n v :=
  ⟨by rw [h.ce], h.check n, h.tu, h.sj, h.now⟩

/-- A try of the Fire Backlog leaves a check with no entry there as it is (R108). -/
theorem Work.tryBacklogFor_keeps {n : Nat} (k : Nat) {w : Work} (h : ∀ f ∈ w.ce.backlog, f.check ≠ n) :
    w.Keeps n (w.tryBacklogFor k) := by
  induction k generalizing w with
  | zero => exact .refl n w
  | succ k ih =>
    unfold Work.tryBacklogFor
    split
    · exact .refl n w
    · rename_i f rest hback
      split
      · exact .refl n w
      · rename_i c hc
        simp only
        split
        · obtain ⟨g, hs, hback', -⟩ := Work.makeTickets_lines c f.lines { w with ce := { w.ce with backlog := rest } }
          have hn : n ≠ c.number := by
            rw [(lookupBy_some hc).2]
            exact (h f (by rw [hback]; exact List.mem_cons_self)).symm
          have hrest : w.Keeps n { w with ce := { w.ce with backlog := rest } } := ⟨rfl, rfl, rfl, rfl, rfl⟩
          have hmade : Work.Keeps n { w with ce := { w.ce with backlog := rest } }
              (({ w with ce := { w.ce with backlog := rest } } : Work).makeTickets c
                (w.plan c (c.lines.filter fun l => decide (l.index ∈ f.lines)))) :=
            ⟨hs.ce, hs.other n hn, hs.tu, hs.sj, hs.now⟩
          refine (hrest.trans hmade).trans (ih fun e he => h e ?_)
          have he' : e ∈ rest := Eq.mp (congrArg (fun l => e ∈ l) hback') he
          rw [hback]
          exact List.mem_cons_of_mem _ he'
        · exact .refl n w

/-- An entry of the Fire Backlog with lines of a check taken out. -/
def Firing.without (n : Nat) (out : Nat → Bool) (f : Firing) : Firing :=
  if f.check == n then { f with lines := f.lines.filter fun i => !out i } else f

@[simp] theorem Firing.without_check (n : Nat) (out : Nat → Bool) (f : Firing) :
    (f.without n out).check = f.check := by
  unfold Firing.without
  split <;> rfl

/-- With the head entry a check's and emptied, no other entry is that check's. -/
theorem Firing.without_rest {n : Nat} {out : Nat → Bool} {f : Firing} {rest : List Firing}
    (h : ((f :: rest).map Firing.check).Nodup) (hf : f.check = n) (hempty : (f.without n out).lines.isEmpty = true) :
    ∀ e ∈ ((f :: rest).map (Firing.without n out)).filter (fun f => !f.lines.isEmpty), e.check ≠ n := by
  intro e he hn
  rw [List.map_cons, List.filter_cons_of_neg (by simp [hempty])] at he
  obtain ⟨g, hg, rfl⟩ := List.mem_map.1 (List.mem_of_mem_filter he)
  rw [Firing.without_check] at hn
  rw [List.map_cons, List.nodup_cons] at h
  exact h.1 (List.mem_map.2 ⟨g, hg, hn.trans hf.symm⟩)

/-- Lines of a check with one entry there are taken out of the Fire Backlog; the check is as it was (R49). -/
theorem Work.dropFromBacklog_keeps {n : Nat} (out : Nat → Bool) {w : Work} (h : (w.ce.backlog.map Firing.check).Nodup) :
    w.Keeps n (w.dropFromBacklog n out) := by
  have hcut : w.Keeps n { w with ce := { w.ce with
      backlog := (w.ce.backlog.map (Firing.without n out)).filter (fun f => !f.lines.isEmpty) } } :=
    ⟨rfl, rfl, rfl, rfl, rfl⟩
  cases hback : w.ce.backlog with
  | nil =>
    rw [Work.dropFromBacklog, hback]
    exact ⟨rfl, rfl, rfl, rfl, rfl⟩
  | cons f rest =>
    rw [hback] at h hcut
    have heq : w.dropFromBacklog n out =
        if f.check == n && (f.without n out).lines.isEmpty then
          ({ w with ce := { w.ce with backlog :=
            ((f :: rest).map (Firing.without n out)).filter (fun f => !f.lines.isEmpty) } } : Work).tryBacklog
        else { w with ce := { w.ce with backlog :=
            ((f :: rest).map (Firing.without n out)).filter (fun f => !f.lines.isEmpty) } } := by
      rw [Work.dropFromBacklog, hback]
      rfl
    rw [heq]
    split
    · rename_i hhead
      obtain ⟨hf, hempty⟩ := Bool.and_eq_true_iff.1 hhead
      exact hcut.trans (Work.tryBacklogFor_keeps _ (Firing.without_rest h (by simpa using hf) hempty))
    · exact hcut

end Sys2Proof.Machine
end

section
/-! PROOFS. Lines added to a check, and the split dissolved (R46, R64, R65). -/
namespace Sys2Proof.Machine

/-! ### A check dissolved to WHOLE (R65, R73) -/

/-- The line without its owner share. -/
def Line.ownerless (l : Line) : Line := { l with owner := none }

@[simp] theorem Line.ownerless_index (l : Line) : l.ownerless.index = l.index := rfl
@[simp] theorem Line.ownerless_owner (l : Line) : l.ownerless.owner = none := rfl
@[simp] theorem Line.ownerless_state (l : Line) : l.ownerless.state = l.state := rfl

@[simp] theorem Check.dissolved_lines (c : Check) : c.dissolved.lines = c.lines.map Line.ownerless := rfl

@[simp] theorem lineTotal_ownerless (ls : List Line) : lineTotal (ls.map Line.ownerless) = lineTotal ls := by
  rw [lineTotal, List.filter_map, List.map_map]
  rfl

/-- The one share of a dissolved check is the whole total (R65, R73). -/
theorem Check.dissolved_shares (c : Check) : c.dissolved.shares =
    [{ index := 1, due := c.dissolved.total, tendered := 0,
       state := if c.dissolved.total = 0 then .paid else .due, tenders := [] }] := rfl

theorem Check.dissolved_payState (c : Check) : c.dissolved.payState = c.dissolved.state := by
  simp [Check.payState, Check.dissolved]

/-- A dissolved check is PAID exactly when it costs nothing (R64, R73). -/
theorem Check.dissolved_paid (c : Check) :
    (c.dissolved.state = .paid ↔ c.dissolved.total = 0) ∧
      (c.dissolved.shares.all Share.isPaid = true ↔ c.dissolved.total = 0) := by
  by_cases h : lineTotal c.lines = 0 <;> simp [Check.dissolved, Share.isPaid, Share.new, h]

/-- A dissolved check with something to pay releases no line (R74, R75). -/
theorem Check.dissolved_released {c : Check} (h : 0 < c.dissolved.total) : c.dissolved.released = [] := by
  refine Check.released_unpaid (fun l hl => ?_) (Bool.eq_false_iff.2 fun hall => ?_)
  · obtain ⟨x, -, rfl⟩ := List.mem_map.1 hl
    rfl
  · exact h.ne' (c.dissolved_paid.2.1 hall)

/-! ### ADD (R44, R46) -/

/-- The new lines of a check follow its highest index (R46). -/
theorem Check.lastIndex_spec (c : Check) :
    (∀ l ∈ c.lines, l.index ≤ c.lastIndex) ∧ (c.lastIndex = 0 ∨ ∃ l ∈ c.lines, l.index = c.lastIndex) := by
  have key (is : List Nat) (m : Nat) : m ≤ is.foldl max m ∧ (∀ i ∈ is, i ≤ is.foldl max m) ∧
      (is.foldl max m = m ∨ is.foldl max m ∈ is) := by
    induction is generalizing m with
    | nil => simp
    | cons i is ih =>
      obtain ⟨hm, hle, hat⟩ := ih (max m i)
      rw [List.foldl_cons]
      refine ⟨by omega, List.forall_mem_cons.2 ⟨by omega, hle⟩, ?_⟩
      rcases hat with hat | hat
      · rw [hat, List.mem_cons]
        omega
      · exact .inr (List.mem_cons_of_mem _ hat)
  obtain ⟨-, hle, hat⟩ := key (c.lines.map Line.index) 0
  exact ⟨fun l hl => hle _ (List.mem_map_of_mem hl), hat.imp id List.mem_map.1⟩

/-- A till that may act on an open check finds it (R43). -/
theorem State.openTo_ok {s : State} {t : TillId} {n : Nat} {c : Check} (hc : s.hasCheck n c) (hact : s.mayAct t c) :
    s.work.openTo (s.till t) n = .ok c := by
  have hcheck : s.work.check? n = some c := hc
  have hmay : (s.till t).role = .supervisor ∨ c.stand = (s.till t).stand := hact
  simp only [Work.openTo, hcheck, if_pos hmay]

theorem Check.hasTender_none {c : Check} (h : ∀ x ∈ c.shares, x.tenders = []) : c.hasTender = false :=
  List.any_eq_false.2 fun x hx => by simp [h x hx]

/-- An ADD that passes its tests (R44, R46). -/
theorem addSlip_accepted {s : State} {t : TillId} {content : List Byte} {n : Nat} {c : Check} {ls : List SlipLine}
    (hread : readAdd content = .ok (n, ls)) (hc : s.hasCheck n c) (hact : s.mayAct t c)
    (htender : ∀ x ∈ c.shares, x.tenders = []) (hsell : s.canSell ls) (hlen : c.lines.length + ls.length ≤ 24)
    (hprice : c.total + s.priceOf ls ≤ 99999999) :
    addSlip t (s.till t) content s.work =
      (.yes n [.index (some (c.lastIndex + 1)), .count ls.length, .amount (c.total + s.priceOf ls)],
        s.work.addLines c ls) := by
  have hrefuse : s.work.addRefusal c ls = none := by
    rw [Work.addRefusal, Check.hasTender_none htender]
    exact State.lineRefusal_none hsell hlen hprice
  simp only [addSlip, hread, State.openTo_ok hc hact, hrefuse]
  rfl

/-- The check with new lines, dissolved, READY to be told again (R46, R65). -/
def Check.withNew (new : List Line) (c : Check) : Check :=
  { ({ c with lines := c.lines ++ new } : Check).dissolved with readySent := false }

/-- The lines that a slip adds to a check. -/
def Work.added (c : Check) (ls : List SlipLine) (w : Work) : List Line :=
  (w.takeStock ls).newLines (c.lastIndex + 1) ls

theorem Work.addLines_eq (c : Check) (ls : List SlipLine) (w : Work) : w.addLines c ls =
    ((w.takeStock ls).onCheck c.number (Check.withNew (w.added c ls))).fireAccepted c
      ((w.added c ls).map Line.index) := rfl

/-- What stock and the new lines of an accepted ADD are (R8, R46). -/
theorem Work.added_spec {s : State} {c : Check} {ls : List SlipLine} (hsell : s.canSell ls) :
    (s.work.added c ls).map Line.index = (List.range ls.length).map (· + (c.lastIndex + 1)) ∧
      List.Forall₂ (fun x l => s.snapshot x l ∧ l.state = .held) ls (s.work.added c ls) :=
  Work.newLines_spec (Work.takeStock_spec ls s.work).2 hsell.1 _

/-- The total of a check with new lines is its old one and the price of the slip (R38, R44). -/
theorem Check.withNew_total {s : State} {c : Check} {ls : List SlipLine} (hbal : c.balanced) (hsell : s.canSell ls) :
    (c.withNew (s.work.added c ls)).total = c.total + s.priceOf ls := by
  obtain ⟨htotal, -, -⟩ := hbal
  rw [htotal, ← lineTotal_snapshots (Work.added_spec hsell).2]
  exact lineTotal_append _ _

/-- An ADD accepted: the check is dissolved over its old and new lines, and of these the kitchen has had those that
fire (R46, R58, R65). -/
theorem Work.addLines_sends {s : State} {n : Nat} {c : Check} {ls : List SlipLine} (hc : s.hasCheck n c)
    (hlen : 1 ≤ ls.length) (hsell : s.canSell ls) :
    ∃ f is, ((s.work.takeStock ls).onCheck n (Check.withNew (s.work.added c ls))).Sends n is f (s.work.addLines c ls) ∧
      (s.work.addLines c ls).FiresLines (c.withNew (s.work.added c ls)) is f ∧
      (s.ce.stands[c.stand].policy = .fireOnOrder → is = (s.work.added c ls).map Line.index) ∧
      (s.ce.stands[c.stand].policy = .fireOnPay → is = (c.withNew (s.work.added c ls)).released) := by
  obtain rfl : c.number = n := (lookupBy_some hc).2
  obtain ⟨hst, -⟩ := Work.takeStock_spec ls s.work
  have hsnap := (Work.added_spec (c := c) hsell).2
  have hfound : (s.work.takeStock ls).check? c.number = some c := by rw [Work.check?, hst]; exact hc
  have hself : ((s.work.takeStock ls).onCheck c.number (Check.withNew (s.work.added c ls))).check? c.number =
      some (c.withNew (s.work.added c ls)) := Work.check?_onCheck_self (fun _ => rfl) hfound
  have hheld : ∃ l ∈ (c.withNew (s.work.added c ls)).lines, l.state = .held := by
    obtain ⟨l, hl⟩ := List.exists_mem_of_length_pos (hsnap.length_eq ▸ hlen : 0 < (s.work.added c ls).length)
    exact ⟨l.ownerless, List.mem_map_of_mem (List.mem_append_right _ hl), (snapshots_held hsnap l hl).1⟩
  have hpolicy : ((s.work.takeStock ls).onCheck c.number (Check.withNew (s.work.added c ls))).stand c.stand =
      s.ce.stands[c.stand] := by
    rw [Work.stand, Work.onCheck_ce, hst]
    rfl
  rw [Work.addLines_eq, ← hpolicy]
  exact Work.fireAccepted_sends _ hself rfl (Check.dissolved_payState _) hheld

/-- ADD in the bill's terms (R8, R44, R46, R65). -/
theorem exec_add_accepted {s : State} {t : TillId} {content : List Byte} {rest : List Slip} {n : Nat} {c : Check}
    {ls : List SlipLine} (hhead : s.headSlip t 2 content rest) (hread : readAdd content = .ok (n, ls))
    (hc : s.hasCheck n c) (hact : s.mayAct t c) (hbal : s.BillsBalance) (htender : ∀ x ∈ c.shares, x.tenders = [])
    (hsell : s.canSell ls) (hlen : c.lines.length + ls.length ≤ 24) (hprice : c.total + s.priceOf ls ≤ 99999999) :
    exec .add s = .next (((s.afterTaking rest).commit (s.work.addLines c ls)).post t (.answer 2 (some n)
      (.accepted [.index (some (c.lastIndex + 1)), .count ls.length,
        .amount (c.withNew (s.work.added c ls)).total]))) := by
  obtain ⟨-, -, hbalanced, -⟩ := hbal
  rw [Check.withNew_total (hbalanced c (lookupBy_some hc).1) hsell]
  refine congrArg Host.Outcome.next ((State.takeSlip_till addSlip hhead).trans ?_)
  rw [addSlip_accepted hread hc hact htender hsell hlen hprice]
  rfl

/-- Lines that are not given to the kitchen are as they were. -/
theorem Work.Sends.map_rest {n : Nat} {is : List Nat} {f : Line → Line} {w v : Work} (h : w.Sends n is f v)
    {ls : List Line} (hls : ∀ l ∈ ls, l.index ∉ is) : ls.map f = ls :=
  (List.map_congr_left fun l hl => h.rest l (hls l hl)).trans (List.map_id ls)

/-- The lines of a check that an ADD extends: the old ones without owners, then the new ones (R46, R65). -/
theorem Check.withNew_lines {s : State} {c : Check} {ls : List SlipLine} (hsell : s.canSell ls) :
    (c.withNew (s.work.added c ls)).lines = c.lines.map Line.ownerless ++ s.work.added c ls := by
  have hnew : (s.work.added c ls).map Line.ownerless = s.work.added c ls := by
    refine (List.map_congr_left fun l hl => ?_).trans (List.map_id _)
    rw [Line.ownerless, ← (snapshots_held (Work.added_spec hsell).2 l hl).2]
    rfl
  exact List.map_append.trans (congrArg _ hnew)

/-- The new lines' indices are not among the old ones (R46). -/
theorem Work.added_fresh {s : State} {c : Check} {ls : List SlipLine} (hsell : s.canSell ls) :
    ∀ l ∈ c.lines.map Line.ownerless, l.index ∉ (s.work.added c ls).map Line.index := by
  intro l hl hmem
  obtain ⟨x, hx, rfl⟩ := List.mem_map.1 hl
  rw [(Work.added_spec hsell).1] at hmem
  obtain ⟨k, -, hk⟩ := List.mem_map.1 hmem
  have hle : x.index ≤ c.lastIndex := c.lastIndex_spec.1 x hx
  rw [Line.ownerless_index] at hk
  omega

/-- What an accepted ADD leaves of the work beside the check and the kitchen (R8, R46). -/
theorem Work.addLines_rest {s : State} {n : Nat} {c : Check} {ls : List SlipLine} {is : List Nat} {f : Line → Line}
    (h : ((s.work.takeStock ls).onCheck n (Check.withNew (s.work.added c ls))).Sends n is f (s.work.addLines c ls)) :
    (s.work.addLines c ls).ce.items = (s.work.takeStock ls).ce.items ∧ (s.work.addLines c ls).sj = s.sj ∧
      (s.work.addLines c ls).tu = s.tu ∧
      ∀ m, m ≠ n → (s.work.addLines c ls).check? m = lookupBy Check.number m s.ce.checks := by
  obtain ⟨hst, -⟩ := Work.takeStock_spec ls s.work
  refine ⟨?_, h.sj.trans ?_, h.tu.trans ?_, fun m hm => ?_⟩
  · rw [h.ce]
    rfl
  · rw [Work.onCheck_sj, hst]
    rfl
  · rw [Work.onCheck_tu, hst]
    rfl
  · rw [h.other m hm, Work.check?_onCheck_other (f := Check.withNew _) (fun _ => rfl) hm, Work.check?, hst]
    rfl

end Sys2Proof.Machine
end

section
/-! PROOFS. Lines voided (R48, R49, R54, R55, R65). -/
namespace Sys2Proof.Machine

/-! ### READY and closure (R54, R55) -/

/-- READY changes the check's READY-sent flag at most. -/
theorem Work.readyTest_spec {n : Nat} {c : Check} {w : Work} (hc : w.check? n = some c) :
    (∃ b, (w.readyTest n).check? n = some { c with readySent := b }) ∧
      w.readyTest n = { w with ce := { w.ce with checks := (w.readyTest n).ce.checks }, fx := (w.readyTest n).fx } := by
  simp only [Work.readyTest, hc]
  split
  · have hsent (es : List Effect) (v : Work) : es.foldl (fun w e => w.emit e) v = { v with fx := v.fx ++ es } := by
      induction es generalizing v with
      | nil => simp
      | cons e es ih => rw [List.foldl_cons, ih]; simp [Work.emit]
    rw [hsent]
    exact ⟨⟨true, Work.check?_onCheck_self (f := fun c => { c with readySent := true }) (fun _ => rfl) hc⟩, rfl⟩
  · exact ⟨⟨c.readySent, hc⟩, rfl⟩

/-- The completion of a close leaves the checks, the items, the authorizations and the journal (R165). -/
theorem Work.closeTest_keeps (sd : StandId) (w : Work) :
    (w.closeTest sd).ce.checks = w.ce.checks ∧ (w.closeTest sd).ce.items = w.ce.items ∧
      (w.closeTest sd).tu = w.tu ∧ (w.closeTest sd).sj = w.sj := by
  unfold Work.closeTest
  split
  · have hfold := Work.KitchenOnly.foldl (f := fun w n => w.freeRaw n) (fun w n => w.freeRaw_kitchenOnly n)
      (w.recallTickets sd) w
    have hchecks : ((w.recallTickets sd).foldl (fun w n => w.freeRaw n) w).ce.checks = w.ce.checks := by rw [hfold.ce]
    have hitems : ((w.recallTickets sd).foldl (fun w n => w.freeRaw n) w).ce.items = w.ce.items := by rw [hfold.ce]
    exact ⟨hchecks, hitems, hfold.tu, hfold.sj⟩
  · exact ⟨rfl, rfl, rfl, rfl⟩

/-- A check that cannot close stays, with READY told or not (R54, R55). -/
theorem Work.lineTests_open {n : Nat} {c : Check} {w : Work} (hc : w.check? n = some c) (h : c.closable = false) :
    (∃ b, (w.lineTests n).check? n = some { c with readySent := b }) ∧
      w.lineTests n = { w with ce := { w.ce with checks := (w.lineTests n).ce.checks }, fx := (w.lineTests n).fx } := by
  obtain ⟨⟨b, hb⟩, hrest⟩ := Work.readyTest_spec hc
  have hstay : w.lineTests n = w.readyTest n := by
    have hnot : ({ c with readySent := b } : Check).closable = false := h
    simp [Work.lineTests, Work.closureTest, hb, hnot]
  rw [hstay]
  exact ⟨⟨b, hb⟩, hrest⟩

/-- A check that can close leaves the table with its record (R55). -/
theorem Work.lineTests_closes {n : Nat} {c : Check} {w : Work} (hc : w.check? n = some c) (h : c.closable = true) :
    (∀ x ∈ (w.lineTests n).ce.checks, x.number ≠ n) ∧ (w.lineTests n).ce.items = w.ce.items ∧
      (w.lineTests n).tu = w.tu ∧ (w.lineTests n).sj = (w.append (.checkClosed c.summary)).sj := by
  obtain ⟨⟨b, hb⟩, hrest⟩ := Work.readyTest_spec hc
  have hleave : w.lineTests n = ((w.readyTest n).closeCheck { c with readySent := b }) := by
    have hclose : ({ c with readySent := b } : Check).closable = true := h
    simp [Work.lineTests, Work.closureTest, hb, hclose]
  obtain ⟨hchecks, hitems, htu, hsj⟩ := Work.closeTest_keeps c.stand
    (((w.readyTest n).append (.checkClosed c.summary)).leaveTable c.number)
  have hn : c.number = n := (lookupBy_some hc).2
  rw [hleave]
  refine ⟨fun x hx => ?_, hitems.trans ?_, htu.trans ?_, hsj.trans ?_⟩
  · have hx' : x ∈ eraseBy Check.number c.number _ := hchecks ▸ hx
    simpa [hn] using (List.mem_filter.1 hx').2
  all_goals rw [hrest]; rfl

/-! ### A line voided, and its check dissolved (R49, R65) -/

/-- The line of an index VOIDED (R49). -/
def Check.voidLine (i : Nat) : Check → Check :=
  Check.onLines (fun x => x.index == i) fun x => { x with state := .voided }

/-- The check with the line of an index VOIDED, and dissolved (R49, R65). -/
def Check.lessLine (i : Nat) (c : Check) : Check := (c.voidLine i).dissolved

/-- A VOID LINE up to the payment: the line leaves the Fire Backlog and is VOIDED, its stock returns and the check's
split is dissolved (R49). -/
def Work.takeLine (c : Check) (l : Line) (w : Work) : Work :=
  let w := if l.state = .firing then w.dropFromBacklog c.number (fun i => i == l.index) else w
  ((w.onCheck c.number (Check.voidLine l.index)).returnStock l).onCheck c.number Check.dissolved

theorem Work.voidLine_eq (c : Check) (l : Line) (w : Work) : w.voidLine c l = (w.takeLine c l).payments c.number := rfl

theorem Work.takeLine_spec {n : Nat} {c : Check} {l : Line} {w : Work} (hc : w.check? n = some c)
    (hback : (w.ce.backlog.map Firing.check).Nodup) :
    (w.takeLine c l).check? n = some (c.lessLine l.index) ∧ (w.takeLine c l).ce.stands = w.ce.stands ∧
      (∀ m, (w.takeLine c l).item? m = if m = l.item then (w.item? m).map (Item.more l.qty) else w.item? m) ∧
      (w.takeLine c l).tu = w.tu ∧ (w.takeLine c l).sj = w.sj ∧ (w.takeLine c l).now = w.now ∧
      (l.state ≠ .firing → (w.takeLine c l).kr = w.kr ∧ (w.takeLine c l).ports = w.ports) := by
  obtain rfl : c.number = n := (lookupBy_some hc).2
  have hkeeps : ∃ v, w.Keeps c.number v ∧ (l.state ≠ .firing → v = w) ∧ w.takeLine c l =
      ((v.onCheck c.number (Check.voidLine l.index)).returnStock l).onCheck c.number Check.dissolved := by
    by_cases h : l.state = .firing
    · exact ⟨_, Work.dropFromBacklog_keeps (fun i => i == l.index) hback, fun h' => absurd h h',
        by rw [Work.takeLine, if_pos h]⟩
    · exact ⟨w, .refl _ w, fun _ => rfl, by rw [Work.takeLine, if_neg h]⟩
  obtain ⟨v, hv, hsame, heq⟩ := hkeeps
  have hvoided := Work.check?_onCheck_self (f := Check.voidLine l.index) (fun _ => rfl) (hv.check.trans hc)
  obtain ⟨hst, hitems⟩ := Work.returnStock_spec l (v.onCheck c.number (Check.voidLine l.index))
  have hvitem (m : Nat) : v.item? m = w.item? m := by
    rw [Work.item?, hv.ce]
    rfl
  rw [heq]
  refine ⟨?check, ?stands, fun m => ?items, ?tu, ?sj, ?now, fun h => ?kitchen⟩
  case check =>
    refine Work.check?_onCheck_self (fun _ => rfl) (Eq.trans ?_ hvoided)
    rw [Work.check?, hst]
    rfl
  case stands =>
    rw [Work.onCheck_ce, hst]
    simp only [Work.onCheck_ce]
    rw [hv.ce]
  case items => rw [← hvitem]; exact hitems m
  case tu => rw [Work.onCheck_tu, hst]; exact hv.tu
  case sj => rw [Work.onCheck_sj, hst]; exact hv.sj
  case now => rw [Work.onCheck_now, hst]; exact hv.now
  case kitchen =>
    rw [Work.onCheck_kr, Work.onCheck_ports, hst, hsame h]
    exact ⟨rfl, rfl⟩

end Sys2Proof.Machine
end

section
/-! PROOFS. VOID LINE (R48, R49), and the changes of a check's lines together (O36). -/
namespace Sys2Proof.Machine

/-! ### The check without its voided line (R49, R65) -/

theorem Check.lessLine_index (i : Nat) (c : Check) : (c.lessLine i).lines.map Line.index = c.lines.map Line.index := by
  rw [Check.lessLine, Check.dissolved_lines, Check.voidLine, Check.onLines, List.map_map, List.map_map]
  refine List.map_congr_left fun l _ => ?_
  simp only [Function.comp_def, Line.ownerless_index]
  split <;> rfl

/-- No line of the check has an owner; the line voided is VOIDED, and every other is as it was (R49, R65). -/
theorem Check.lessLine_mem {i : Nat} {c : Check} {x : Line} (h : x ∈ (c.lessLine i).lines) :
    x.owner = none ∧ (x.index = i → x.state = .voided) ∧ (x.index ≠ i → ∃ y ∈ c.lines, y.ownerless = x) := by
  rw [Check.lessLine, Check.dissolved_lines, Check.voidLine, Check.onLines, List.map_map] at h
  obtain ⟨y, hy, rfl⟩ := List.mem_map.1 h
  by_cases hi : y.index = i
  · simp [hi]
  · simpa [hi] using ⟨y, hy, rfl⟩

/-- The lines that a voided line leaves make the total (R38, R49). -/
theorem Check.lessLine_total (i : Nat) (c : Check) :
    (c.lessLine i).total = lineTotal (c.lines.filter fun x => x.index != i) := by
  change lineTotal (c.lines.map _) = _
  induction c.lines with
  | nil => rfl
  | cons x xs ih =>
    simp only [lineTotal] at ih ⊢
    by_cases hi : x.index = i
    · simpa [hi, Line.live] using ih
    · by_cases hl : x.state = .voided <;> simpa [hi, hl, Line.live] using ih

/-- The line voided is not among the lines that a payment releases (R74). -/
theorem Check.lessLine_released (i : Nat) (c : Check) : i ∉ (c.lessLine i).released := fun h => by
  obtain ⟨x, hx, hheld, hi⟩ := Check.released_held h
  obtain ⟨-, hvoided, -⟩ := Check.lessLine_mem hx
  exact absurd (hheld.symm.trans (hvoided hi)) (by decide)

/-- A check that can close has had no line given to the kitchen now (R55). -/
theorem Check.closable_unsent {v : Work} {c : Check} {is : List Nat} {f : Line → Line} (hf : v.FiresLines c is f)
    (hrest : ∀ l : Line, l.index ∉ is → f l = l) (h : (c.mapLines f).closable = true) : c.mapLines f = c := by
  have hdone := List.all_eq_true.1 (Bool.and_eq_true_iff.1 h).2
  have hkept : c.lines.map f = c.lines := by
    refine (List.map_congr_left fun l hl => ?_).trans (List.map_id _)
    refine hrest l fun hi => ?_
    have hl' := hdone (f l) (List.mem_map_of_mem hl)
    rcases hf with hfired | ⟨hfiring, -⟩
    · simp [hfired l hl hi] at hl'
    · simp [hfiring l hl hi] at hl'
  rw [Check.mapLines, hkept]

/-! ### A VOID LINE accepted (R49, R54, R55) -/

/-- The check closes over the lines that are left, or it stays and the kitchen has had those that fire; these are none
on a FIRE_ON_ORDER stand and none while something is to be paid (R49, R55, R74, R75). -/
theorem Work.voidLine_spec {n : Nat} {c : Check} {l : Line} {w : Work} (hc : w.check? n = some c)
    (hback : (w.ce.backlog.map Firing.check).Nodup) :
    (∀ m, (w.voidLine c l).item? m = if m = l.item then (w.item? m).map (Item.more l.qty) else w.item? m) ∧
      (w.voidLine c l).tu = w.tu ∧
      ((∃ x : CheckSummary, x.check = n ∧ x.total = (c.lessLine l.index).total ∧
          (∀ d ∈ (w.voidLine c l).ce.checks, d.number ≠ n) ∧
          (w.voidLine c l).sj = (w.append (.checkClosed x)).sj) ∨
        ∃ f is b, (w.voidLine c l).check? n = some { (c.lessLine l.index).mapLines f with readySent := b } ∧
          (∀ x : Line, x.SentAs (f x)) ∧ (∀ x : Line, x.index ∉ is → f x = x) ∧ l.index ∉ is ∧
          ((w.stand c.stand).policy = .fireOnOrder ∨ 0 < (c.lessLine l.index).total → is = []) ∧
          (w.voidLine c l).sj = w.sj ∧
          (is = [] → l.state ≠ .firing → (w.voidLine c l).kr = w.kr ∧ (w.voidLine c l).ports = w.ports)) := by
  obtain rfl : c.number = n := (lookupBy_some hc).2
  obtain ⟨hcheck, hstands, hitems, htu, hsj, hnow, hkitchen⟩ := Work.takeLine_spec (l := l) hc hback
  obtain ⟨f, is, v, hs, hf, hv, honpay, honorder, hidle⟩ :=
    Work.payments_sends hcheck (Check.dissolved_payState _)
  have hvc := hs.self _ hcheck
  have hvitems : v.ce.items = (w.takeLine c l).ce.items := by rw [hs.ce]
  have hpolicy : (w.takeLine c l).stand (c.lessLine l.index).stand = w.stand c.stand := by
    rw [Work.stand, hstands]
    rfl
  rw [hpolicy] at honpay honorder
  rw [Work.voidLine_eq, hv]
  by_cases hclose : ((c.lessLine l.index).mapLines f).closable = true
  · obtain ⟨hgone, hcitems, hctu, hcsj⟩ := Work.lineTests_closes hvc hclose
    rw [Check.closable_unsent hf hs.rest hclose] at hcsj
    refine ⟨fun m => ?_, hctu.trans (hs.tu.trans htu), .inl ⟨(c.lessLine l.index).summary, rfl,
      lineTotal_ownerless _, hgone, hcsj.trans ?_⟩⟩
    · rw [← hitems, Work.item?, hcitems, hvitems]
      rfl
    · simp only [Work.append, hs.sj, hsj, hs.now, hnow]
  · obtain ⟨⟨b, hb⟩, hrest⟩ := Work.lineTests_open hvc (Bool.eq_false_iff.2 hclose)
    have hpolicies : is = [] ∨ (w.stand c.stand).policy = .fireOnPay := by
      cases hp : (w.stand c.stand).policy with
      | fireOnOrder => exact .inl (honorder hp)
      | fireOnPay => exact .inr rfl
    refine ⟨fun m => ?_, ?_, .inr ⟨f, is, b, hb, hs.sent, hs.rest, ?_, fun h => ?_, ?_, fun hnone hl => ?_⟩⟩
    · rw [← hitems, Work.item?, hrest, hvitems]
      rfl
    · rw [hrest, ← htu]
      exact hs.tu
    · rcases hpolicies with hnone | hp
      · simp [hnone]
      · rw [honpay hp]
        exact Check.lessLine_released _ c
    · rcases hpolicies with hnone | hp
      · exact hnone
      · rw [honpay hp]
        exact Check.dissolved_released (h.resolve_left (by simp [hp]))
    · rw [hrest, ← hsj]
      exact hs.sj
    · rw [hrest]
      exact ⟨(hidle hnone).1.trans (hkitchen hl).1, (hidle hnone).2.trans (hkitchen hl).2⟩

/-! ### VOID LINE (R48) -/

theorem Line.inKitchen_iff {l : Line} : l.inKitchen = true ↔ l.state = .fired ∨ l.state = .cooked := by
  simp [Line.inKitchen]

/-- The work of a VOID LINE that stands in no kitchen's way: the Router has taken what is FIRED or COOKED (R49). -/
def Work.voidStart (c : Check) (l : Line) (w : Work) : Option Work :=
  if l.inKitchen then w.kitchenVoid c [l] else some w

/-- The lines of a balanced check are told apart by their indices (3.1). -/
theorem Check.find_line {c : Check} {l : Line} (hbal : c.balanced) (hl : l ∈ c.lines) (hlive : l.state ≠ .voided) :
    (c.lines.find? fun x => x.index == l.index && x.live) = some l := by
  obtain ⟨-, -, hnodup⟩ := hbal
  cases hfind : c.lines.find? fun x => x.index == l.index && x.live with
  | none => simpa [Line.live, hlive] using List.find?_eq_none.1 hfind l hl
  | some x =>
    have hx := List.find?_some hfind
    simp only [Bool.and_eq_true, beq_iff_eq] at hx
    rw [List.inj_on_of_nodup_map hnodup (List.mem_of_find?_eq_some hfind) hl hx.1]

/-- A VOID LINE slip for line `l` of check `n` that passes the tests of R48. -/
structure State.VoidsLine (s : State) (t : TillId) (content : List Byte) (n : Nat) (c : Check) (l : Line) : Prop where
  read     : readVoidLine content = some (n, l.index)
  check    : s.hasCheck n c
  acts     : s.mayAct t c
  balanced : c.balanced
  tenders  : ∀ x ∈ c.shares, x.tenders = []
  mem      : l ∈ c.lines
  live     : l.state ≠ .voided
  undone   : l.state ≠ .done
  role     : l.state = .fired ∨ l.state = .cooked → (s.till t).role = .supervisor

section
variable {s : State} {t : TillId} {content : List Byte} {rest : List Slip} {n : Nat} {c : Check} {l : Line}

/-- What stands after the tests of R48 is the Router's word. -/
theorem State.VoidsLine.role_passes (h : s.VoidsLine t content n c l) :
    ¬ (l.inKitchen = true ∧ (s.till t).role ≠ .supervisor) := fun ⟨hin, hnot⟩ =>
  hnot (h.role (Line.inKitchen_iff.1 hin))

theorem voidLineSlip_refused (h : s.VoidsLine t content n c l) (hfull : s.work.voidStart c l = none) :
    voidLineSlip t (s.till t) content s.work = (.no (some n) .kitchenFull none, s.work) := by
  rw [Work.voidStart] at hfull
  simp only [voidLineSlip, h.read, State.openTo_ok h.check h.acts, Check.hasTender_none h.tenders,
    Check.find_line h.balanced h.mem h.live, h.undone, h.role_passes, if_false, Bool.false_eq_true, hfull]

theorem voidLineSlip_accepted {w : Work} (h : s.VoidsLine t content n c l) (hstart : s.work.voidStart c l = some w) :
    voidLineSlip t (s.till t) content s.work =
      (.yes n [.index (some l.index), .amount (c.totalWithout l)], w.voidLine c l) := by
  rw [Work.voidStart] at hstart
  simp only [voidLineSlip, h.read, State.openTo_ok h.check h.acts, Check.hasTender_none h.tenders,
    Check.find_line h.balanced h.mem h.live, h.undone, h.role_passes, if_false, Bool.false_eq_true, hstart]

/-- The Router's refusal is the slip's, and nothing else changes (R48). -/
theorem exec_voidLine_refused (hhead : s.headSlip t 5 content rest) (h : s.VoidsLine t content n c l)
    (hfull : s.work.voidStart c l = none) :
    exec .voidLine s = .next ((s.afterTaking rest).post t (.answer 5 (some n) (.refused .kitchenFull none))) := by
  refine congrArg Host.Outcome.next ((State.takeSlip_till voidLineSlip hhead).trans ?_)
  rw [voidLineSlip_refused h hfull]
  rfl

theorem exec_voidLine_accepted {w : Work} (hhead : s.headSlip t 5 content rest) (h : s.VoidsLine t content n c l)
    (hstart : s.work.voidStart c l = some w) :
    exec .voidLine s = .next (((s.afterTaking rest).commit (w.voidLine c l)).post t
      (.answer 5 (some n) (.accepted [.index (some l.index), .amount (c.totalWithout l)]))) := by
  refine congrArg Host.Outcome.next ((State.takeSlip_till voidLineSlip hhead).trans ?_)
  rw [voidLineSlip_accepted h hstart]
  rfl

end

theorem Work.voidStart_kitchen {c : Check} {l : Line} {w : Work} (h : l.state = .fired ∨ l.state = .cooked) :
    w.voidStart c l = w.kitchenVoid c [l] := if_pos (Line.inKitchen_iff.2 h)

/-- A line that is HELD or FIRING is not the Router's, and any other needs its word (R48, R49). -/
theorem Work.voidStart_some {c : Check} {l : Line} {w : Work}
    (h : l.state = .held ∨ l.state = .firing ∨ (w.kitchenVoid c [l]).isSome) : ∃ v, w.voidStart c l = some v := by
  unfold Work.voidStart
  split
  · rename_i hin
    rcases h with h | h | h
    · simp [Line.inKitchen, h] at hin
    · simp [Line.inKitchen, h] at hin
    · exact Option.isSome_iff_exists.1 h
  · exact ⟨w, rfl⟩

theorem Work.voidStart_kitchenOnly {c : Check} {l : Line} {w v : Work} (h : w.voidStart c l = some v) :
    w.KitchenOnly v := by
  unfold Work.voidStart at h
  split at h
  · exact Work.kitchenVoid_kitchenOnly h
  · cases h
    exact .refl w

/-- One line's stock returned (R8). -/
theorem State.stockReturned_one {s u : State} {l : Line} (h : ∀ m, lookupBy Item.code m u.ce.items =
    if m = l.item then (lookupBy Item.code m s.ce.items).map (Item.more l.qty) else lookupBy Item.code m s.ce.items) :
    s.stockReturned u [l] := by
  intro m
  rw [h]
  cases lookupBy Item.code m s.ce.items with
  | none => simp
  | some i =>
    by_cases hm : l.item = m
    · cases hk : i.stock <;> simp [Item.more, Item.recount, hm, hk]
    · cases hk : i.stock <;> simp [hm, Ne.symm hm, hk]

/-- What the answer calls the total of the check without its line (R48). -/
theorem Check.totalWithout_eq (c : Check) (l : Line) : c.totalWithout l =
    ((c.lines.filter fun x => decide (x.index ≠ l.index) && decide (x.state ≠ .voided)).map
      fun x => x.qty * x.price).sum := by
  rw [Check.totalWithout, lineTotal, List.filter_filter]
  refine congrArg (fun xs : List Line => (xs.map fun x => x.qty * x.price).sum) (List.filter_congr fun x _ => ?_)
  rw [Bool.and_comm, Line.live, bne, beq_eq_decide, ← decide_not]

/-- A check that left with its record has closed (R55). -/
theorem State.closedCheck_of_record {s u : State} {w v : Work} {n total : Nat} {x : CheckSummary}
    (hw : s.work.KitchenOnly w) (hchecks : u.ce.checks = v.ce.checks) (hsj : u.sj = v.sj) (hgone : ∀ d ∈ v.ce.checks, d.number ≠ n)
    (hrecord : v.sj = (w.append (.checkClosed x)).sj) (hn : x.check = n) (ht : x.total = total) :
    s.ClosedCheck u n total := by
  rw [Work.append, hw.sj, hw.now] at hrecord
  refine ⟨hchecks ▸ hgone, x, hn, ht, ?_, ?_⟩
  · rw [hsj, hrecord]
    rfl
  · rw [hsj, hrecord]
    rfl

/-- The lines of the check that stays, once the kitchen has had those that fire (R49, R65). -/
theorem Check.lessLine_sent {i : Nat} {c : Check} {is : List Nat} {f : Line → Line} (hsent : ∀ x : Line, x.SentAs (f x))
    (hrest : ∀ x : Line, x.index ∉ is → f x = x) (hi : i ∉ is) :
    ((c.lessLine i).lines.map f).map Line.index = c.lines.map Line.index ∧
      (∀ x ∈ (c.lessLine i).lines.map f, x.owner = none ∧ (x.index = i → x.state = .voided)) ∧
      (is = [] → ∀ x ∈ (c.lessLine i).lines.map f, x.index ≠ i → ∃ y ∈ c.lines, y.ownerless = x) := by
  have hindex (x : Line) : (f x).index = x.index := by rw [← hsent x]
  have howner (x : Line) : (f x).owner = x.owner := by rw [← hsent x]
  refine ⟨?_, List.forall_mem_map.2 fun y hy => ?_, fun hnone => List.forall_mem_map.2 fun y hy => ?_⟩
  · rw [← Check.lessLine_index i c, List.map_map]
    exact List.map_congr_left fun x _ => hindex x
  · obtain ⟨hnoOwner, hvoided, -⟩ := Check.lessLine_mem hy
    refine ⟨(howner y).trans hnoOwner, fun hyi => ?_⟩
    rw [hindex] at hyi
    rw [hrest y (hyi ▸ hi)]
    exact hvoided hyi
  · obtain ⟨-, -, hothers⟩ := Check.lessLine_mem hy
    rw [hrest y (by simp [hnone])]
    exact hothers

/-- Settles O36. -/
theorem lineChangesDissolveSplits : Obligations.LineChangesDissolveSplits := by
  refine ⟨fun s t content rest n c ls hhead hread hc hact hbal htender hsell hlen hprice => ?_,
    fun s t content rest n i c l hhead hread hc hact hbal htender hl hi hlive hdone hrole => ?_⟩
  · have hbalanced : c.balanced := hbal.2.2.1 c (lookupBy_some hc).1
    obtain ⟨hst, hitems⟩ := Work.takeStock_spec ls s.work
    obtain ⟨hindex, hsnap⟩ := Work.added_spec (c := c) hsell
    obtain ⟨hlast, hattained⟩ := c.lastIndex_spec
    obtain ⟨f, is, hs, hf, horder, honpay⟩ := Work.addLines_sends hc (readAdd_length hread).1 hsell
    obtain ⟨hstock, hsj, htu, hother⟩ := Work.addLines_rest hs
    have hlines : (c.withNew (s.work.added c ls)).lines = _ := Check.withNew_lines hsell
    have hfound : (s.work.takeStock ls).check? n = some c := by rw [Work.check?, hst]; exact hc
    refine ⟨_, (c.withNew (s.work.added c ls)).mapLines f, c.lastIndex + 1, (c.lines.map Line.ownerless).map f,
      (s.work.added c ls).map f, exec_add_accepted hhead hread hc hact hbal htender hsell hlen hprice, ?self, ?lines,
      Check.withNew_total hbalanced hsell, rfl, rfl, (Check.dissolved_paid _).1, Check.dissolved_shares _,
      fun l hl => Nat.lt_succ_of_le (hlast l hl), ?start, ?index, ?snapshot, ?old, ?onOrder, ?onPay, ?stock, ?sj, ?tu,
      ?other⟩
    case self =>
      rw [State.hasCheck, State.commit_ce]
      exact hs.self _ (Work.check?_onCheck_self (fun _ => rfl) hfound)
    case lines => rw [Check.mapLines_lines, hlines, List.map_append]
    case start => exact hattained.imp (congrArg (· + 1)) fun ⟨l, hl, h⟩ => ⟨l, hl, congrArg (· + 1) h⟩
    case index =>
      rw [← hindex, List.map_map]
      exact List.map_congr_left fun l _ => hs.index l
    case snapshot => exact List.forall₂_map_right_iff.2 (hsnap.imp fun x l h => State.snapshot_sent h.1 (hs.sent l))
    case old =>
      rw [List.map_map]
      exact List.forall₂_map_right_iff.2 (List.forall₂_same.2 fun l _ => hs.sent l.ownerless)
    case onOrder =>
      intro hp
      refine ⟨hs.map_rest (horder hp ▸ Work.added_fresh hsell), ?_⟩
      rw [← (lookupBy_some hc).2]
      refine State.fired_of_firesLines hf hs.index (State.commit_ce _ _) fun l hl => ⟨?_, ?_⟩
      · exact hlines ▸ List.mem_append_right _ hl
      · exact horder hp ▸ List.mem_map_of_mem hl
    case onPay =>
      intro hp hpos
      have hnone : is = [] := (honpay hp).trans (Check.dissolved_released hpos)
      have hkept (xs : List Line) : xs.map f = xs := hs.map_rest (by simp [hnone])
      rw [hkept, hkept]
      exact ⟨rfl, fun l hl => (snapshots_held hsnap l hl).1⟩
    case stock =>
      intro code
      rw [State.commit_ce, hstock]
      exact hitems code
    case sj => rw [State.commit_sj, hsj]
    case tu => rw [State.commit_tu, htu]
    case other => exact fun m hm => by rw [State.commit_ce]; exact hother m hm
  · subst hi
    obtain ⟨-, -, hbalanced, hback, -⟩ := hbal
    have hvoids : s.VoidsLine t content n c l :=
      ⟨hread, hc, hact, hbalanced c (lookupBy_some hc).1, htender, hl, hlive, hdone, hrole⟩
    refine ⟨fun hstate hfull => exec_voidLine_refused hhead hvoids ((Work.voidStart_kitchen hstate).trans hfull),
      fun hstart => ?_⟩
    obtain ⟨w, hw⟩ := Work.voidStart_some hstart
    have hstarted := Work.voidStart_kitchenOnly hw
    obtain ⟨hitems, htu, hend⟩ := Work.voidLine_spec (l := l) ((hstarted.check n).trans hc)
      (by rw [hstarted.backlog]; exact hback)
    have hpolicy : w.stand c.stand = s.ce.stands[c.stand] := by
      rw [Work.stand, hstarted.ce]
      rfl
    have hless : (c.lessLine l.index).total = _ := (Check.lessLine_total l.index c).trans (Check.totalWithout_eq c l)
    rw [hpolicy, hless] at hend
    refine ⟨(s.afterTaking rest).commit (w.voidLine c l), ?exec, ?stock, ?tu, ?closed, ?kitchen, ?stays⟩
    case exec => rw [exec_voidLine_accepted hhead hvoids hw, Check.totalWithout_eq]
    case stock =>
      refine State.stockReturned_one fun m => ?_
      rw [State.commit_ce]
      refine (hitems m).trans ?_
      rw [Work.item?, hstarted.ce]
      rfl
    case tu => rw [State.commit_tu, htu, hstarted.tu]; rfl
    case closed =>
      intro hgone
      rcases hend with ⟨x, hx, hxtotal, hleft, hsj⟩ | ⟨f, is, b, hstays, -⟩
      · exact State.closedCheck_of_record hstarted (by rw [State.commit_ce]) (State.commit_sj _ _) hleft hsj hx hxtotal
      · exact absurd (by rw [State.hasCheck, State.commit_ce]; exact hstays) (hgone _)
    case kitchen =>
      intro v d hstate hv hd hnofire
      rw [Work.voidStart_kitchen hstate, hv] at hw
      obtain rfl : v = w := Option.some.inj hw
      rw [State.hasCheck, State.commit_ce] at hd
      rcases hend with ⟨x, -, -, hleft, -⟩ | ⟨f, is, b, -, -, -, -, hnone, -, hidle⟩
      · exact absurd (lookupBy_some hd).2 (hleft d (lookupBy_some hd).1)
      · rw [State.commit_kr, State.commit_ports]
        exact hidle (hnone hnofire) fun h => by simp [h] at hstate
    case stays =>
      intro d hd
      rw [State.hasCheck, State.commit_ce] at hd
      rcases hend with ⟨x, -, -, hleft, -⟩ | ⟨f, is, b, hstays, hsent, hrest, hnot, hnone, hsj, -⟩
      · exact absurd (lookupBy_some hd).2 (hleft d (lookupBy_some hd).1)
      · obtain rfl := Option.some.inj (hd.symm.trans hstays)
        obtain ⟨hindex, hlines, hothers⟩ := Check.lessLine_sent (c := c) hsent hrest hnot
        refine ⟨by rw [State.commit_sj, hsj, hstarted.sj]; rfl, hless, rfl, ?_, hindex, hlines,
          fun hnofire => hothers (hnone hnofire)⟩
        rw [← hless]
        rfl

end Sys2Proof.Machine
end

section
/-! PROOFS. Slip frames read back, and remote orders offered to the intake (R27, R32, R57, R173). -/
namespace Sys2Proof.Machine

/-! ### A slip frame, written and read back (R27, R173) -/

@[simp] theorem plainChars_append (xs ys : List Byte) : plainChars (xs ++ ys) = plainChars xs ++ plainChars ys :=
  List.map_append

/-- A byte of a body, escaped where it must be, is read back inside a slip frame (R173). -/
theorem readSlipFrame_escaped (b : Byte) (acc : List Byte) (cs : List TillChar) :
    readSlipFrame acc false (plainChars (escapeByte b) ++ cs) = readSlipFrame (b :: acc) false cs := by
  have hv := escaped_values b
  unfold escapeByte
  cases h : isControl b with
  | true =>
    obtain ⟨-, -, hlow, hhigh, hback⟩ := hv.1 h
    have hrange : (decide (0x70 ≤ (b - 0x80).toNat) && decide ((b - 0x80).toNat ≤ 0x7F)) = true := by
      simp only [hlow, hhigh, decide_true, Bool.and_self]
    simp only [if_true, plainChars, List.map_cons, List.map_nil, List.cons_append, List.nil_append, readSlipFrame,
      Bool.or_self, Bool.false_eq_true, if_false, hrange, hback]
  | false =>
    obtain ⟨-, -, hesc, heof⟩ := hv.2 h
    simp [plainChars, readSlipFrame, hesc, heof, h]

/-- A body is read back whole inside a slip frame (R173). -/
theorem readSlipFrame_body (bs acc : List Byte) (cs : List TillChar) :
    readSlipFrame acc false (plainChars (bs.flatMap escapeByte) ++ cs) = readSlipFrame (bs.reverse ++ acc) false cs := by
  induction bs generalizing acc with
  | nil => rfl
  | cons b bs ih =>
    rw [List.flatMap_cons, plainChars_append, List.append_assoc, readSlipFrame_escaped, ih]
    simp

theorem readSlipFrame_eof (acc : List Byte) (cs : List TillChar) :
    readSlipFrame acc false ({ data := chEOF } :: cs) = endOfSlip acc.reverse := by
  have hesc : chEOF ≠ chESC := by decide
  simp [readSlipFrame, hesc]

/-- A whole frame is read as what its bytes make at their EOF (R27, R173). -/
theorem readAnswer_frame (body : List Byte) :
    readAnswer (plainChars (frameBytes body)) = endOfSlip (body ++ [checksum body]) := by
  have hsof : chSOF ≠ chIDLE := by decide
  have hread : readAnswer (plainChars (frameBytes body)) =
      readSlipFrame [] false (plainChars ((body ++ [checksum body]).flatMap escapeByte) ++ [{ data := chEOF }]) := by
    rw [frameBytes, List.cons_append, show ∀ bs, plainChars (chSOF :: bs) = { data := chSOF } :: plainChars bs from
      fun _ => rfl, plainChars_append]
    simp [readAnswer, hsof, plainChars]
  rw [hread, readSlipFrame_body, readSlipFrame_eof, List.append_nil, List.reverse_reverse]

theorem sumBytes_append (xs ys : List Byte) : sumBytes (xs ++ ys) = sumBytes xs + sumBytes ys := by
  induction xs with
  | nil => simp [sumBytes]
  | cons x xs ih =>
    change x + sumBytes (xs ++ ys) = x + sumBytes xs + sumBytes ys
    rw [ih, BitVec.add_assoc]

/-- A body and its checksum sum to 0 (R173). -/
theorem sumBytes_checksum (body : List Byte) : sumBytes (body ++ [checksum body]) = 0 := by
  rw [sumBytes_append]
  simp [sumBytes, checksum]

/-- The bytes of a good frame are kind, content and checksum, the content at most 240 bytes (R27). -/
theorem endOfSlip_good {kind check : Byte} {content : List Byte} (hlen : content.length ≤ 240)
    (hsum : sumBytes (kind :: (content ++ [check])) = 0) :
    endOfSlip (kind :: (content ++ [check])) = .good kind content := by
  obtain ⟨c, rest, hcons⟩ : ∃ c rest, content ++ [check] = c :: rest :=
    List.exists_cons_of_ne_nil (by simp)
  have hshort : ¬ 241 < (c :: rest).length := by
    rw [← hcons]
    simp
    omega
  rw [hcons] at hsum ⊢
  simp only [endOfSlip, hshort, hsum, if_true, if_false]
  rw [← hcons, List.dropLast_concat]

/-- Settles O11. -/
theorem slipFrameReadBack : Obligations.SlipFrameReadBack := by
  intro kind content hlen
  rw [readAnswer_frame]
  exact endOfSlip_good hlen (sumBytes_checksum (kind :: content))

/-! ### A remote order offered to the intake (R32, R33, R57) -/

/-- An envelope of a wanted kind counts for silence supervision, and its content is passed on (R149). -/
theorem State.takeEnvelope_wanted {want : Byte → Bool} {f : List Byte → State → State} {fr : EthFrame} {s : State}
    {k : Byte} {content : List Byte} (hpart : s.upc.part ≠ .starting) (hread : readEnvelope fr = some (k, content))
    (hwant : want k = true) : s.takeEnvelope want f fr = f content s.countEnvelope := by
  simp [State.takeEnvelope, hpart, hread, hwant]

/-- Offered where there is room, a slip joins the tail; the pause state follows the high mark (R32, R33). A slip that
joins can begin a pause and never ends one, so no walk position changes. -/
theorem State.offerSlip_room {x : Slip} {s : State} (h : s.intake.slips.length < 64) :
    s.offerSlip x = some { s with intake := { s.intake with
      slips := s.intake.slips ++ [x],
      paused := s.intake.paused || decide (s.intake.high ≤ s.intake.slips.length + 1) } } := by
  have hends : ¬ (s.intake.paused = true ∧ s.intake.pausedAtJoin (s.intake.slips.length + 1) = false) := by
    rintro ⟨hp, hq⟩
    simp [Intake.pausedAtJoin, hp] at hq
  simp only [State.offerSlip, intakeSize, h, if_true, State.setPaused, hends, if_false]
  rfl

/-- A remote order is offered under the reference in its first four bytes (R57). -/
theorem offerRemote_eq (r1 r2 r3 r4 : Byte) (rest : List Byte) (s : State) :
    offerRemote (r1 :: r2 :: r3 :: r4 :: rest) s =
      (s.offerSlip { source := .remote (natOf [r1, r2, r3, r4]), kind := 0, content := rest }).getD
        (s.raise (.orderResult (natOf [r1, r2, r3, r4]) .busy)) := by
  simp only [offerRemote, cut]
  have hlen : ¬ (r1 :: r2 :: r3 :: r4 :: rest).length < 4 := by simp
  simp only [hlen, if_false, List.take, List.drop]
  cases s.offerSlip { source := .remote (natOf [r1, r2, r3, r4]), kind := 0, content := rest } <;> rfl

theorem exec_remoteOrder {s : State} {fr : EthFrame} {r1 r2 r3 r4 : Byte} {rest : List Byte}
    (hpart : s.upc.part = .running) (hread : readEnvelope fr = some (2, r1 :: r2 :: r3 :: r4 :: rest)) :
    exec (.remoteOrder fr) s = .next (offerRemote (r1 :: r2 :: r3 :: r4 :: rest) s.countEnvelope) := by
  have hrun : s.countEnvelope.running = true := by
    obtain ⟨x, p, q, hcount⟩ := s.countEnvelope_frame
    simp [hcount, State.running, hpart]
  refine congrArg Host.Outcome.next ((State.takeEnvelope_wanted ?_ hread rfl).trans ?_)
  · simp [hpart]
  · rw [hrun]
    rfl

/-- Settles O20. -/
theorem remoteOrdersJoinIntake : Obligations.RemoteOrdersJoinIntake := by
  intro s fr r1 r2 r3 r4 rest hpart hread ref
  rw [exec_remoteOrder hpart hread, offerRemote_eq]
  obtain ⟨x, p, q, hcount⟩ := s.countEnvelope_frame
  have hintake : s.countEnvelope.intake = s.intake := by rw [hcount]
  refine ⟨fun hroom => ?_, fun hfull => ?_⟩
  · rw [State.offerSlip_room (by rwa [hintake])]
    simp only [hcount]
    exact ⟨_, rfl, rfl, rfl, rfl, rfl, rfl, rfl, rfl, rfl, rfl, rfl, rfl⟩
  · rw [(State.offerSlip_none _ _).2 (by rw [hintake]; exact hfull)]
    rfl

end Sys2Proof.Machine
end

section
/-! PROOFS. The till lines as the host sets them, and the marks of the intake (R21 to R23, R33, R35). -/
namespace Sys2Proof.Machine

/-! ### LOAD LINE (R21) -/

theorem exec_loadLine {s : State} {tag line enabled rate window turn : Nat}
    (h : s.nextBlock = some (tag, .loadLine line enabled rate window turn)) :
    exec .loadLine s = .next ((loadLine line enabled rate window turn s).2.finishBlock
      (loadLine line enabled rate window turn s).1) :=
  congrArg Host.Outcome.next (State.block_runs _ s tag _ _ h rfl)

theorem loadLine_valid {l : LineId} {on : Bool} {rate window turn : Nat}
    (hrate : rate = 38400 ∨ rate = 115200 ∨ rate = 230400) (hlow : 2 ≤ window) (hhigh : window ≤ 50)
    (hturn : turn ≤ 15) (s : State) :
    loadLine l.val (flagByte on) rate window turn s =
      ({ result := .ok }, s.onLine l (TillLine.load on rate window turn)) := by
  have hr : ¬ rate ∉ [38400, 115200, 230400] := by rcases hrate with rfl | rfl | rfl <;> simp
  have hw : ¬ (window < 2 ∨ 50 < window) := by omega
  have ht : ¬ 15 < turn := by omega
  simp only [loadLine, lineOf_val, flagOf_byte, hr, hw, ht, if_false]

/-- What every loading of a line sets and leaves, its ring and its tills apart (R21). -/
theorem TillLine.load_settings (on : Bool) (rate window turn : Nat) (l : TillLine) :
    (l.load on rate window turn).enabled = on ∧ (l.load on rate window turn).rate = rate ∧
      (l.load on rate window turn).window = window ∧ (l.load on rate window turn).turn = turn ∧
      (l.load on rate window turn).call = l.call ∧ (l.load on rate window turn).driver = l.driver := by
  unfold TillLine.load
  simp only
  split
  · exact ⟨rfl, rfl, rfl, rfl, rfl, rfl⟩
  · split <;> exact ⟨rfl, rfl, rfl, rfl, rfl, rfl⟩

/-- A line that becomes enabled begins with no ring position (R21). -/
theorem TillLine.load_enables {rate window turn : Nat} {l : TillLine} (h : l.enabled = false) :
    l.load true rate window turn = { l with
      enabled := true, rate := rate, window := window, turn := turn, ringPos := none, roundPos := none, round := 0,
      walkPos := none } := by
  simp [TillLine.load, h]

theorem TillLine.load_same {rate window turn : Nat} {l : TillLine} :
    l.load l.enabled rate window turn = { l with rate := rate, window := window, turn := turn } := by
  cases h : l.enabled <;> simp [TillLine.load, h]

/-- A line that is disabled calms its tills at once (R21; log 28). -/
theorem TillLine.load_disables {rate window turn : Nat} {l : TillLine} (h : l.enabled = true) :
    l.load false rate window turn =
      TillLine.calm { l with enabled := false, rate := rate, window := window, turn := turn } := by
  simp [TillLine.load, h]

theorem TillLine.calm_till (l : TillLine) (d : DropId) :
    l.calm.tills[d] = { l.tills[d] with present := true, misses := 0 } := by
  simp [TillLine.calm]

/-! ### LOAD TILL (R22, R23) -/

theorem exec_loadTill {s : State} {tag : Nat} {os : List TillOperand} (h : s.nextBlock = some (tag, .loadTill os)) :
    exec .loadTill s = .next ((loadTill os s).2.finishBlock (loadTill os s).1) :=
  congrArg Host.Outcome.next (State.block_runs _ s tag _ _ h rfl)

@[simp] theorem tillOf_val (t : TillId) : tillOf t.val = some t := by
  simp [tillOf]

@[simp] theorem roleOf_code (r : Role) : roleOf r.code = some r := by
  cases r <;> rfl

/-- A Till Table entry applied to the till that it names (R23). -/
def TillEntry.apply (s : State) (e : TillEntry) : State :=
  s.onLine (tillLine e.till) (TillLine.onTill (tillDrop e.till) (Till.load e.enabled e.stand e.role))

/-- Entries as the host writes them are all applied, in list order (R22). -/
theorem loadTillFrom_entries (es : List TillEntry) (applied : Nat) (s : State) :
    loadTillFrom applied (es.map TillEntry.operand) s =
      ({ result := .ok, operands := [.count (applied + es.length), .index none] }, es.foldl TillEntry.apply s) := by
  induction es generalizing applied s with
  | nil => rfl
  | cons e es ih =>
    simp only [List.map_cons, loadTillFrom, TillEntry.operand, tillOf_val, flagOf_byte, standOf_val, roleOf_code]
    refine (ih (applied + 1) (TillEntry.apply s e)).trans ?_
    simp only [List.length_cons, List.foldl_cons, Nat.add_assoc, Nat.add_comm 1]

theorem exec_loadTill_entries {s : State} {tag : Nat} {es : List TillEntry} (hne : es ≠ []) (hlen : es.length ≤ 64)
    (h : s.nextBlock = some (tag, .loadTill (es.map TillEntry.operand))) :
    exec .loadTill s = .next (State.finishBlock { result := .ok, operands := [.count es.length, .index none] }
      (es.foldl TillEntry.apply s)) := by
  have hok : ¬ (es.map TillEntry.operand = [] ∨ 64 < (es.map TillEntry.operand).length) := by
    simp [hne, hlen]
  rw [exec_loadTill h, loadTill, if_neg hok, loadTillFrom_entries, Nat.zero_add]

/-- A till index is its line and its drop (00, Conventions). -/
theorem till_ext {t u : TillId} (hline : tillLine t = tillLine u) (hdrop : tillDrop t = tillDrop u) : t = u := by
  have h1 := congrArg Fin.val hline
  have h2 := congrArg Fin.val hdrop
  simp only [tillLine, tillDrop] at h1 h2
  exact Fin.ext (by omega)

/-- Changing one till by its index changes that till. -/
theorem State.till_onTill_self (s : State) (t : TillId) (f : Till → Till) :
    (s.onLine (tillLine t) (TillLine.onTill (tillDrop t) f)).till t = f (s.till t) := by
  simp only [State.till, State.onLine_lines, modify_self, TillLine.onTill_tills]

/-- Changing one till by its index changes no other. -/
theorem State.till_onTill_other {t u : TillId} (h : u ≠ t) (s : State) (f : Till → Till) :
    (s.onLine (tillLine t) (TillLine.onTill (tillDrop t) f)).till u = s.till u := by
  by_cases hl : tillLine u = tillLine t
  · have hd : tillDrop u ≠ tillDrop t := fun hd => h (till_ext hl hd)
    simp only [State.till, State.onLine_lines, hl, modify_self, TillLine.onTill_tills]
    exact modify_other _ _ _ _ hd
  · exact congrArg (fun l : TillLine => l.tills[tillDrop u]) (modify_other _ _ _ _ hl)

/-! ### SET INTAKE MARKS (R33, R35) -/

theorem exec_setIntakeMarks {s : State} {tag high low : Nat} (h : s.nextBlock = some (tag, .setIntakeMarks high low)) :
    exec .setIntakeMarks s = .next ((setIntakeMarks high low s).2.finishBlock (setIntakeMarks high low s).1) :=
  congrArg Host.Outcome.next (State.block_runs _ s tag _ _ h rfl)

/-- New marks, the pause state not yet decided anew (R35). -/
def State.withMarks (high low : Nat) (s : State) : State :=
  { s with intake := { s.intake with high := high, low := low } }

theorem setIntakeMarks_valid {high low : Nat} (h8 : 8 ≤ high) (h56 : high ≤ 56) (hlow : low < high) (s : State) :
    setIntakeMarks high low s = ({ result := .ok, operands := [.flag (s.withMarks high low).intake.pausedAtMarks] },
      (s.withMarks high low).setPaused (s.withMarks high low).intake.pausedAtMarks) := by
  have hh : ¬ (high < 8 ∨ 56 < high) := by omega
  have hl : ¬ high ≤ low := by omega
  simp only [setIntakeMarks, hh, hl, if_false]
  refine Prod.ext ?_ rfl
  exact congrArg (fun p => ({ result := .ok, operands := [.flag p] } : BlockReply)) (State.setPaused_paused _ _)

/-- Setting the pause state sets it, and clears walk positions at most (R33, R34). -/
theorem State.setPaused_eq (b : Bool) (s : State) :
    s.setPaused b = { s with intake := { s.intake with paused := b }, lines := (s.setPaused b).lines } := by
  unfold State.setPaused
  split <;> rfl

theorem State.setPaused_line (b : Bool) (s : State) (l : LineId) :
    (s.setPaused b).lines[l] = { s.lines[l] with walkPos := (s.setPaused b).lines[l].walkPos } := by
  unfold State.setPaused
  split
  · simp
  · rfl

/-- Settles O30. -/
theorem tillSettingsApply : Obligations.TillSettingsApply := by
  refine ⟨⟨?line, ?till, ?tills⟩, ?marks⟩
  case line =>
    intro s tag l on rate window turn hrate hlow hhigh hturn hnext
    obtain ⟨h1, h2, h3, h4, h5, -⟩ := TillLine.load_settings on rate window turn s.lines[l]
    refine ⟨s.lines[l].load on rate window turn, ?_, h1, h2, h3, h4, h5, ?_, ?_, ?_⟩
    · rw [exec_loadLine hnext, loadLine_valid hrate hlow hhigh hturn]
      rfl
    · rintro rfl hoff
      rw [TillLine.load_enables hoff]
      exact ⟨rfl, rfl, rfl, rfl⟩
    · rintro rfl
      rw [TillLine.load_same]
      exact ⟨rfl, rfl, rfl, rfl⟩
    · rintro rfl hon d
      rw [TillLine.load_disables hon, TillLine.calm_till]
  case till =>
    intro s tag e hnext old
    have hself : (TillEntry.apply s e).till e.till = old.load e.enabled e.stand e.role := State.till_onTill_self _ _ _
    refine ⟨TillEntry.apply s e, exec_loadTill_entries (es := [e]) (by simp) (by simp) hnext, rfl,
      fun x hx => State.till_onTill_other hx _ _, fun hsame => ?_, fun hon hoff => ?_, fun hoff hon => ?_⟩
    · rw [hself, Till.load, if_pos hsame, hsame]
    · rw [hself, Till.load, if_neg (by simp [hon, hoff]), if_pos hon, hon]
    · rw [hself, Till.load, if_neg (by simp [hon, hoff]), if_neg (by simp [hoff]), hoff]
  case tills =>
    intro s tag es hne hlen hnext
    exact exec_loadTill_entries hne hlen hnext
  case marks =>
    intro s tag high low h8 h56 hlow hnext len
    refine ⟨(s.withMarks high low).setPaused (s.withMarks high low).intake.pausedAtMarks,
      (s.withMarks high low).intake.pausedAtMarks, ?_, ?_, fun hp => ?_, fun hp => ?_, ?_,
      fun l => State.setPaused_line _ _ l⟩
    · rw [exec_setIntakeMarks hnext, setIntakeMarks_valid h8 h56 hlow]
    · rw [State.setPaused_eq]
      rfl
    · simp [Intake.pausedAtMarks, State.withMarks, hp, len]
    · simp [Intake.pausedAtMarks, State.withMarks, hp, len]
    · rw [State.setPaused_eq]
      rfl

end Sys2Proof.Machine
end

section
/-! PROOFS. Calls on the till lines: the call ring, the walk of deliver calls, and the line driver (R25, R26, R30, R34,
R36). -/
namespace Sys2Proof.Machine

/-! ### The first of a list in an order of its own -/

/-- In a list whose keys rise, the search finds the element with the least key. -/
theorem find?_least {α : Type} {key : α → Nat} {p : α → Bool} {l : List α} {x : α}
    (hrise : l.Pairwise fun a b => key a < key b) (hx : x ∈ l) (hp : p x = true)
    (hleast : ∀ y ∈ l, p y = true → key x ≤ key y) : l.find? p = some x := by
  induction l with
  | nil => cases hx
  | cons y ys ih =>
    obtain ⟨hy, hys⟩ := List.pairwise_cons.1 hrise
    cases hpy : p y with
    | true =>
      rcases List.mem_cons.1 hx with rfl | hmem
      · exact List.find?_cons_of_pos hp
      · have h1 := hy x hmem
        have h2 := hleast y List.mem_cons_self hpy
        omega
    | false =>
      rw [List.find?_cons_of_neg (by simp [hpy])]
      refine ih hys ?_ fun z hz => hleast z (List.mem_cons_of_mem _ hz)
      rcases List.mem_cons.1 hx with rfl | hmem
      · rw [hp] at hpy
        cases hpy
      · exact hmem

theorem mem_allDrops (d : DropId) : d ∈ allDrops := by
  revert d
  decide

theorem allDrops_rise : allDrops.Pairwise fun a b => a.val < b.val := by
  decide

/-! ### Fixed collections -/

theorem modify_eq_set {α : Type} {n : Nat} (v : Vector α n) (i : Fin n) (f : α → α) : modify v i f = v.set i (f v[i]) :=
  rfl

theorem set_get_self {α : Type} {n : Nat} (v : Vector α n) (i : Fin n) : v.set i v[i] = v := by
  simp

/-- Several changes of one element are one change. -/
theorem modify_comp {α : Type} {n : Nat} (v : Vector α n) (i : Fin n) (f g : α → α) :
    modify (modify v i f) i g = modify v i fun x => g (f x) :=
  modify_modify v i f g

/-! ### The call ring (R25) -/

theorem TillLine.isDue_iff {l : TillLine} {d : DropId} :
    l.isDue d = true ↔ l.tills[d].enabled = true ∧ (l.tills[d].present = true ∨ l.round = 0) := by
  simp [TillLine.isDue, TillLine.inRing]

/-- The next due till is the first one after the drop called last in the round (R25). -/
theorem TillLine.nextDue_some {l : TillLine} {d : DropId} (hdue : l.isDue d = true)
    (hafter : ∀ p, l.roundPos = some p → p < d)
    (hfirst : ∀ d', l.isDue d' = true → (∀ p, l.roundPos = some p → p < d') → d ≤ d') : l.nextDue = some d := by
  have hpos (d' : DropId) : (l.roundPos.all fun p => decide (p < d')) = true ↔ ∀ p, l.roundPos = some p → p < d' := by
    cases l.roundPos <;> simp
  refine find?_least (key := Fin.val) allDrops_rise (mem_allDrops d) ?_ fun d' _ hd' => ?_
  · exact Bool.and_eq_true_iff.2 ⟨hdue, (hpos d).2 hafter⟩
  · obtain ⟨h1, h2⟩ := Bool.and_eq_true_iff.1 hd'
    exact hfirst d' h1 ((hpos d').1 h2)

theorem TillLine.nextDue_none {l : TillLine}
    (h : ∀ d, l.isDue d = true → ∃ p, l.roundPos = some p ∧ d ≤ p) : l.nextDue = none := by
  refine List.find?_eq_none.2 fun d _ hd => ?_
  obtain ⟨hdue, hpos⟩ := Bool.and_eq_true_iff.1 hd
  obtain ⟨p, hp, hle⟩ := h d hdue
  have hlt : p < d := by simpa [hp] using hpos
  exact absurd hlt (not_lt.2 hle)

/-- A round with a till still to call goes on (R25). -/
theorem TillLine.closeRound_due {l : TillLine} {d : DropId} (h : l.nextDue = some d) : l.closeRound = l := by
  simp [TillLine.closeRound, h]

/-- A round in which no call has been made does not end here (R25). -/
theorem TillLine.closeRound_fresh {l : TillLine} (h : l.roundPos = none) : l.closeRound = l := by
  simp [TillLine.closeRound, h]

/-- An empty ring does not advance (R25). -/
theorem TillLine.closeRound_empty {l : TillLine} (h : allDrops.any l.inRing = false) : l.closeRound = l := by
  simp [TillLine.closeRound, h]

/-- A round whose last due till has been called ends (R25). -/
theorem TillLine.closeRound_ends {l : TillLine} {p : DropId} (hp : l.roundPos = some p) (hnone : l.nextDue = none)
    (hring : allDrops.any l.inRing = true) : l.closeRound = l.nextRound := by
  simp [TillLine.closeRound, hp, hnone, hring]

/-- The round count advances, from 15 to 0 (R25). -/
theorem TillLine.nextRound_eq (l : TillLine) :
    l.nextRound = { l with round := if l.round < 15 then l.round + 1 else 0, roundPos := none } := by
  unfold TillLine.nextRound
  congr 1
  split <;> split <;> omega

/-- The end of a round changes the round count and the place in the round at most (R25). -/
theorem TillLine.closeRound_frame (l : TillLine) : ∃ r p, l.closeRound = { l with round := r, roundPos := p } := by
  unfold TillLine.closeRound
  split
  · exact ⟨_, _, rfl⟩
  · exact ⟨l.round, l.roundPos, rfl⟩

/-! ### The line driver (R26, R34) -/

/-- What a talk changes in all, when what is said changes its own line and the log at most (R26; log 50). -/
theorem State.talk_eq {l : LineId} {wait turn : Nat} {say : State → State} {s : State} {f : TillLine → TillLine}
    {os : List Output}
    (hsay : say (s.drive l true wait) = { s with
      lines := modify s.lines l f, out := s.out ++ .driver l true wait :: os }) :
    s.talk l wait turn say = { s with
      lines := modify s.lines l fun t => { f t with driver := false }
      out := s.out ++ .driver l true wait :: (os ++ [.driver l false turn]) } := by
  rw [State.talk, hsay]
  simp only [State.drive, State.onLine, State.send, modify_comp, List.append_assoc, List.cons_append]

/-- The oldest notice of a till leaves its queue with the LOST mark (R30, R36). -/
def Till.hear (t : Till) : Till := { t with notices := t.notices.tail, lost := t.lost && t.notices.isEmpty }

theorem Till.hear_nil {t : Till} (h : t.notices = []) : t.hear = t := by
  cases t
  simp_all [Till.hear]

theorem TillLine.onTill_hear_nil {l : TillLine} {d : DropId} (h : l.tills[d].notices = []) :
    l.onTill d Till.hear = l := by
  rw [TillLine.onTill, modify_eq_set, Till.hear_nil h, set_get_self]

/-- A till with no notice is sent nothing; another is sent its oldest (R30, R36). -/
theorem State.deliver_eq (l : LineId) (d : DropId) (s : State) :
    s.deliver l d = { s with
      lines := modify s.lines l fun t => t.onTill d Till.hear
      out := s.out ++ (s.lines[l].tills[d].notices.head?.map fun n =>
        Output.till l (n.frame s.lines[l].tills[d].lost)).toList } := by
  unfold State.deliver
  split
  · rename_i h
    rw [h, modify_eq_set, TillLine.onTill_hear_nil h, set_get_self]
    simp
  · rename_i n rest h
    rw [h]
    simp only [State.onLine, State.send, List.head?_cons, Option.map_some, Option.toList_some, modify_eq_set,
      TillLine.onTill, Till.hear, h, List.tail_cons, List.isEmpty_cons, Bool.and_false]

/-! ### SLIP_CALL and EMPTY_ROUND (R25, R26) -/

theorem State.lineFree_of {s : State} {l : LineId} (hpart : s.upc.part = .running) (hon : s.lines[l].enabled = true)
    (hcall : s.lines[l].call = none) : s.lineFree l = true := by
  simp only [State.lineFree, State.running, hpart, hon, hcall, Option.isNone_none, decide_true, Bool.and_self]

/-- The till that the round names is called, with the driver taken, held and released (R26). -/
theorem exec_slipCall_calls {s : State} {l : LineId} {t : TillLine} {d : DropId} (hfree : s.lineFree l = true)
    (hpause : s.intake.paused = false) (hround : s.lines[l].closeRound = t) (hdue : t.nextDue = some d) :
    exec (.slipCall l) s = .next { s with
      lines := s.lines.set l { t.beginCall d with driver := false }
      out := s.out ++ [.driver l true 0, .till l [slipCallChar d], .driver l false t.turn] } := by
  have hexec : exec (.slipCall l) s =
      .next ((s.onLine l fun _ => t.beginCall d).talk l 0 t.turn fun s => s.send (.till l [slipCallChar d])) := by
    simp only [exec, execSlipCall, hfree, hpause, and_self, if_true, hround, hdue]
  rw [hexec, State.talk_eq (f := fun x => { x with driver := true }) (os := [.till l [slipCallChar d]])]
  · simp only [State.onLine, modify_comp]
    rfl
  · simp only [State.drive, State.send, State.onLine, modify_comp, List.append_assoc, List.cons_append, List.nil_append]

theorem exec_slipCall_none {s : State} {l : LineId} (hround : s.lines[l].closeRound = s.lines[l])
    (hdue : s.lines[l].nextDue = none) : exec (.slipCall l) s = .next s := by
  simp only [exec, execSlipCall, hround, hdue, ite_self]

theorem exec_emptyRound_none {s : State} {l : LineId} (hring : allDrops.any s.lines[l].inRing = false) :
    exec (.emptyRound l) s = .next s := by
  simp only [exec, execEmptyRound, TillLine.closeRound_empty hring, hring, Bool.false_eq_true, and_false, if_false,
    ite_self]

theorem exec_emptyRound_advances {s : State} {l : LineId} (hfree : s.lineFree l = true)
    (hpause : s.intake.paused = false) (hpos : s.lines[l].roundPos = none) (hdue : s.lines[l].nextDue = none)
    (hring : allDrops.any s.lines[l].inRing = true) :
    exec (.emptyRound l) s = .next { s with lines := s.lines.set l s.lines[l].nextRound } := by
  simp only [exec, execEmptyRound, hfree, hpause, TillLine.closeRound_fresh hpos, hpos, hdue, hring, and_self, if_true]
  rfl

/-! ### DELIVER_CALL (R34) -/

/-- How far a drop lies behind the one that a walk starts after (R34). -/
def walkKey (p : Option DropId) (d : DropId) : Nat := (d.val + 15 - (p.map Fin.val).getD 15) % 16

/-- A walk meets every drop, in the order of their distance (R34). -/
theorem walkFrom_rise (p : Option DropId) :
    (walkFrom p).Pairwise (fun a b => walkKey p a < walkKey p b) ∧ ∀ d, d ∈ walkFrom p := by
  cases p with
  | none => decide
  | some p =>
    revert p
    decide

theorem TillLine.nextWalk_some {l : TillLine} {d : DropId} (hon : l.tills[d].enabled = true)
    (hwait : l.tills[d].notices ≠ [])
    (hfirst : ∀ d' : DropId, l.tills[d'].enabled = true → l.tills[d'].notices ≠ [] →
      walkKey (l.walkPos.or l.ringPos) d ≤ walkKey (l.walkPos.or l.ringPos) d') : l.nextWalk = some d := by
  obtain ⟨hrise, hall⟩ := walkFrom_rise (l.walkPos.or l.ringPos)
  have hwaits (d' : DropId) : (l.inRing d' && !l.tills[d'].notices.isEmpty) = true ↔
      l.tills[d'].enabled = true ∧ l.tills[d'].notices ≠ [] := by
    simp [TillLine.inRing]
  refine find?_least hrise (hall d) ((hwaits d).2 ⟨hon, hwait⟩) fun d' _ hd' => ?_
  obtain ⟨h1, h2⟩ := (hwaits d').1 hd'
  exact hfirst d' h1 h2

theorem TillLine.nextWalk_none {l : TillLine} (h : ∀ d : DropId, ¬ (l.tills[d].enabled = true ∧ l.tills[d].notices ≠ [])) :
    l.nextWalk = none := by
  refine List.find?_eq_none.2 fun d _ hd => h d ?_
  simpa [TillLine.inRing] using hd

/-- The till that the walk names is called and sent its oldest notice (R34; log 50). -/
theorem exec_deliverCall_sends {s : State} {l : LineId} {d : DropId} {n : Notice} {more : List Notice}
    (hfree : s.lineFree l = true) (hpause : s.intake.paused = true) (hwalk : s.lines[l].nextWalk = some d)
    (hn : s.lines[l].tills[d].notices = n :: more) :
    exec (.deliverCall l) s = .next { s with
      lines := s.lines.set l { s.lines[l] with
        driver := false, walkPos := some d,
        tills := s.lines[l].tills.set d { s.lines[l].tills[d] with notices := more, lost := false } }
      out := s.out ++ [.driver l true 0, .till l [deliverCallChar d], .driver l true s.lines[l].turn,
        .till l (n.frame s.lines[l].tills[d].lost), .driver l false s.lines[l].turn] } := by
  have hexec : exec (.deliverCall l) s =
      .next ((s.onLine l fun t => { t with walkPos := some d }).talk l 0 s.lines[l].turn fun x =>
        ((x.send (.till l [deliverCallChar d])).drive l true s.lines[l].turn).deliver l d) := by
    simp only [exec, execDeliverCall, hfree, hpause, and_self, if_true, hwalk]
  rw [hexec, State.talk_eq (f := fun t => TillLine.onTill d Till.hear { t with driver := true })
    (os := [.till l [deliverCallChar d], .driver l true s.lines[l].turn,
      .till l (n.frame s.lines[l].tills[d].lost)])]
  · simp only [State.onLine, modify_comp]
    simp only [modify_eq_set, TillLine.onTill, Till.hear, hn, List.tail_cons, List.isEmpty_cons, Bool.and_false,
      List.cons_append, List.nil_append]
  · simp only [State.deliver_eq, State.drive, State.send, State.onLine, modify_comp, modify_self, hn, List.head?_cons,
      Option.map_some, Option.toList_some, List.append_assoc, List.cons_append, List.nil_append]

theorem exec_deliverCall_none {s : State} {l : LineId} (h : s.lines[l].nextWalk = none) :
    exec (.deliverCall l) s = .next s := by
  simp only [exec, execDeliverCall, h, ite_self]

/-! ### The calls that the ring and the walk name -/

/-- Settles O52. -/
theorem callsFollowTheRing : Obligations.CallsFollowTheRing := by
  refine ⟨?ring, ?walk⟩
  case ring =>
    intro s l hpart hon hcall hpause t due next called
    have hfree := State.lineFree_of hpart hon hcall
    have hdue (d : DropId) : t.isDue d = true ↔ due t.round d := TillLine.isDue_iff
    have hnext : t.nextRound = { t with round := next t.round, roundPos := none } := t.nextRound_eq
    have hdue' (d : DropId) : t.nextRound.isDue d = true ↔ due (next t.round) d := by
      rw [hnext]
      exact TillLine.isDue_iff
    refine ⟨fun d hd hafter hfirst => ?_, fun p d hp hlast hd hfirst => ?_, fun hpos hnone hsome => ?_, fun hoff => ?_⟩
    · have hnd : t.nextDue = some d :=
        TillLine.nextDue_some ((hdue d).2 hd) hafter fun d' h => hfirst d' ((hdue d').1 h)
      exact exec_slipCall_calls hfree hpause (TillLine.closeRound_due hnd) hnd
    · have hnone : t.nextDue = none := TillLine.nextDue_none fun d' h => ⟨p, hp, hlast d' ((hdue d').1 h)⟩
      have hring : allDrops.any t.inRing = true := List.any_eq_true.2 ⟨d, mem_allDrops d, hd.1⟩
      have hnd : t.nextRound.nextDue = some d :=
        TillLine.nextDue_some ((hdue' d).2 hd) (by simp [hnext]) fun d' h _ => hfirst d' ((hdue' d').1 h)
      have hclose := TillLine.closeRound_ends hp hnone hring
      refine (exec_slipCall_calls hfree hpause hclose hnd).trans ?_
      rw [hnext]
      rfl
    · obtain ⟨d, hd⟩ := hsome
      have hring : allDrops.any t.inRing = true := List.any_eq_true.2 ⟨d, mem_allDrops d, hd⟩
      have hnd : t.nextDue = none := TillLine.nextDue_none fun d' h => absurd ((hdue d').1 h) (hnone d')
      refine ⟨(exec_emptyRound_advances hfree hpause hpos hnd hring).trans ?_,
        exec_slipCall_none (TillLine.closeRound_fresh hpos) hnd⟩
      exact congrArg (fun x => Host.Outcome.next { s with lines := s.lines.set l x }) hnext
    · have hring : allDrops.any t.inRing = false := List.any_eq_false.2 fun d _ =>
        Bool.eq_false_iff.1 (hoff d)
      refine ⟨exec_emptyRound_none hring, exec_slipCall_none (TillLine.closeRound_empty hring) ?_⟩
      exact TillLine.nextDue_none fun d h => absurd ((hdue d).1 h).1 (Bool.eq_false_iff.1 (hoff d))
  case walk =>
    intro s l hpart hon hcall hpause t from_ far waits
    have hfree := State.lineFree_of hpart hon hcall
    have hfar (d : DropId) : walkKey (t.walkPos.or t.ringPos) d = far d := by
      have : ((t.walkPos.or t.ringPos).map Fin.val).getD 15 = from_ := by
        cases hw : t.walkPos <;> cases hr : t.ringPos <;> simp [from_, hw, hr]
      rw [walkKey, this]
    refine ⟨fun d n more hd hn hfirst => ?_, fun hnone => ?_⟩
    · have hwalk : t.nextWalk = some d :=
        TillLine.nextWalk_some hd.1 hd.2 fun d' h1 h2 => by rw [hfar, hfar]; exact hfirst d' ⟨h1, h2⟩
      exact exec_deliverCall_sends hfree hpause hwalk hn
    · exact exec_deliverCall_none (TillLine.nextWalk_none hnone)

end Sys2Proof.Machine
end

section
/-! PROOFS. Answers on the till lines: presence, the slip offered, the answer character and the notice behind it (R27 to
R33, R36). -/
namespace Sys2Proof.Machine

/-! ### Presence (R31) -/

/-- Handing over an envelope reads nothing of the till lines. -/
theorem State.handOver_onLine (b : OutBody) (l : LineId) (f : TillLine → TillLine) (s : State) :
    (s.onLine l f).handOver b = (s.handOver b).onLine l f := by
  by_cases h : s.upc.linkUp = true ∧ s.upc.sendQueue.length < sendQueueSize
  · rw [show s.handOver b = _ from if_pos h]
    exact if_pos h
  · rw [show s.handOver b = s from if_neg h]
    exact if_neg h

theorem State.raise_onLine (e : Event) (l : LineId) (f : TillLine → TillLine) (s : State) :
    (s.onLine l f).raise e = (s.raise e).onLine l f := by
  by_cases h : s.upc.enabled e = true
  · rw [show s.raise e = s.handOver (.event s.clock e) from if_pos h, ← State.handOver_onLine]
    exact if_pos h
  · rw [show s.raise e = s from if_neg h]
    exact if_neg h

/-- An event raised and a line changed: the event reaches the uplink, the change the line. -/
theorem State.raise_onLine_eq (e : Event) (l : LineId) (f : TillLine → TillLine) (s : State) :
    (s.onLine l f).raise e = { s with lines := modify s.lines l f, upc := (s.raise e).upc } := by
  rw [State.raise_onLine]
  obtain ⟨q, h⟩ := State.raise_frame e s
  rw [h]
  rfl

/-- A till that has answered: PRESENT, with miss count 0 (R31). -/
def Till.heard (t : Till) : Till := { t with present := true, misses := 0 }

/-- Any answer makes its till PRESENT with miss count 0; TILL_PRESENT is raised for one that was ABSENT (R31). -/
theorem State.answered_eq (l : LineId) (d : DropId) (s : State) :
    s.answered l d = { s with
      lines := modify s.lines l (TillLine.onTill d Till.heard)
      upc := if s.lines[l].tills[d].present then s.upc else (s.raise (.tillPresent (tillIndex l d))).upc } := by
  unfold State.answered
  split
  · rfl
  · exact State.raise_onLine_eq _ l _ s

/-! ### The end of a call (R21, R25, R26, R30) -/

/-- The call of an enabled line ends, and with it the round perhaps (R25). -/
theorem State.endCall_eq {l : LineId} {s : State} (hon : s.lines[l].enabled = true) :
    ∃ r p, s.endCall l = { s with
      lines := modify s.lines l fun t => { t with call := none, round := r, roundPos := p } } := by
  let t : TillLine := { s.lines[l] with call := none }
  obtain ⟨r, p, hround⟩ := t.closeRound_frame
  have hcalm : (if t.enabled then t else t.calm) = t := if_pos hon
  have hend : s.endCall l = { s with lines := s.lines.set l (if s.intake.paused then t else t.closeRound) } :=
    congrArg (fun x : TillLine => { s with lines := s.lines.set l (if s.intake.paused then x else x.closeRound) }) hcalm
  rw [hend, hround]
  cases s.intake.paused with
  | true => exact ⟨s.lines[l].round, s.lines[l].roundPos, rfl⟩
  | false => exact ⟨r, p, rfl⟩

/-- The answer character and then the oldest notice, as the end of a slip call says them (R30). -/
def State.sayAnswer (l : LineId) (d : DropId) (chars : List Byte) (s : State) : State :=
  (if chars = [] then s else s.send (.till l (plainChars chars))).deliver l d

/-- What the end of a slip call puts on the line between taking the driver and releasing it (R30). -/
def Till.told (l : LineId) (chars : List Byte) (t : Till) : List Output :=
  (if chars = [] then [] else [.till l (plainChars chars)]) ++
    (t.notices.head?.map fun n => .till l (n.frame t.lost)).toList

theorem State.sayAnswer_eq (l : LineId) (d : DropId) (chars : List Byte) (s : State) :
    s.sayAnswer l d chars = { s with
      lines := modify s.lines l (TillLine.onTill d Till.hear), out := s.out ++ s.lines[l].tills[d].told l chars } := by
  rw [State.sayAnswer, Till.told]
  split
  · exact State.deliver_eq l d s
  · rw [State.deliver_eq]
    simp only [State.send, List.append_assoc]

/-- What the end of a slip call sends: the driver is taken before and released after; nothing where there is nothing to
say (R26; log 50). -/
def Call.said (l : LineId) (c : Call) (chars : List Byte) (t : Till) : List Output :=
  if chars = [] ∧ t.notices = [] then [] else .driver l true c.turn :: (t.told l chars ++ [.driver l false c.turn])

/-- What the talk at the end of a slip call changes in all (R26, R30). -/
theorem State.talk_sayAnswer {l : LineId} {c : Call} {chars : List Byte} {s : State} {t : Till}
    (ht : s.lines[l].tills[c.drop] = t) :
    s.talk l c.turn c.turn (State.sayAnswer l c.drop chars) = { s with
      lines := modify s.lines l fun x => { x.onTill c.drop Till.hear with driver := false }
      out := s.out ++ .driver l true c.turn :: (t.told l chars ++ [.driver l false c.turn]) } := by
  refine State.talk_eq (f := fun x => TillLine.onTill c.drop Till.hear { x with driver := true }) ?_
  rw [State.sayAnswer_eq]
  simp only [State.drive, State.send, State.onLine, modify_comp, modify_self, ht, List.append_assoc, List.cons_append,
    List.nil_append]

/-- What the end of a slip call leaves of an enabled line: no call, the notice gone that was sent, the driver released
where something was sent (R26, R30, R36). -/
theorem State.closeCall_eq {l : LineId} {c : Call} {chars : List Byte} {s : State} {t : Till}
    (hon : s.lines[l].enabled = true) (ht : s.lines[l].tills[c.drop] = t) :
    ∃ r p, s.closeCall l c chars = { s with
      lines := modify s.lines l fun x => { x.onTill c.drop Till.hear with
        driver := x.driver && decide (chars = []) && t.notices.isEmpty, call := none, round := r, roundPos := p }
      out := s.out ++ c.said l chars t } := by
  by_cases hquiet : chars = [] ∧ t.notices = []
  · obtain ⟨r, p, hend⟩ := State.endCall_eq hon
    refine ⟨r, p, ?_⟩
    have hclose : s.closeCall l c chars = s.endCall l := by
      simp only [State.closeCall, ht, if_pos hquiet]
    have hhear : s.lines[l].onTill c.drop Till.hear = s.lines[l] :=
      TillLine.onTill_hear_nil (by rw [ht]; exact hquiet.2)
    rw [hclose, hend, Call.said, if_pos hquiet, List.append_nil]
    simp only [modify_eq_set, hhear, hquiet.1, hquiet.2, decide_true, List.isEmpty_nil, Bool.and_true]
  · have htalk := State.talk_sayAnswer (chars := chars) ht
    obtain ⟨r, p, hend⟩ := State.endCall_eq (l := l) (s := s.talk l c.turn c.turn (State.sayAnswer l c.drop chars)) (by
      rw [htalk]
      simpa only [modify_self, TillLine.onTill_enabled] using hon)
    refine ⟨r, p, ?_⟩
    have hclose : s.closeCall l c chars =
        (s.talk l c.turn c.turn (State.sayAnswer l c.drop chars)).endCall l :=
      congrArg (State.endCall l) (if_neg (by rw [ht]; exact hquiet))
    have hdriver : (decide (chars = []) && t.notices.isEmpty) = false := by
      simpa using hquiet
    rw [hclose, hend, htalk, Call.said, if_neg hquiet]
    simp only [modify_comp, Bool.and_assoc, hdriver, Bool.and_false]

/-! ### The answers (R27 to R31) -/

theorem exec_idle {s : State} {l : LineId} {c : Call} (hcall : s.lines[l].call = some c) (hc : c.malformed = false) :
    exec (.idle l) s = .next ((s.answered l c.drop).closeCall l c []) := by
  simp only [exec, execIdle, hcall, hc, Bool.false_eq_true, if_false]

theorem exec_slipFrame {s : State} {l : LineId} {c : Call} (cs : List TillChar) (hcall : s.lines[l].call = some c)
    (hc : c.malformed = false) :
    (∀ kind content, readAnswer cs = .good kind content →
      exec (.slipFrame l cs) s = .next ((s.answered l c.drop).takeFrame l c kind content)) ∧
    (readAnswer cs = .bad → exec (.slipFrame l cs) s = .next ((s.answered l c.drop).closeCall l c [chREPEAT])) ∧
    (readAnswer cs = .malformed → exec (.slipFrame l cs) s = .next (s.spoilCall l)) := by
  refine ⟨fun kind content h => ?_, fun h => ?_, fun h => ?_⟩ <;>
    simp only [exec, execSlipFrame, hcall, hc, Bool.false_eq_true, if_false, h]

theorem exec_malformedAnswer {s : State} {l : LineId} {c : Call} {cs : List TillChar}
    (hcall : s.lines[l].call = some c) (h : c.malformed = true ∨ readAnswer cs = .malformed) :
    exec (.malformedAnswer l cs) s = .next ((s.answered l c.drop).closeCall l c [chREPEAT]) := by
  simp only [exec, execMalformedAnswer, hcall, h, if_true]

/-- The answer of the call in progress has been found malformed (R27). -/
theorem State.spoilCall_eq {s : State} {l : LineId} {c : Call} (hcall : s.lines[l].call = some c) :
    s.spoilCall l = { s with
      lines := s.lines.set l { s.lines[l] with call := some { c with malformed := true } } } := by
  simp only [State.spoilCall, State.onLine, modify_eq_set, hcall, Option.map_some]

theorem exec_frameGapTimeout {s : State} {l : LineId} {c : Call} {cs : List TillChar}
    (hcall : s.lines[l].call = some c) (h : readAnswer cs = .unfinished) :
    exec (.frameGapTimeout l cs) s = .next (s.spoilCall l) := by
  simp only [exec, execFrameGapTimeout, hcall, h, if_true]

/-- A slip that is offered joins, and the call ends with RECEIVED; a full intake declines it with BUSY (R28, R32). -/
theorem State.takeFrame_eq (l : LineId) (c : Call) (kind : Byte) (content : List Byte) (s : State) :
    (s.intake.slips.length < 64 → s.takeFrame l c kind content = ({ s with intake := { s.intake with
      slips := s.intake.slips ++ [{ source := .till (tillIndex l c.drop), kind := kind, content := content }]
      paused := s.intake.paused || decide (s.intake.high ≤ s.intake.slips.length + 1) } } : State).closeCall l c
        [chRECEIVED]) ∧
    (64 ≤ s.intake.slips.length → s.takeFrame l c kind content = s.closeCall l c [chBUSY]) := by
  refine ⟨fun hroom => ?_, fun hfull => ?_⟩
  · rw [State.takeFrame, State.offerSlip_room hroom]
  · rw [State.takeFrame, (State.offerSlip_none _ s).2 hfull]

/-! ### A miss (R27, R31) -/

/-- A miss counts, and the third makes its till ABSENT (R31). -/
def Till.miss (t : Till) : Till := { t with misses := min 3 (t.misses + 1), present := t.present && decide (t.misses ≠ 2) }

theorem exec_miss {s : State} {l : LineId} {c : Call} (hcall : s.lines[l].call = some c) (hc : c.malformed = false) :
    exec (.miss l) s = .next (State.endCall l { s with
      lines := modify s.lines l (TillLine.onTill c.drop Till.miss)
      upc := if s.lines[l].tills[c.drop].misses = 2 then (s.raise (.tillAbsent (tillIndex l c.drop))).upc
        else s.upc }) := by
  have htill : (fun t : Till => { t with
      misses := missed t.misses, present := t.present && !decide (s.lines[l].tills[c.drop].misses = 2) })
      s.lines[l].tills[c.drop] = s.lines[l].tills[c.drop].miss := by
    simp only [Till.miss, missed, ne_eq, decide_not]
  have hline : s.onLine l (TillLine.onTill c.drop fun t => { t with
      misses := missed t.misses, present := t.present && !decide (s.lines[l].tills[c.drop].misses = 2) }) =
      s.onLine l (TillLine.onTill c.drop Till.miss) := by
    simp only [State.onLine, TillLine.onTill, modify_eq_set]
    rw [← htill]
  simp only [exec, execMiss, hcall, hc, Bool.false_eq_true, if_false, hline]
  split
  · rename_i h
    rw [State.raise_onLine_eq, if_pos (by simpa using h)]
  · rename_i h
    rw [if_neg (by simpa using h)]
    rfl

/-- Settles O53. -/
theorem tillAnswersAreTaken : Obligations.TillAnswersAreTaken := by
  intro s l c hcall hon x index joins answered spoiled
  have hline (f : Till → Till) (d : DropId) (hd : d ≠ c.drop) :
      (s.lines[l].onTill c.drop f).tills[d] = s.lines[l].tills[d] := modify_other _ _ _ _ hd
  have hheard : (s.answered l c.drop).intake = s.intake := by rw [State.answered_eq]
  have key (i : Instr) (chars : List Byte) (slips : List Slip) (n : Intake)
      (hexec : exec i s = .next (State.closeCall l c chars { s.answered l c.drop with intake := n }))
      (hslips : n.slips = slips)
      (hpaused : n.paused = (s.intake.paused || (decide (s.intake.slips.length < slips.length) &&
        decide (s.intake.high ≤ slips.length)))) : answered i chars slips := by
    rw [State.answered_eq] at hexec
    obtain ⟨r, p, hclose⟩ := State.closeCall_eq (l := l) (c := c) (chars := chars) (t := x.heard) (s := { s with
        lines := modify s.lines l (TillLine.onTill c.drop Till.heard)
        intake := n
        upc := if x.present then s.upc else (s.raise (.tillPresent index)).upc })
      (by simpa only [modify_self, TillLine.onTill_enabled] using hon) (by simp only [modify_self, TillLine.onTill_tills]; rfl)
    rw [hclose] at hexec
    refine ⟨_, hexec, ?_, hslips, hpaused, ?_, fun d hd => ?_, fun k hk => ?_, ?_, ?_, rfl, rfl, rfl, rfl, rfl, rfl⟩
    · simp only [modify_self]
    · simp only [modify_self, TillLine.onTill_tills]
      rfl
    · simp only [modify_self, TillLine.onTill_tills]
      rw [modify_other _ _ _ _ hd, modify_other _ _ _ _ hd]
    · rw [modify_other _ _ _ _ hk, modify_other _ _ _ _ hk]
    · simp only [modify_self]
      rfl
    · refine congrArg (s.out ++ ·) ?_
      simp only [Call.said, Till.told, List.cons_append, List.nil_append, List.append_assoc]
      rfl
  refine ⟨fun hc => ?_, fun hc => ?_, fun cs hc => ⟨fun kind content hread => ⟨fun hroom => ?_, fun hfull => ?_⟩,
    fun hread => ?_, fun hread => ?_⟩, fun cs hread => ?_, fun cs hread => ?_⟩
  · obtain ⟨r, p, hend⟩ := State.endCall_eq (l := l) (s := { s with
      lines := modify s.lines l (TillLine.onTill c.drop Till.miss)
      upc := if x.misses = 2 then (s.raise (.tillAbsent index)).upc else s.upc })
      (by simpa only [modify_self, TillLine.onTill_enabled] using hon)
    refine ⟨_, (exec_miss hcall hc).trans (congrArg _ hend), ?_, ?_, fun d hd => ?_, rfl, ?_, rfl, rfl⟩
    · simp only [modify_self]
    · simp only [modify_self, TillLine.onTill_tills]
      rfl
    · simp only [modify_self, TillLine.onTill_tills]
      exact modify_other _ _ _ _ hd
    · simp only [modify_self]
      rfl
  · exact key _ _ _ s.intake ((exec_idle hcall hc).trans (by rw [← hheard])) rfl (by simp)
  · refine key _ _ _ _ (((exec_slipFrame cs hcall hc).1 kind content hread).trans (congrArg _
      ((State.takeFrame_eq l c kind content (s.answered l c.drop)).1 (by rwa [hheard])))) ?_ ?_
    · rw [hheard]
    · simp only [hheard, joins, List.length_append, List.length_singleton, Nat.lt_succ_self, decide_true, Bool.true_and]
  · exact key _ _ _ s.intake ((((exec_slipFrame cs hcall hc).1 kind content hread).trans (congrArg _
      ((State.takeFrame_eq l c kind content (s.answered l c.drop)).2 (by rwa [hheard])))).trans (by rw [← hheard])) rfl
      (by simp)
  · exact key _ _ _ s.intake (((exec_slipFrame cs hcall hc).2.1 hread).trans (by rw [← hheard])) rfl (by simp)
  · rw [(exec_slipFrame cs hcall hc).2.2 hread, State.spoilCall_eq hcall]
  · rw [exec_frameGapTimeout hcall hread, State.spoilCall_eq hcall]
  · exact key _ _ _ s.intake ((exec_malformedAnswer hcall hread).trans (by rw [← hheard])) rfl (by simp)

end Sys2Proof.Machine
end

section
/-! PROOFS. The sizes and ranges of the kitchen, and what the Router and the ports send: every operation of the Router
keeps them, and a firing makes as many tickets as its plan has (R101 to R106, R117, R123). -/
namespace Sys2Proof.Machine

/-! ### Keyed tables -/

theorem mem_putBy {α : Type} {key : α → Nat} {x y : α} {l : List α} (h : y ∈ putBy key x l) : y = x ∨ y ∈ l := by
  induction l with
  | nil => exact List.mem_cons.1 h
  | cons z zs ih =>
    unfold putBy at h
    split at h
    · exact List.mem_cons.1 h
    · split at h
      · exact (List.mem_cons.1 h).imp_right (List.mem_cons_of_mem _)
      · rcases List.mem_cons.1 h with rfl | hmem
        · exact .inr List.mem_cons_self
        · exact (ih hmem).imp_right (List.mem_cons_of_mem _)

theorem rising_cons {α : Type} {key : α → Nat} {x : α} {l : List α} :
    Rising key (x :: l) ↔ (∀ y ∈ l, key x < key y) ∧ Rising key l := by
  simp [Rising]

/-- Putting an entry in its place keeps a table's keys rising. -/
theorem putBy_rising {α : Type} {key : α → Nat} (x : α) {l : List α} (h : Rising key l) : Rising key (putBy key x l) := by
  induction l with
  | nil => exact rising_cons.2 ⟨by simp, h⟩
  | cons y ys ih =>
    obtain ⟨hy, hys⟩ := rising_cons.1 h
    unfold putBy
    split
    · rename_i hlt
      refine rising_cons.2 ⟨fun z hz => ?_, h⟩
      rcases List.mem_cons.1 hz with rfl | hmem
      · exact hlt
      · exact hlt.trans (hy z hmem)
    · split
      · rename_i heq
        exact rising_cons.2 ⟨fun z hz => by rw [heq]; exact hy z hz, hys⟩
      · rename_i h1 h2
        refine rising_cons.2 ⟨fun z hz => ?_, ih hys⟩
        rcases mem_putBy hz with rfl | hmem
        · omega
        · exact hy z hmem

/-- Putting an entry in place of one with its key makes a table no longer. -/
theorem putBy_length_of_mem {α : Type} {key : α → Nat} (x : α) {l : List α} (h : Rising key l)
    (hx : ∃ y ∈ l, key y = key x) : (putBy key x l).length = l.length := by
  induction l with
  | nil => simp at hx
  | cons y ys ih =>
    obtain ⟨hy, hys⟩ := rising_cons.1 h
    obtain ⟨z, hz, hkey⟩ := hx
    unfold putBy
    rcases List.mem_cons.1 hz with rfl | hmem
    · simp [hkey]
    · have := hy z hmem
      rw [if_neg (by omega), if_neg (by omega), List.length_cons, ih hys ⟨z, hmem, hkey⟩, List.length_cons]

/-- Changing entries in place, keys kept, keeps a table's keys rising. -/
theorem map_rising {α : Type} {key : α → Nat} {f : α → α} (hf : ∀ x, key (f x) = key x) {l : List α}
    (h : Rising key l) : Rising key (l.map f) := by
  have : (l.map f).map key = l.map key := by simp [hf]
  rwa [Rising, this]

theorem eraseBy_rising {α : Type} {key : α → Nat} {k : Nat} {l : List α} (h : Rising key l) :
    Rising key (eraseBy key k l) :=
  List.Pairwise.sublist (List.filter_sublist.map key) h

/-- A number that is taken leaves its counter within its range (R40, R85, R102). -/
theorem wrapNext_range {top : Nat} (h : 1 ≤ top) (n : Nat) : 1 ≤ wrapNext top n ∧ wrapNext top n ≤ top := by
  unfold wrapNext
  split <;> omega

/-! ### What the Router and the ports do at most -/

/-- What is sent to a till. -/
def Effect.isNotice : Effect → Bool
  | .notice _ _ => true
  | _ => false

/-- A piece of work has sent nothing to a till. -/
def Work.Quiet (w : Work) : Prop := ∀ e ∈ w.fx, e.isNotice = false

theorem Work.Quiet.emit {w : Work} (h : w.Quiet) {e : Effect} (he : e.isNotice = false) : (w.emit e).Quiet := by
  intro x hx
  rw [Work.emit_fx, List.mem_append, List.mem_singleton] at hx
  rcases hx with hx | rfl
  · exact h x hx
  · exact he

/-- The ticket counter is a ticket number (R102). -/
def KitchenRouter.CtrFits (k : KitchenRouter) : Prop := 1 ≤ k.ticketCtr ∧ k.ticketCtr ≤ 65535

/-- A piece of work is the Router's or a port's: it leaves the Check Engine alone but for offering a try, sends nothing
to a till, makes no ticket, and keeps the sizes and ranges of chapters 6 and 7. -/
structure Work.Routes (w v : Work) : Prop extends Work.KitchenOnly w v where
  quiet   : w.Quiet → v.Quiet := by exact id
  size    : Rising Ticket.number w.kr.tickets → v.kr.tickets.length ≤ w.kr.tickets.length := by exact fun _ => le_rfl
  rising  : Rising Ticket.number w.kr.tickets → Rising Ticket.number v.kr.tickets := by exact id
  ctr     : w.kr.CtrFits → v.kr.CtrFits := by exact id
  recalls : ∀ st : StationId, w.kr.stations[st].recallL.length ≤ 8 → v.kr.stations[st].recallL.length ≤ 8 := by
    exact fun _ => id
  bad     : ∀ st : StationId, w.ports[st].badFrames ≤ 65535 → v.ports[st].badFrames ≤ 65535 := by exact fun _ => id

theorem Work.Routes.refl (w : Work) : w.Routes w where
  toKitchenOnly := .refl w

theorem Work.Routes.trans {u v w : Work} (h : u.Routes v) (h' : v.Routes w) : u.Routes w where
  toKitchenOnly := h.toKitchenOnly.trans h'.toKitchenOnly
  quiet := fun hq => h'.quiet (h.quiet hq)
  size := fun hr => (h'.size (h.rising hr)).trans (h.size hr)
  rising := fun hr => h'.rising (h.rising hr)
  ctr := fun hc => h'.ctr (h.ctr hc)
  recalls := fun st hs => h'.recalls st (h.recalls st hs)
  bad := fun st hs => h'.bad st (h.bad st hs)

theorem Work.Routes.foldl {α : Type} {f : Work → α → Work} (hf : ∀ (w : Work) x, w.Routes (f w x)) (xs : List α)
    (w : Work) : w.Routes (xs.foldl f w) := by
  induction xs generalizing w with
  | nil => exact .refl w
  | cons x xs ih => exact (hf w x).trans (ih _)

/-- One of two ways on, each the Router's. -/
theorem Work.Routes.ite {c : Prop} [Decidable c] {w u v : Work} (hu : w.Routes u) (hv : w.Routes v) :
    w.Routes (if c then u else v) := by
  split
  · exact hu
  · exact hv

/-! ### One rule for each update -/

theorem Work.emit_routes {e : Effect} (he : e.isNotice = false) (w : Work) : w.Routes (w.emit e) where
  toKitchenOnly := .of_eq rfl rfl rfl rfl
  quiet := fun h => h.emit he

theorem Work.raise_routes (e : Event) (w : Work) : w.Routes (w.raise e) := w.emit_routes rfl

theorem Work.offerTry_routes (w : Work) : w.Routes w.offerTry where
  toKitchenOnly := ⟨rfl, rfl, rfl, rfl⟩

theorem Work.dropOffers_routes (n : Nat) (w : Work) : w.Routes (w.dropOffers n) where
  toKitchenOnly := .of_eq rfl rfl rfl rfl

theorem Work.offerCompletion_routes (n : Nat) (st : StationId) (v : Via) (w : Work) :
    w.Routes (w.offerCompletion n st v) where
  toKitchenOnly := .of_eq rfl rfl rfl rfl

theorem Work.request_routes (sd : StandId) (b : Bool) (w : Work) : w.Routes (w.request sd b) where
  toKitchenOnly := .of_eq rfl rfl rfl rfl

/-- A change of one element keeps what it keeps of that element. -/
theorem modify_keeps {α : Type} {n : Nat} {p : α → Prop} {v : Vector α n} {i : Fin n} {f : α → α}
    (hf : p v[i] → p (f v[i])) (j : Fin n) (h : p v[j]) : p (modify v i f)[j] := by
  by_cases e : j = i
  · subst e
    rw [modify_self]
    exact hf h
  · rwa [modify_other _ _ _ _ e]

theorem Work.onStation_routes {st : StationId} {f : Station → Station} {w : Work}
    (hf : (w.station st).recallL.length ≤ 8 → (f (w.station st)).recallL.length ≤ 8 := by exact id) : w.Routes (w.onStation st f) where
  toKitchenOnly := .of_eq rfl rfl rfl rfl
  recalls := modify_keeps (p := fun s : Station => s.recallL.length ≤ 8) hf

theorem Work.onPort_routes {st : StationId} {f : Port → Port} {w : Work}
    (hf : (w.port st).badFrames ≤ 65535 → (f (w.port st)).badFrames ≤ 65535 := by exact id) : w.Routes (w.onPort st f) where
  toKitchenOnly := .of_eq rfl rfl rfl rfl
  bad := modify_keeps (p := fun p : Port => p.badFrames ≤ 65535) hf

/-- Tickets changed in place, their numbers kept. -/
theorem Work.mapTickets_routes {f : Ticket → Ticket} (hf : ∀ t, (f t).number = t.number) (w : Work) :
    w.Routes { w with kr := { w.kr with tickets := w.kr.tickets.map f } } where
  toKitchenOnly := .of_eq rfl rfl rfl rfl
  size := fun _ => (List.length_map f).le
  rising := map_rising hf

theorem Work.onTicket_routes (n : Nat) {f : Ticket → Ticket} (w : Work)
    (hf : ∀ t, (f t).number = t.number := by exact fun _ => rfl) : w.Routes (w.onTicket n f) :=
  w.mapTickets_routes fun t => by split <;> simp [hf]

theorem Work.eraseTicket_routes (n : Nat) (w : Work) :
    w.Routes { w with kr := { w.kr with tickets := eraseBy Ticket.number n w.kr.tickets } } where
  toKitchenOnly := .of_eq rfl rfl rfl rfl
  size := fun _ => eraseBy_length_le _ _ _
  rising := eraseBy_rising

/-- A ticket put in place of the one with its number. -/
theorem Work.putTicket_routes {t t' : Ticket} {n : Nat} {w : Work} (ht : w.ticket? n = some t)
    (hn : t'.number = t.number) : w.Routes (w.putTicket t') where
  toKitchenOnly := .of_eq rfl rfl rfl rfl
  size := fun h => (putBy_length_of_mem t' h ⟨t, (lookupBy_some ht).1, hn.symm⟩).le
  rising := putBy_rising t'

theorem Work.takeNumber_routes (w : Work) : w.Routes w.takeNumber.2 where
  toKitchenOnly := .of_eq rfl rfl rfl rfl
  ctr := fun _ => wrapNext_range (by decide) _

theorem Work.takeNumbers_routes (k : Nat) (w : Work) : w.Routes (w.takeNumbers k).2 := by
  induction k generalizing w with
  | zero => exact .refl w
  | succ k ih => exact w.takeNumber_routes.trans (ih _)

/-! ### Places and counts (R103, R117, R119, R121) -/

theorem Work.divertTest_routes (st : StationId) (w : Work) : w.Routes (w.divertTest st) := by
  by_cases h : (w.station st).divertsAt (w.backlog st) = (w.station st).diverting
  · rw [Work.divertTest_stays h]
    exact .refl w
  · rw [Work.divertTest_turns rfl h]
    exact (Work.onStation_routes).trans (Work.raise_routes _ _)

theorem Work.noteClear_routes (sd : StandId) (before : Nat) (w : Work) : w.Routes (w.noteClear sd before) :=
  .ite { toKitchenOnly := .of_eq rfl rfl rfl rfl } (.refl w)

theorem Work.watching_routes {sd : StandId} {f : Work → Work} {w : Work} (hf : w.Routes (f w)) :
    w.Routes (w.watching sd f) :=
  hf.trans (Work.noteClear_routes _ _ _)

theorem Work.unplace_routes (n : Nat) (st : StationId) (w : Work) : w.Routes (w.unplace n st) := by
  have hcut : w.Routes (if (w.port st).sendingTicket n then w.emit (.output (.ticketCut st)) else w) :=
    .ite (w.emit_routes rfl) (.refl w)
  refine hcut.trans ((Work.onPort_routes).trans (Work.onStation_routes fun h => ?_))
  exact (List.length_filter_le _ _).trans h

theorem Work.freeRaw_routes (n : Nat) (w : Work) : w.Routes (w.freeRaw n) := by
  unfold Work.freeRaw
  split
  · exact .refl w
  · rename_i t ht
    exact Work.watching_routes ((w.unplace_routes n t.station).trans ((Work.dropOffers_routes n _).trans
      ((Work.eraseTicket_routes n _).trans (Work.offerTry_routes _))))

theorem Work.freeAll_routes (ns : List Nat) (w : Work) : w.Routes (ns.foldl (fun w n => w.freeRaw n) w) :=
  .foldl (fun w n => w.freeRaw_routes n) ns w

theorem Work.freeTicket_routes (n : Nat) (w : Work) : w.Routes (w.freeTicket n) := by
  unfold Work.freeTicket
  split
  · exact .refl w
  · exact (w.freeRaw_routes n).trans (Work.divertTest_routes _ _)

theorem Work.queueNormal_routes (n : Nat) (st : StationId) (w : Work) : w.Routes (w.queueNormal n st) :=
  (w.onTicket_routes n).trans ((Work.onStation_routes).trans (Work.divertTest_routes st _))

theorem Work.queueVoid_routes (n : Nat) (st : StationId) (w : Work) : w.Routes (w.queueVoid n st) :=
  (w.onTicket_routes n).trans ((Work.onStation_routes).trans (Work.divertTest_routes st _))

theorem Work.show_routes (n : Nat) (st : StationId) (w : Work) : w.Routes (w.show n st) :=
  (w.unplace_routes n st).trans ((Work.onTicket_routes n _).trans (Work.onStation_routes))

theorem Work.enterRecall_routes (n : Nat) (t : Ticket) (w : Work) : w.Routes (w.enterRecall n t) := by
  refine Work.watching_routes ?_
  have hroom : w.Routes (if recallSize ≤ (w.station t.station).recallL.length then
      match (w.station t.station).recallL.getLast? with
      | some o => w.freeRaw o
      | none => w
    else w) := by
    refine .ite ?_ (.refl w)
    split
    · exact w.freeRaw_routes _
    · exact .refl w
  exact hroom.trans ((Work.unplace_routes n t.station _).trans ((Work.dropOffers_routes n _).trans
    ((Work.onTicket_routes n _).trans
      ((Work.onStation_routes fun _ => List.length_take_le _ _).trans (Work.offerTry_routes _)))))

/-! ### Assemblies and voids (R112 to R116) -/

theorem Work.settleAssembly_routes (completing : Option Nat) (n : Nat) (w : Work) :
    w.Routes (w.settleAssembly completing n) := by
  unfold Work.settleAssembly
  split
  · rename_i a ha
    refine .ite (.ite ?gone (.ite ?queued ?waits)) (.refl w)
    case gone =>
      exact (w.mapTickets_routes fun t => by unfold Ticket.forget; split <;> rfl).trans (Work.freeTicket_routes n _)
    case queued => exact (w.onTicket_routes n).trans (Work.queueNormal_routes n _ _)
    case waits => exact w.onTicket_routes n
  · exact .refl w

theorem Work.normalOf_some {w : Work} {c : Check} {l : Line} {t : Ticket} (h : w.normalOf c l = some t) :
    ∃ n, w.ticket? n = some t := by
  obtain ⟨n, -, hn⟩ := Option.bind_eq_some_iff.1 (Option.filter_eq_some_iff.1 h).1
  exact ⟨n, hn⟩

theorem Work.assemblyOf_some {w : Work} {c : Check} {l : Line} {t : Ticket} (h : w.assemblyOf c l = some t) :
    ∃ n, w.ticket? n = some t := by
  obtain ⟨n, -, hn⟩ := Option.bind_eq_some_iff.1 (Option.filter_eq_some_iff.1 h).1
  exact ⟨n, hn⟩

theorem Work.voidOnNormal_routes (c : Check) (l : Line) (w : Work) : w.Routes (w.voidOnNormal c l) := by
  unfold Work.voidOnNormal
  split
  · exact .refl w
  · rename_i t ht
    obtain ⟨n, hn⟩ := Work.normalOf_some ht
    split
    · exact .ite (w.freeTicket_routes _) (Work.putTicket_routes hn rfl)
    · exact Work.putTicket_routes hn rfl
    · exact Work.putTicket_routes hn rfl
    · exact Work.putTicket_routes hn rfl
    · exact .refl w

theorem Work.voidOnAssembly_routes (c : Check) (l : Line) (w : Work) : w.Routes (w.voidOnAssembly c l) := by
  unfold Work.voidOnAssembly
  split
  · exact .refl w
  · rename_i a ha
    obtain ⟨n, hn⟩ := Work.assemblyOf_some ha
    exact Work.putTicket_routes hn (by split <;> rfl)

/-! ### A station going down (R122, R128) -/

theorem Work.revert_routes (st : StationId) (w : Work) : w.Routes (w.revert st) := by
  refine (Work.Routes.foldl (fun w n => ?_) _ w).trans ((Work.onPort_routes).trans (Work.onStation_routes))
  exact (w.onTicket_routes n).trans (Work.dropOffers_routes n _)

theorem Work.clearDown_routes (st : StationId) (w : Work) : w.Routes (w.clearDown st) := w.freeAll_routes _

theorem Work.moveToFallback_routes (st : StationId) (w : Work) : w.Routes (w.moveToFallback st).2 := by
  unfold Work.moveToFallback
  split
  · exact .refl w
  · rename_i f hf
    split
    · have hmoved (v : Work) (moved : List Nat) : v.Routes { v with kr := { v.kr with
          tickets := v.kr.tickets.map fun t => if t.number ∈ moved then { t with station := f } else t } } :=
        v.mapTickets_routes fun t => by split <;> rfl
      refine .ite ?_ (Work.Routes.trans ?_ (Work.offerTry_routes _))
      all_goals exact Work.Routes.trans Work.onStation_routes (Work.Routes.trans Work.onStation_routes (hmoved _ _))
    · exact .refl w

theorem Work.routerDown_routes (st : StationId) (w : Work) : w.Routes (w.routerDown st).2 := by
  have hdown := (w.revert_routes st).trans ((Work.clearDown_routes st _).trans
    ((Work.moveToFallback_routes st _).trans (Work.divertTest_routes st _)))
  unfold Work.routerDown
  simp only
  split
  · exact hdown.trans (Work.divertTest_routes _ _)
  · exact hdown

theorem Work.goDown_routes (st : StationId) (cause : DownCause) (w : Work) : w.Routes (w.goDown st cause) := by
  have hcut : w.Routes (if (w.port st).sending then w.emit (.output (.ticketCut st)) else w) :=
    .ite (w.emit_routes rfl) (.refl w)
  unfold Work.goDown
  generalize (if (w.port st).sending then w.emit (.output (.ticketCut st)) else w) = v at hcut ⊢
  have hheld : v.Routes (v.onPort st fun p => { p with hold := false, holdTimer := none }) := Work.onPort_routes
  have hdown := Work.routerDown_routes st (v.onPort st fun p => { p with hold := false, holdTimer := none })
  simp only
  generalize Work.routerDown st (v.onPort st fun p => { p with hold := false, holdTimer := none }) = r at hdown ⊢
  refine (hcut.trans (hheld.trans hdown)).trans ?_
  refine .ite (Work.Routes.trans ?_ (Work.emit_routes rfl _)) ?_
  all_goals exact Work.Routes.trans Work.onPort_routes (Work.raise_routes _ _)

end Sys2Proof.Machine
end

section
/-! PROOFS. What commands leave alone: the till lines but for notices, the intake, the clock, the uplink but for its send
queue (R32, R41, R109, R133, R136). -/
namespace Sys2Proof.Machine

/-! ### Notices posted on a line (R36) -/

/-- A line has been posted notices, and nothing else of it has changed. -/
structure TillLine.Posted (l m : TillLine) : Prop where
  line  : m = { l with tills := m.tills }
  till  : ∀ d : DropId, l.tills[d].SameButNotices m.tills[d]
  bound : ∀ d : DropId, l.tills[d].notices.length ≤ 4 → m.tills[d].notices.length ≤ 4

theorem TillLine.Posted.refl (l : TillLine) : l.Posted l := ⟨rfl, fun _ => rfl, fun _ => id⟩

theorem Till.SameButNotices.trans {t u v : Till} (h : t.SameButNotices u) (h' : u.SameButNotices v) :
    t.SameButNotices v := by
  unfold Till.SameButNotices at *
  rw [← h, ← h']

theorem TillLine.Posted.trans {k l m : TillLine} (h : k.Posted l) (h' : l.Posted m) : k.Posted m where
  line := by rw [h'.line, h.line]
  till := fun d => (h.till d).trans (h'.till d)
  bound := fun d hd => h'.bound d (h.bound d hd)

theorem Till.post_sameButNotices (n : Notice) (t : Till) : t.SameButNotices (t.post n) := by
  obtain ⟨q, b, h⟩ := Till.post_frame n t
  rw [h]
  rfl

theorem TillLine.post_posted (d : DropId) (n : Notice) (l : TillLine) : l.Posted (l.onTill d (Till.post n)) where
  line := rfl
  till := fun e => by
    by_cases h : e = d
    · subst h
      rw [TillLine.onTill_tills, modify_self]
      exact Till.post_sameButNotices n _
    · rw [TillLine.onTill_tills, modify_other _ _ _ _ h]
      rfl
  bound := modify_keeps (p := fun t : Till => t.notices.length ≤ 4) (Till.post_bound n _)

theorem State.apply_posted (e : Effect) (s : State) (l : LineId) : s.lines[l].Posted (s.apply e).lines[l] := by
  cases e with
  | event e => simpa only [State.apply, State.raise_lines] using TillLine.Posted.refl _
  | notice t n =>
    by_cases h : l = tillLine t
    · subst h
      simpa only [State.apply, State.post, State.onLine_lines, modify_self] using TillLine.post_posted _ n _
    · rw [State.apply, State.post, State.onLine_lines, modify_other _ _ _ _ h]
      exact .refl _
  | authRequest r => simpa only [State.apply, State.handOver_lines] using TillLine.Posted.refl _
  | output o => exact .refl _

/-- A piece of work carried out reaches the till lines by posting notices alone (R41). -/
theorem State.commit_posted (w : Work) (s : State) (l : LineId) : s.lines[l].Posted (s.commit w).lines[l] := by
  have key (es : List Effect) (x : State) : x.lines[l].Posted (es.foldl State.apply x).lines[l] := by
    induction es generalizing x with
    | nil => exact .refl _
    | cons e es ih => exact (State.apply_posted e x l).trans (ih _)
  exact key w.fx (s.putWork w)

/-- A piece of work that sends nothing to a till leaves the till lines. -/
theorem State.commit_lines_of_quiet {w : Work} (h : w.Quiet) (s : State) : (s.commit w).lines = s.lines := by
  have key (es : List Effect) (h : ∀ e ∈ es, e.isNotice = false) (x : State) :
      (es.foldl State.apply x).lines = x.lines := by
    induction es generalizing x with
    | nil => rfl
    | cons e es ih =>
      refine (ih (fun y hy => h y (List.mem_cons_of_mem _ hy)) _).trans ?_
      cases e with
      | event e => exact State.raise_lines e x
      | notice t n => cases h _ List.mem_cons_self
      | authRequest r => exact State.handOver_lines _ x
      | output o => rfl
  exact key w.fx h (s.putWork w)

/-! ### The frame of a piece of work (R41) -/

theorem State.WorkFrame.refl (s : State) : s.WorkFrame s :=
  ⟨rfl, rfl, rfl, List.prefix_rfl, ⟨s.upc.sendQueue, rfl⟩, fun _ => rfl, fun _ _ => rfl⟩

theorem State.doWork_workFrame (f : Work → Work) (s : State) : s.WorkFrame (s.doWork f) :=
  ⟨State.commit_pending _ s, State.commit_intake _ s, State.commit_clock _ s, State.commit_out _ s, State.commit_upc _ s,
    fun l => congrArg (fun m : TillLine => { m with tills := s.lines[l].tills }) (State.commit_posted (f s.work) s l).line,
    fun l d => (State.commit_posted (f s.work) s l).till d⟩

theorem State.StationFrame.refl (s : State) : s.StationFrame s := ⟨.refl s, rfl, rfl, rfl, rfl⟩

/-- The Router's own work reaches no till, no table and no check (R109, R133). -/
theorem State.doWork_stationFrame {f : Work → Work} {s : State} (h : s.work.Routes (f s.work)) :
    s.StationFrame (s.doWork f) := by
  have hquiet : (f s.work).Quiet := h.quiet fun e he => nomatch he
  refine ⟨State.doWork_workFrame f s, State.commit_lines_of_quiet hquiet s, ?_, (State.commit_tu _ s).trans h.tu,
    (State.commit_sj _ s).trans h.sj⟩
  exact (State.commit_ce (f s.work) s).trans (h.ce.trans (by rw [State.doWork, State.commit_ce]; rfl))

/-! ### The work of a station port is the Router's (chapter 7) -/

theorem Work.goAny_routes (st : StationId) (w : Work) : w.Routes (w.goAny st) := .ite Work.onPort_routes (.refl w)

theorem Port.setSlot_badFrames (x : Slot) (o : Option OutSlot) (p : Port) : (p.setSlot x o).badFrames = p.badFrames := by
  cases x <;> rfl

theorem Station.dropHead_recallL (x : Station) : x.dropHead.recallL = x.recallL := by
  unfold Station.dropHead
  split <;> rfl

theorem Work.sendHead_routes (st : StationId) (w : Work) : w.Routes (w.sendHead st) := by
  refine .ite ?_ (.refl w)
  split
  · refine Work.Routes.trans (Work.onStation_routes fun h => ?_) ((Work.onTicket_routes _ _).trans
      (Work.Routes.trans (Work.onPort_routes fun h => ?_) (Work.emit_routes rfl _)))
    · rwa [Station.dropHead_recallL]
    · rwa [← Port.setSlot_badFrames] at h
  · exact .refl w

theorem Work.takenSlot_routes (st : StationId) (x : Slot) (o : OutSlot) (w : Work) : w.Routes (w.takenSlot st x o) := by
  unfold Work.takenSlot
  split
  · exact .refl w
  · refine .ite (.ite ?_ (w.freeTicket_routes _)) ?_
    · refine Work.Routes.trans (Work.onPort_routes fun h => ?_) (Work.offerCompletion_routes _ _ _ _)
      rwa [Port.setSlot_badFrames]
    · exact (w.show_routes _ st).trans ((Work.divertTest_routes st _).trans (Work.offerTry_routes _))

theorem Work.taken_routes (st : StationId) (x : Slot) (w : Work) : w.Routes (w.taken st x) := by
  unfold Work.taken
  split
  · exact .ite (w.takenSlot_routes st x _) (.refl w)
  · exact .refl w

theorem Work.bump_routes (st : StationId) (n : Nat) (w : Work) : w.Routes (w.bump st n) := by
  refine .ite ?_ (.refl w)
  split
  · exact .ite (.ite (.refl w) (w.offerCompletion_routes n st _)) (.ite (w.freeTicket_routes n) (w.enterRecall_routes n _))
  · exact .refl w

theorem Work.remake_routes (n : Nat) (st : StationId) (w : Work) : w.Routes (w.remake n st) :=
  (w.show_routes n st).trans (Work.onTicket_routes n _)

theorem Work.recallArrives_routes (st : StationId) (n : Nat) (w : Work) : w.Routes (w.recallArrives st n) := by
  refine .ite ?_ (.refl w)
  split
  · exact .ite { toKitchenOnly := .of_eq rfl rfl rfl rfl } (.ite (w.remake_routes n st) (.refl w))
  · exact .refl w

theorem Work.recordFault_routes (st : StationId) (code : Nat) (w : Work) : w.Routes (w.recordFault st code) :=
  Work.onPort_routes

theorem Work.helloDown_routes (st : StationId) (k : StationKind) (w : Work) : w.Routes (w.helloDown st k) :=
  .ite (Work.Routes.trans Work.onPort_routes (Work.raise_routes _ _)) Work.onPort_routes

theorem Port.holdOn_badFrames (limit : Nat) (p : Port) : (p.holdOn limit).badFrames = p.badFrames := by
  unfold Port.holdOn
  split <;> rfl

theorem Work.holdArrives_routes (st : StationId) (w : Work) : w.Routes (w.holdArrives st) :=
  (w.goAny_routes st).trans (Work.onPort_routes fun h => by rwa [Port.holdOn_badFrames])

theorem Work.countBad_routes (st : StationId) (k : Nat) (w : Work) : w.Routes (w.countBad st k) :=
  Work.onPort_routes fun _ => Nat.min_le_left _ _

theorem Work.act_routes (st : StationId) (a : StationAction) (w : Work) : w.Routes (w.act st a) := by
  unfold Work.act
  split
  case h_1 => exact w.goDown_routes st .off
  case h_2 => exact Work.onPort_routes
  case h_4 => exact Work.Routes.trans Work.onPort_routes (Work.emit_routes rfl _)
  case h_7 => exact Work.onPort_routes
  all_goals exact .refl w

/-! ### Station commands (R109, R133, R136) -/

/-- A command that does some work at a port, or nothing. -/
def State.RoutesTo (s t : State) : Prop :=
  t = s ∨ ∃ f : Work → Work, (∀ w : Work, w.Routes (f w)) ∧ t = s.doWork f

theorem State.atPort_routesTo {st : StationId} {want : Link → Bool} {f : Work → Work} (h : ∀ w : Work, w.Routes (f w))
    (s : State) : s.RoutesTo (s.atPort st want f) := by
  unfold State.atPort
  split
  · exact .inr ⟨f, h, rfl⟩
  · exact .inl rfl

theorem State.onFrame_routesTo {st : StationId} {cs : List PortChar} {up down : PortFrame → Option (Work → Work)}
    (hup : ∀ f g, up f = some g → ∀ w : Work, w.Routes (g w)) (hdown : ∀ f g, down f = some g → ∀ w : Work, w.Routes (g w))
    (s : State) : s.RoutesTo (s.onFrame st cs up down) := by
  unfold State.onFrame
  split
  · split
    · split
      · split
        · rename_i g hg
          exact .inr ⟨fun w => g (w.goAny st), fun w => (w.goAny_routes st).trans (hup _ g hg _), rfl⟩
        · exact .inl rfl
      · split
        · rename_i g hg
          exact .inr ⟨g, hdown _ g hg, rfl⟩
        · exact .inl rfl
      · exact .inl rfl
    · exact .inl rfl
  · exact .inl rfl

theorem noFrame_routes (f : PortFrame) (g : Work → Work) (h : noFrame f = some g) (w : Work) : w.Routes (g w) :=
  nomatch h

theorem execTaken_routesTo (st : StationId) (cs : List PortChar) (s : State) :
    ∃ t, execTaken st cs s = .next t ∧ s.RoutesTo t := by
  refine ⟨_, rfl, State.onFrame_routesTo (fun f g hg => ?_) noFrame_routes s⟩
  cases f <;> cases hg
  exact Work.taken_routes st _

theorem execBump_routesTo (st : StationId) (cs : List PortChar) (s : State) :
    ∃ t, execBump st cs s = .next t ∧ s.RoutesTo t := by
  refine ⟨_, rfl, State.onFrame_routesTo (fun f g hg => ?_) noFrame_routes s⟩
  cases f <;> cases hg
  exact Work.bump_routes st _

theorem execRecallFrame_routesTo (st : StationId) (cs : List PortChar) (s : State) :
    ∃ t, execRecallFrame st cs s = .next t ∧ s.RoutesTo t := by
  refine ⟨_, rfl, State.onFrame_routesTo (fun f g hg => ?_) noFrame_routes s⟩
  cases f <;> cases hg
  exact Work.recallArrives_routes st _

theorem execFault_routesTo (st : StationId) (cs : List PortChar) (s : State) :
    ∃ t, execFault st cs s = .next t ∧ s.RoutesTo t := by
  refine ⟨_, rfl, State.onFrame_routesTo (fun f g hg => ?_) (fun f g hg => ?_) s⟩
  · cases f with
    | fault code =>
      obtain rfl := Option.some.inj hg
      exact fun w => (w.recordFault_routes st code).trans (Work.goDown_routes st .fault _)
    | _ => cases hg
  · cases f with
    | fault code =>
      obtain rfl := Option.some.inj hg
      exact Work.recordFault_routes st code
    | _ => cases hg

theorem execHelloFrame_routesTo (st : StationId) (cs : List PortChar) (s : State) :
    ∃ t, execHelloFrame st cs s = .next t ∧ s.RoutesTo t := by
  refine ⟨_, rfl, State.onFrame_routesTo (fun f g hg => ?_) (fun f g hg => ?_) s⟩
  · cases f with
    | hello k =>
      obtain rfl := Option.some.inj hg
      exact Work.goDown_routes st .restart
    | _ => cases hg
  · cases f with
    | hello k =>
      obtain rfl := Option.some.inj hg
      exact Work.helloDown_routes st k
    | _ => cases hg

theorem execStationFrameDiscard_routesTo (st : StationId) (cs : List PortChar) (s : State) :
    ∃ t, execStationFrameDiscard st cs s = .next t ∧ s.RoutesTo t := by
  refine ⟨_, rfl, ?_⟩
  split
  · exact State.atPort_routesTo (fun w => (w.goAny_routes st).trans (Work.countBad_routes st _ _)) s
  · exact .inl rfl

/-- Every station command is the Router's work at its port, or nothing. -/
theorem exec_station_routesTo {c : Instr} (hc : isStationCommand c = true) (s : State) :
    ∃ t, exec c s = .next t ∧ s.RoutesTo t := by
  cases c with
  | ticket st => exact ⟨_, rfl, State.atPort_routesTo (Work.sendHead_routes st) s⟩
  | ticketFrameEnd st =>
    refine ⟨_, rfl, State.atPort_routesTo (fun w => .ite ?_ (.refl w)) s⟩
    exact Work.Routes.trans Work.onPort_routes (Work.emit_routes rfl _)
  | probeTimerExpiry st =>
    refine ⟨_, rfl, State.atPort_routesTo (fun w => .ite ?_ (.refl w)) s⟩
    exact Work.Routes.trans Work.onPort_routes (Work.emit_routes rfl _)
  | taken st cs => exact execTaken_routesTo st cs s
  | bump st cs => exact execBump_routesTo st cs s
  | recallFrame st cs => exact execRecallFrame_routesTo st cs s
  | fault st cs => exact execFault_routesTo st cs s
  | helloFrame st cs => exact execHelloFrame_routesTo st cs s
  | hold st => exact ⟨_, rfl, State.atPort_routesTo (Work.holdArrives_routes st) s⟩
  | go st x =>
    refine ⟨_, rfl, State.atPort_routesTo (fun w => .ite ?_ (.ite (w.holdArrives_routes st) (w.goAny_routes st))) s⟩
    exact Work.onPort_routes
  | stationFrameDiscard st cs => exact execStationFrameDiscard_routesTo st cs s
  | stationFrameGapTimeout st => exact ⟨_, rfl, State.atPort_routesTo (Work.countBad_routes st 1) s⟩
  | takenTimeout st x =>
    exact ⟨_, rfl, State.atPort_routesTo (fun w => .ite (w.goDown_routes st .takenTimeout) (.refl w)) s⟩
  | holdLimit st =>
    exact ⟨_, rfl, State.atPort_routesTo (fun w => .ite (w.goDown_routes st .holdLimit) (.refl w)) s⟩
  | _ => cases hc

theorem State.RoutesTo.stationFrame {s t : State} (h : s.RoutesTo t) : s.StationFrame t := by
  rcases h with rfl | ⟨f, hf, rfl⟩
  · exact .refl t
  · exact State.doWork_stationFrame (hf _)

/-! ### Commands that are one piece of work (R41) -/

/-- A command that is one piece of work, its offer taken first, or nothing. -/
theorem exec_work_workFrame {c : Instr} (hc : isWorkCommand c = true) (s : State) :
    ∃ t, exec c s = .next t ∧ s.WorkFrame t := by
  cases c with
  | fireBacklogTry =>
    refine ⟨_, rfl, ?_⟩
    split
    · exact State.doWork_workFrame _ { s with ce := { s.ce with tryOffered := false } }
    · exact .refl s
  | authAnswerTaken tag v =>
    refine ⟨_, rfl, ?_⟩
    split
    · exact State.doWork_workFrame _ { s with ce := { s.ce with answers := _ } }
    · exact .refl s
  | authWaitExpiry tag =>
    refine ⟨_, rfl, ?_⟩
    split
    · split
      · exact State.doWork_workFrame _ s
      · exact .refl s
    · exact .refl s
  | lateWindowExpiry =>
    refine ⟨_, rfl, ?_⟩
    split
    · split
      · exact State.doWork_workFrame _ s
      · exact .refl s
    · exact .refl s
  | completion n =>
    refine ⟨_, rfl, ?_⟩
    split
    · exact State.doWork_workFrame _ { s with kr := { s.kr with completions := _ } }
    · exact .refl s
  | recallOffer n =>
    refine ⟨_, rfl, ?_⟩
    split
    · exact State.doWork_workFrame _ { s with kr := { s.kr with recalls := _ } }
    · exact .refl s
  | clearanceReport sd =>
    refine ⟨_, rfl, ?_⟩
    split
    · exact State.doWork_workFrame _ { s with kr := { s.kr with clearance := _ } }
    · exact .refl s
  | closeDeadlineExpiry sd =>
    refine ⟨_, rfl, ?_⟩
    split
    · split
      · exact State.doWork_workFrame _ s
      · exact .refl s
    · exact .refl s
  | _ => cases hc

/-! ### Commands that take a slip (R32, R41) -/

/-- What a command leaves alone that takes a slip: of the intake it takes the head at most. -/
structure State.SlipFrame (s t : State) : Prop where
  pending : t.pending = s.pending
  clock   : t.clock = s.clock
  out     : s.out <+: t.out
  upc     : ∃ q, t.upc = { s.upc with sendQueue := q }
  slips   : t.intake.slips = s.intake.slips ∨ ∃ x, s.intake.slips = x :: t.intake.slips
  tills   : ∀ (l : LineId) (d : DropId), s.lines[l].tills[d].SameButNotices t.lines[l].tills[d]

/-- Processing a slip is one piece of work, or nothing. -/
theorem processTill_workFrame (f : TillId → Till → List Byte → Work → SlipAnswer × Work) (x : Slip) (s : State) :
    s.WorkFrame (processTill f x s) := by
  unfold processTill
  split
  · exact State.doWork_workFrame _ s
  · exact .refl s

theorem processRemote_workFrame (x : Slip) (s : State) : s.WorkFrame (processRemote x s) := by
  unfold processRemote
  split
  · exact State.doWork_workFrame _ s
  · exact .refl s

theorem State.takeSlip_slipFrame {want : Slip → Bool} {f : Slip → State → State}
    (hf : ∀ (x : Slip) (s : State), s.WorkFrame (f x s)) (s : State) : s.SlipFrame (s.takeSlip want f) := by
  have hstays : s.SlipFrame s :=
    ⟨rfl, rfl, List.prefix_rfl, ⟨s.upc.sendQueue, rfl⟩, .inl rfl, fun _ _ => rfl⟩
  cases h : s.intake.slips with
  | nil => simpa only [State.takeSlip, h] using hstays
  | cons x rest =>
    cases hw : want x with
    | false => simpa only [State.takeSlip, h, hw, Bool.false_eq_true, if_false] using hstays
    | true =>
      rw [State.takeSlip_head h hw]
      obtain ⟨hpending, hintake, hclock, hout, hupc, -, htills⟩ := hf x (s.afterTaking rest)
      refine ⟨hpending, hclock, hout, hupc, .inr ⟨x, by rw [h, hintake]; rfl⟩, fun l d => ?_⟩
      have htill : (s.afterTaking rest).lines[l].tills[d] = s.lines[l].tills[d] := by
        simp only [State.afterTaking]
        split <;> simp
      rw [← htill]
      exact htills l d

theorem exec_slip_slipFrame {c : Instr} (hc : isSlipCommand c = true) (s : State) :
    ∃ t, exec c s = .next t ∧ s.SlipFrame t := by
  cases c with
  | order => exact ⟨_, rfl, State.takeSlip_slipFrame (processTill_workFrame _) s⟩
  | add => exact ⟨_, rfl, State.takeSlip_slipFrame (processTill_workFrame _) s⟩
  | split => exact ⟨_, rfl, State.takeSlip_slipFrame (processTill_workFrame _) s⟩
  | tender => exact ⟨_, rfl, State.takeSlip_slipFrame (processTill_workFrame _) s⟩
  | voidLine => exact ⟨_, rfl, State.takeSlip_slipFrame (processTill_workFrame _) s⟩
  | voidCheck => exact ⟨_, rfl, State.takeSlip_slipFrame (processTill_workFrame _) s⟩
  | query => exact ⟨_, rfl, State.takeSlip_slipFrame (processTill_workFrame _) s⟩
  | remoteOrderProcess => exact ⟨_, rfl, State.takeSlip_slipFrame processRemote_workFrame s⟩
  | unknownSlipKind => exact ⟨_, rfl, State.takeSlip_slipFrame (processTill_workFrame _) s⟩
  | _ => cases hc

/-- A command's one next state has what it is shown to have. -/
theorem of_exec_next {c : Instr} {s t : State} {p : State → Prop} (h : ∃ u, exec c s = .next u ∧ p u)
    (ht : exec c s = .next t) : p t := by
  obtain ⟨u, hu, hp⟩ := h
  obtain rfl := Host.Outcome.next.inj (hu.symm.trans ht)
  exact hp

/-- Settles O10. -/
theorem commandsKeepTheirFrames : Obligations.CommandsKeepTheirFrames := by
  refine ⟨fun c s t hc ht => of_exec_next (exec_work_workFrame hc s) ht, fun c s t hc ht => ?_, fun c s t hc ht => ?_⟩
  · exact State.RoutesTo.stationFrame (of_exec_next (exec_station_routesTo hc s) ht)
  · obtain ⟨hpending, hclock, hout, hupc, hslips, htills⟩ := of_exec_next (exec_slip_slipFrame hc s) ht
    exact ⟨hpending, hclock, hout, hupc, hslips, htills⟩

end Sys2Proof.Machine
end

section
/-! PROOFS. Every piece of work keeps the sizes and ranges of the blocks it may change: the Ticket Store, the recall
lists, the bad-frame counts, the ticket, record and pickup counters; and it leaves a drain burst as it is (R40, R101, R102,
R117, R123, R140). -/
namespace Sys2Proof.Machine

/-! ### The kitchen with room for so many tickets (R101, R106) -/

/-- The kitchen's sizes and ranges, with at most `n` tickets in the store. -/
structure Work.Fits (n : Nat) (w : Work) : Prop where
  size    : w.kr.tickets.length ≤ n
  rising  : Rising Ticket.number w.kr.tickets
  ctr     : w.kr.CtrFits
  recalls : ∀ st : StationId, w.kr.stations[st].recallL.length ≤ 8
  bad     : ∀ st : StationId, w.ports[st].badFrames ≤ 65535

theorem Work.Fits.mono {m n : Nat} {w : Work} (h : w.Fits m) (hmn : m ≤ n) : w.Fits n :=
  { h with size := h.size.trans hmn }

theorem Work.Fits.self {n : Nat} {w : Work} (h : w.Fits n) : w.Fits w.kr.tickets.length :=
  { h with size := le_rfl }

theorem Work.Fits.congr {n : Nat} {w v : Work} (h : w.Fits n) (hk : v.kr = w.kr) (hp : v.ports = w.ports) : v.Fits n where
  size := hk ▸ h.size
  rising := hk ▸ h.rising
  ctr := hk ▸ h.ctr
  recalls := hk ▸ h.recalls
  bad := hp ▸ h.bad

theorem Work.Routes.fits {n : Nat} {w v : Work} (h : w.Routes v) (hw : w.Fits n) : v.Fits n where
  size := (h.size hw.rising).trans hw.size
  rising := h.rising hw.rising
  ctr := h.ctr hw.ctr
  recalls := fun st => h.recalls st (hw.recalls st)
  bad := fun st => h.bad st (hw.bad st)

/-- A new ticket is one more at most. -/
theorem Work.Fits.putTicket {n : Nat} {w : Work} (h : w.Fits n) (t : Ticket) : (w.putTicket t).Fits (n + 1) where
  size := (putBy_length_le _ _ _).trans (Nat.succ_le_succ h.size)
  rising := putBy_rising t h.rising
  ctr := h.ctr
  recalls := h.recalls
  bad := h.bad

theorem Work.Fits.onCheck {n m : Nat} {w : Work} {f : Check → Check} (h : w.Fits n) : (w.onCheck m f).Fits n :=
  h.congr rfl rfl

theorem Work.Fits.makeNormal {n : Nat} {w : Work} (h : w.Fits n) (c : Check) (asm : Option (Nat × List Nat)) (k : Nat)
    (st : StationId) (g : List Line) : (w.makeNormal c asm k st g).Fits (n + 1) :=
  ((Work.queueNormal_routes k st _).fits (h.putTicket _)).onCheck

theorem Work.Fits.makeNormals {n : Nat} {w : Work} (h : w.Fits n) (c : Check) (asm : Option (Nat × List Nat))
    (xs : List (Nat × StationId × List Line)) :
    (xs.foldl (fun w x => w.makeNormal c asm x.1 x.2.1 x.2.2) w).Fits (n + xs.length) := by
  induction xs generalizing n w with
  | nil => exact h
  | cons x xs ih => exact (ih (h.makeNormal c asm x.1 x.2.1 x.2.2)).mono (by simp only [List.length_cons]; omega)

/-- A firing makes as many tickets as its plan has, at most (R105). -/
theorem Work.Fits.makeTickets {n : Nat} {w : Work} (h : w.Fits n) (c : Check) (p : Plan) :
    (w.makeTickets c p).Fits (n + p.size) := by
  have hzip (ns : List Nat) : (ns.zip p.normals).length ≤ p.normals.length := by
    rw [List.length_zip]
    exact Nat.min_le_right _ _
  have hnormals (asm : Option (Nat × List Nat)) (ns : List Nat) (v : Work) (hv : v.Fits n) :
      ((ns.zip p.normals).foldl (fun w x => w.makeNormal c asm x.1 x.2.1 x.2.2) v).Fits (n + p.normals.length) :=
    (hv.makeNormals c asm _).mono (Nat.add_le_add_left (hzip ns) n)
  have hnums := (w.takeNumbers_routes p.size).fits h
  unfold Work.makeTickets
  simp only
  split
  · rename_i x g a ls hasm hnum
    refine ((hnormals _ _ _ hnums).putTicket _).mono ?_
    simp only [Plan.size, hasm, Option.toList_some, List.length_singleton]
    omega
  · exact (hnormals _ _ _ hnums).mono (Nat.add_le_add_left (Nat.le_add_right _ _) n)

/-- VOID tickets are as many as their stations (R116). -/
theorem Work.Fits.makeVoids {n : Nat} {w : Work} (h : w.Fits n) (c : Check) (cs : List (StationId × Nat × Line))
    (sts : List StationId) : (sts.foldl (fun w st => w.makeVoid c cs st) w).Fits (n + sts.length) := by
  induction sts generalizing n w with
  | nil => exact h
  | cons st sts ih =>
    refine (ih (w := w.makeVoid c cs st) (n := n + 1) ?_).mono (by simp only [List.length_cons]; omega)
    exact (Work.queueVoid_routes _ st _).fits ((w.takeNumber_routes.fits h).putTicket _)

/-! ### What every piece of work keeps -/

/-- The record counter is a record number (R140). -/
def Journal.CtrFits (j : Journal) : Prop := 1 ≤ j.recordCtr ∧ j.recordCtr ≤ 4294967295

/-- The pickup counter of a stand is a pickup number (R40). -/
def Stand.CtrFits (d : Stand) : Prop := 1 ≤ d.pickup ∧ d.pickup ≤ 999

/-- A piece of work keeps the sizes and ranges of its blocks, and leaves a drain burst as it is. -/
structure Work.Within (w v : Work) : Prop where
  burst   : v.sj.burst = w.sj.burst := by rfl
  records : w.sj.CtrFits → v.sj.CtrFits := by exact id
  pickups : ∀ sd : StandId, w.ce.stands[sd].CtrFits → v.ce.stands[sd].CtrFits := by exact fun _ => id
  kitchen : w.Fits 1024 → v.Fits 1024 := by exact fun h => h.congr rfl rfl

theorem Work.Within.refl (w : Work) : w.Within w where

theorem Work.Within.trans {u v w : Work} (h : u.Within v) (h' : v.Within w) : u.Within w where
  burst := h'.burst.trans h.burst
  records := fun hr => h'.records (h.records hr)
  pickups := fun sd hp => h'.pickups sd (h.pickups sd hp)
  kitchen := fun hk => h'.kitchen (h.kitchen hk)

theorem Work.Within.foldl {α : Type} {f : Work → α → Work} (hf : ∀ (w : Work) x, w.Within (f w x)) (xs : List α)
    (w : Work) : w.Within (xs.foldl f w) := by
  induction xs generalizing w with
  | nil => exact .refl w
  | cons x xs ih => exact (hf w x).trans (ih _)

theorem Work.Within.ite {c : Prop} [Decidable c] {w u v : Work} (hu : w.Within u) (hv : w.Within v) :
    w.Within (if c then u else v) := by
  split
  · exact hu
  · exact hv

/-- Work in the kitchen alone keeps what stands outside it. -/
theorem Work.KitchenOnly.within {w v : Work} (h : w.KitchenOnly v) (hk : w.Fits 1024 → v.Fits 1024) : w.Within v where
  burst := by rw [h.sj]
  records := by rw [h.sj]; exact id
  pickups := by rw [h.ce]; exact fun _ => id
  kitchen := hk

theorem Work.Routes.within {w v : Work} (h : w.Routes v) : w.Within v := h.toKitchenOnly.within h.fits

/-! ### Changes that reach none of it -/

theorem Work.emit_within (e : Effect) (w : Work) : w.Within (w.emit e) where
theorem Work.raise_within (e : Event) (w : Work) : w.Within (w.raise e) where
theorem Work.emitAll_within (es : List Effect) (w : Work) : w.Within (es.foldl (fun w e => w.emit e) w) :=
  .foldl (fun w e => w.emit_within e) es w
theorem Work.raiseAll_within (es : List Event) (w : Work) : w.Within (w.raiseAll es) :=
  .foldl (fun w e => w.raise_within e) es w
theorem Work.onCheck_within (n : Nat) (f : Check → Check) (w : Work) : w.Within (w.onCheck n f) where
theorem Work.orphan_within (tags : List Nat) (w : Work) : w.Within (w.orphan tags) where
theorem Work.freeEntry_within (tag : Nat) (w : Work) : w.Within (w.freeEntry tag) where
theorem Work.takeTag_within (w : Work) : w.Within w.takeTag.2 where
theorem Work.release_within (w : Work) : w.Within w.release where

theorem Work.ItemsOnly.within {w v : Work} (h : w.ItemsOnly v) : w.Within v := by
  rw [h]
  exact {}

/-- A stand changed in all but its pickup counter. -/
theorem Work.onStand_within {sd : StandId} {f : Stand → Stand} {w : Work}
    (hf : (w.stand sd).CtrFits → (f (w.stand sd)).CtrFits := by exact id) : w.Within (w.onStand sd f) where
  pickups := modify_keeps (p := Stand.CtrFits) hf

/-! ### The journal (R140 to R144) -/

theorem Work.lowTest_within (w : Work) : w.Within w.lowTest := .ite {} (.refl w)

theorem Work.reserve_within {w v : Work} (h : w.reserve = some v) : w.Within v := by
  unfold Work.reserve at h
  split at h
  · cases h
    exact Work.Within.trans {} (Work.lowTest_within _)
  · cases h

theorem Work.append_within (b : RecordBody) (w : Work) : w.Within (w.append b) where
  records := fun _ => wrapNext_range (by decide) _

/-! ### Firings and the Fire Backlog (R45, R49, R105 to R108) -/

theorem Work.makeTickets_within {c : Check} {p : Plan} {w : Work} (h : w.hasRoom p = true) :
    w.Within (w.makeTickets c p) := by
  obtain ⟨f, hs⟩ := w.makeTickets_sends c p
  have hroom : w.kr.tickets.length + p.size ≤ 992 := of_decide_eq_true (Bool.and_eq_true_iff.1 h).1
  refine ⟨by rw [hs.sj], by rw [hs.sj]; exact id, by rw [hs.ce]; exact fun _ => id, fun hk => ?_⟩
  exact (hk.self.makeTickets c p).mono (by omega)

theorem Work.fire_within (n : Nat) (ls : List Nat) (w : Work) : w.Within (w.fire n ls) := by
  refine .ite (.refl w) ((w.onCheck_within n (Check.onLines (fun l => decide (l.index ∈ ls)) fun l =>
    { l with state := .firing })).trans ?_)
  simp only
  split
  · exact .refl _
  · split
    · rename_i h
      exact Work.makeTickets_within h.2
    · exact {}

theorem Work.tryBacklogFor_within (k : Nat) (w : Work) : w.Within (w.tryBacklogFor k) := by
  induction k generalizing w with
  | zero => exact .refl w
  | succ k ih =>
    unfold Work.tryBacklogFor
    split
    · exact .refl w
    · rename_i f rest hback
      split
      · exact .refl w
      · rename_i c hc
        simp only
        split
        · rename_i h
          exact Work.Within.trans (v := { w with ce := { w.ce with backlog := rest } }) {}
            ((Work.makeTickets_within (w := { w with ce := { w.ce with backlog := rest } }) h).trans (ih _))
        · exact .refl w

theorem Work.tryBacklog_within (w : Work) : w.Within w.tryBacklog := w.tryBacklogFor_within _

theorem Work.dropFromBacklog_within (n : Nat) (out : Nat → Bool) (w : Work) : w.Within (w.dropFromBacklog n out) := by
  unfold Work.dropFromBacklog
  exact .ite (Work.Within.trans (v := { w with ce := { w.ce with backlog := _ } }) {} (Work.tryBacklog_within _)) {}

/-! ### Voids in the kitchen (R113 to R116) -/

theorem Work.kitchenVoid_within {c : Check} {ls : List Line} {w v : Work} (h : w.kitchenVoid c ls = some v) :
    w.Within v := by
  refine (Work.kitchenVoid_kitchenOnly h).within fun hk => ?_
  unfold Work.kitchenVoid at h
  simp only at h
  split at h
  · rename_i hroom
    cases h
    have hlines := Work.Routes.foldl (f := fun w l => (w.voidOnNormal c l).voidOnAssembly c l)
      (fun w l => (w.voidOnNormal_routes c l).trans (Work.voidOnAssembly_routes c l _)) ls w
    have hsettled (ns : List Nat) := hlines.trans (Work.Routes.foldl (f := fun w n => w.settleAssembly none n)
      (fun w n => w.settleAssembly_routes none n) ns _)
    refine (((hsettled _).fits hk.self).makeVoids c _ _).mono ?_
    rcases hroom with hnone | ⟨hsize, -⟩
    · simpa [hnone] using hk.size
    · exact hsize
  · cases h

/-! ### Stock (R8) -/

theorem Work.setStock_within (i : Item) (k : Stock) (w : Work) : w.Within (w.setStock i k) :=
  (w.setStock_itemsOnly i k).within

theorem Work.takeStock_within (ls : List SlipLine) (w : Work) : w.Within (w.takeStock ls) := (w.takeStock_spec ls).1.within

theorem Work.returnStock_within (l : Line) (w : Work) : w.Within (w.returnStock l) := (w.returnStock_spec l).1.within

/-! ### READY, closure and payment (R54, R55, R64, R165) -/

theorem Work.leaveTable_within (n : Nat) (w : Work) : w.Within (w.leaveTable n) :=
  (w.mapTickets_routes (f := fun t => if t.check = some n then { t with check := none } else t) fun t => by
    split <;> rfl).within.trans {}

theorem Work.shut_within (sd : StandId) (w : Work) : w.Within (w.onStand sd Stand.shut) := Work.onStand_within

theorem Work.closeTest_within (sd : StandId) (w : Work) : w.Within (w.closeTest sd) :=
  .ite ((w.freeAll_routes _).within.trans ((Work.request_routes sd false _).within.trans
    ((Work.shut_within sd _).trans (Work.raise_within _ _)))) (.refl w)

theorem Work.closeCheck_within (c : Check) (w : Work) : w.Within (w.closeCheck c) :=
  (w.append_within _).trans ((Work.leaveTable_within _ _).trans (Work.closeTest_within _ _))

theorem Work.readyTest_within (n : Nat) (w : Work) : w.Within (w.readyTest n) := by
  unfold Work.readyTest
  split
  · exact .ite ((w.onCheck_within n _).trans (Work.emitAll_within _ _)) (.refl w)
  · exact .refl w

theorem Work.closureTest_within (n : Nat) (w : Work) : w.Within (w.closureTest n) := by
  unfold Work.closureTest
  split
  · exact .ite (w.closeCheck_within _) (.refl w)
  · exact .refl w

theorem Work.lineTests_within (n : Nat) (w : Work) : w.Within (w.lineTests n) :=
  (w.readyTest_within n).trans (Work.closureTest_within n _)

theorem Work.payments_within (n : Nat) (w : Work) : w.Within (w.payments n) := by
  refine (w.onCheck_within n fun c => { c with state := c.payState }).trans ?_
  unfold Work.payments
  simp only
  split
  · exact Work.Within.trans (.ite (Work.fire_within n _ _) (.refl _)) (Work.lineTests_within n _)
  · exact .refl _

theorem Work.fireAccepted_within (c : Check) (new : List Nat) (w : Work) : w.Within (w.fireAccepted c new) := by
  unfold Work.fireAccepted
  split
  · exact (w.fire_within _ new).trans (Work.lineTests_within _ _)
  · exact w.payments_within _

theorem Work.putCheck_within (d : Check) (w : Work) : w.Within (w.putCheck d) :=
  Work.Within.trans (v := { w with ce := { w.ce with
    checkCtr := wrapNext 9999 d.number, checks := putBy Check.number d w.ce.checks } }) {}
    (Work.onStand_within fun _ => wrapNext_range (by decide) _)

theorem Work.openCheck_within (sd : StandId) (o : Origin) (notify : Bool) (ls : List SlipLine) (prepaid : Bool)
    (w : Work) : w.Within (w.openCheck sd o notify ls prepaid).2 := by
  rw [Work.openCheck_eq]
  exact (w.takeStock_within ls).trans ((Work.putCheck_within _ _).trans (Work.fireAccepted_within _ _ _))

/-! ### A check voided (R50, R51) -/

theorem Work.voidCheckRest_within (n : Nat) (why : VoidReason) (w : Work) : w.Within (w.voidCheckRest n why).2 := by
  refine (w.dropFromBacklog_within n fun _ => true).trans ?_
  unfold Work.voidCheckRest
  simp only
  split
  · exact .refl _
  · rename_i c hc
    have hvoid := (Work.onCheck_within n (Check.onLines (fun l => decide (l.state ≠ .done)) fun l =>
      { l with state := .voided }) (w.dropFromBacklog n fun _ => true)).trans
      ((Work.Within.foldl (fun w l => w.returnStock_within l) c.voidable _).trans
        ((Work.orphan_within c.pendingTags _).trans
          (Work.onCheck_within n (fun c => { c with total := lineTotal c.lines }) _)))
    split
    · exact hvoid
    · exact hvoid.trans ((Work.append_within _ _).trans (Work.leaveTable_within _ _))

theorem Work.voidCheck_within {c : Check} {why : VoidReason} {w v : Work} {r : Nat × Nat}
    (h : w.voidCheck c why = some (r, v)) : w.Within v := by
  unfold Work.voidCheck at h
  split at h
  · cases h
  · rename_i u hu
    cases h
    exact (Work.kitchenVoid_within hu).trans ((Work.voidCheckRest_within _ why u).trans (Work.closeTest_within _ _))

/-! ### Authorizations (R90 to R99) -/

theorem Work.applyOutcome_within (e : AuthEntry) (o : AuthOutcome) (f : Share → Share) (w : Work) :
    w.Within (w.applyOutcome e o f) :=
  (w.onCheck_within _ _).trans ((Work.payments_within _ _).trans (Work.emitAll_within _ _))

theorem Work.settleLate_within (e : AuthEntry) (o : ExpiryOutcome) (v : Verdict) (w : Work) :
    w.Within (w.settleLate e o v) :=
  .ite (w.append_within _) w.release_within

theorem Work.answerNotLive_within (tag : Nat) (v : Verdict) (w : Work) : w.Within (w.answerNotLive tag v) := by
  unfold Work.answerNotLive
  split
  · exact Work.Within.trans (v := { w with tu := { w.tu with expired := _ } }) {} (Work.settleLate_within _ _ v _)
  · exact w.raise_within _

theorem Work.answerLive_within (e : AuthEntry) (v : Verdict) (w : Work) : w.Within (w.answerLive e v) := by
  have hend (u : Work) : u.Within (u.freeEntry e.tag).release := (u.freeEntry_within _).trans (Work.release_within _)
  cases v with
  | approve => exact (w.applyOutcome_within e _ _).trans (hend _)
  | decline => exact (w.applyOutcome_within e _ _).trans (hend _)

theorem Work.answerTaken_within (tag : Nat) (v : Verdict) (w : Work) : w.Within (w.answerTaken tag v) := by
  unfold Work.answerTaken
  split
  · exact .ite ((w.freeEntry_within tag).trans (Work.settleLate_within _ _ v _)) (w.answerLive_within _ v)
  · exact w.answerNotLive_within tag v

theorem Work.answerArrives_within (tag : Nat) (v : Verdict) (w : Work) : w.Within (w.answerArrives tag v) :=
  .ite {} (w.answerNotLive_within tag v)

theorem Work.dropOldest_within (w : Work) : w.Within w.dropOldest := by
  unfold Work.dropOldest
  split
  · exact .refl w
  · exact Work.Within.trans (v := { w with tu := { w.tu with expired := _ } }) {} (Work.release_within _)

theorem Work.joinExpired_within (e : AuthEntry) (o : ExpiryOutcome) (w : Work) : w.Within (w.joinExpired e o) :=
  Work.Within.trans (v := if expiredSize ≤ w.tu.expired.length then w.dropOldest else w)
    (.ite w.dropOldest_within (.refl w)) {}

theorem Work.expire_within (e : AuthEntry) (w : Work) : w.Within (w.expire e) := by
  have hend (u : Work) (o : ExpiryOutcome) : u.Within ((u.freeEntry e.tag).joinExpired e o) :=
    (u.freeEntry_within _).trans (Work.joinExpired_within e o _)
  unfold Work.expire
  cases w.outcomeOf e with
  | voided => exact hend w _
  | deferred => exact (w.applyOutcome_within e _ _).trans (hend _ _)
  | removed => exact (w.applyOutcome_within e _ _).trans (hend _ _)

theorem Work.dropLate_within (n : Nat) (w : Work) : w.Within (w.dropLate n) := by
  induction n generalizing w with
  | zero => exact .refl w
  | succ n ih =>
    unfold Work.dropLate
    split
    · exact .ite (w.dropOldest_within.trans (ih _)) (.refl w)
    · exact .refl w

/-! ### Completions and recalls (R110 to R112, R118) -/

theorem Work.complete_within (t : Ticket) (via : Via) (w : Work) : w.Within (w.complete t via) := by
  have hcooked : w.Within (match w.checkOf t with
      | some c => w.onCheck c.number fun d => { d with lines := d.lines.map (w.completeLine t c) }
      | none => w) := by
    split
    · exact w.onCheck_within _ _
    · exact .refl w
  have hsettled (u : Work) : u.Within (match t.assembly with
      | some a => u.settleAssembly (some t.number) a
      | none => u) := by
    split
    · exact (u.settleAssembly_routes _ _).within
    · exact .refl u
  have hleft (u : Work) : u.Within (match via with
      | .slot _ => u.freeTicket t.number
      | .bump => u.enterRecall t.number t) := by
    split
    · exact (u.freeTicket_routes _).within
    · exact (u.enterRecall_routes _ t).within
  have hdone := hcooked.trans ((hsettled _).trans (hleft _))
  unfold Work.complete
  simp only
  split
  · rename_i c hc
    rw [hc] at hdone
    exact hdone.trans (Work.lineTests_within _ _)
  · rename_i hc
    rw [hc] at hdone
    exact hdone

theorem Work.completionTaken_within (o : CompletionOffer) (w : Work) : w.Within (w.completionTaken o) := by
  unfold Work.completionTaken
  split
  · exact .ite (w.complete_within _ _) (.refl w)
  · exact .refl w

theorem Work.reopen_within (t : Ticket) (c : Check) (w : Work) : w.Within (w.reopen t c) := by
  have hsettled (u : Work) : u.Within (match t.assembly with
      | some a => u.settleAssembly none a
      | none => u) := by
    split
    · exact (u.settleAssembly_routes _ _).within
    · exact .refl u
  exact (w.show_routes _ _).within.trans ((Work.onCheck_within _ _ _).trans
    ((hsettled _).trans (Work.lineTests_within _ _)))

theorem Work.recallTaken_within (o : RecallOffer) (w : Work) : w.Within (w.recallTaken o) := by
  unfold Work.recallTaken
  split
  · refine .ite ?_ (.refl w)
    split
    · exact .ite (w.reopen_within _ _) (w.remake_routes _ _).within
    · exact (w.remake_routes _ _).within
  · exact .refl w

/-! ### Closing stands (R164 to R167) -/

theorem Work.closeTimeout_within (sd : StandId) (w : Work) : w.Within (w.closeTimeout sd) :=
  (w.raise_within _).trans Work.onStand_within

theorem Work.forceShut_within (sd : StandId) (w : Work) : w.Within (w.forceShut sd) := by
  refine (Work.Within.foldl (f := fun w n => (w.voidCheckRest n .forced).2)
    (fun w n => w.voidCheckRest_within n .forced) (w.checksOf sd) w).trans ?_
  exact (Work.freeAll_routes _ _).within.trans ((Work.Routes.foldl (fun w st => w.divertTest_routes st) _ _).within.trans
    ((Work.request_routes sd false _).within.trans ((Work.shut_within sd _).trans (Work.raise_within _ _))))

end Sys2Proof.Machine
end

section
/-! PROOFS. Slips and control blocks that are one piece of work keep the sizes and ranges of their blocks (chapters 1, 3
to 5, 7, 8, 10). -/
namespace Sys2Proof.Machine

/-! ### Slips (R41 to R59, R66 to R87) -/

theorem orderSlip_within (t : TillId) (till : Till) (content : List Byte) (w : Work) :
    w.Within (orderSlip t till content w).2 := by
  unfold orderSlip
  split
  · exact .refl w
  · split
    · exact .refl w
    · split
      · exact .refl w
      · split
        · exact .refl w
        · rename_i v hv
          exact (Work.reserve_within hv).trans (Work.openCheck_within _ _ _ _ _ v)

theorem Work.addLines_within (c : Check) (ls : List SlipLine) (w : Work) : w.Within (w.addLines c ls) :=
  (w.takeStock_within ls).trans ((Work.onCheck_within _ _ _).trans (Work.fireAccepted_within _ _ _))

theorem addSlip_within (t : TillId) (till : Till) (content : List Byte) (w : Work) :
    w.Within (addSlip t till content w).2 := by
  unfold addSlip
  split
  · exact .refl w
  · split
    · exact .refl w
    · split
      · exact .refl w
      · exact w.addLines_within _ _

theorem splitSlip_within (t : TillId) (till : Till) (content : List Byte) (w : Work) :
    w.Within (splitSlip t till content w).2 := by
  unfold splitSlip
  split
  · exact .refl w
  · split
    · exact .refl w
    · split
      · exact .refl w
      · exact (w.onCheck_within _ _).trans (Work.payments_within _ _)

theorem Work.takeTender_within (c : Check) (s : Share) (t : Tender) (change : Nat) (f : Share → Share) (w : Work) :
    w.Within (w.takeTender c s t change f).2 :=
  (w.onCheck_within _ _).trans (Work.payments_within _ _)

theorem Work.beginAuth_within (t : TillId) (c : Check) (s : Share) (amount : Nat) (w : Work) :
    w.Within (w.beginAuth t c s amount).2 where

theorem Work.cardTender_within (t : TillId) (c : Check) (s : Share) (amount : Nat) (w : Work) :
    w.Within (w.cardTender t c s amount).2 := by
  unfold Work.cardTender
  split
  · split
    · exact .refl w
    · split
      · exact .refl w
      · rename_i v hv
        exact (Work.reserve_within hv).trans (v.beginAuth_within t c s amount)
  · split
    · exact .refl w
    · exact w.takeTag_within.trans (Work.takeTender_within _ _ _ _ _ _)

theorem tenderSlip_within (t : TillId) (till : Till) (content : List Byte) (w : Work) :
    w.Within (tenderSlip t till content w).2 := by
  unfold tenderSlip
  split
  · exact .refl w
  · split
    · exact .refl w
    · split
      · exact .refl w
      · split
        · exact .refl w
        · split
          · exact w.cardTender_within _ _ _ _
          · exact w.takeTender_within _ _ _ _ _

theorem Work.voidLine_within (c : Check) (l : Line) (w : Work) : w.Within (w.voidLine c l) := by
  have hback : w.Within (if l.state = .firing then w.dropFromBacklog c.number (fun i => i == l.index) else w) :=
    .ite (w.dropFromBacklog_within _ _) (.refl w)
  exact hback.trans ((Work.onCheck_within _ _ _).trans ((Work.returnStock_within l _).trans
    ((Work.onCheck_within _ _ _).trans (Work.payments_within _ _))))

theorem Work.voidStart_within {c : Check} {l : Line} {w v : Work} (h : w.voidStart c l = some v) : w.Within v := by
  unfold Work.voidStart at h
  split at h
  · exact Work.kitchenVoid_within h
  · cases h
    exact .refl w

theorem voidLineSlip_within (t : TillId) (till : Till) (content : List Byte) (w : Work) :
    w.Within (voidLineSlip t till content w).2 := by
  unfold voidLineSlip
  split
  · exact .refl w
  · split
    · exact .refl w
    · split
      · exact .refl w
      · split
        · exact .refl w
        · split
          · exact .refl w
          · split
            · exact .refl w
            · split
              · exact .refl w
              · rename_i v hv
                exact (Work.voidStart_within hv).trans (v.voidLine_within _ _)

theorem voidCheckSlip_within (t : TillId) (till : Till) (content : List Byte) (w : Work) :
    w.Within (voidCheckSlip t till content w).2 := by
  unfold voidCheckSlip
  split
  · exact .refl w
  · split
    · exact .refl w
    · split
      · exact .refl w
      · split
        · exact .refl w
        · rename_i r v hv
          exact Work.voidCheck_within hv

theorem querySlip_within (t : TillId) (till : Till) (content : List Byte) (w : Work) :
    w.Within (querySlip t till content w).2 := by
  unfold querySlip
  split
  · exact .refl w
  · split <;> exact .refl w

theorem remoteOrder_within (ref : Nat) (content : List Byte) (w : Work) :
    w.Within (remoteOrder ref content w).2 := by
  unfold remoteOrder
  split
  · exact .refl w
  · split
    · exact .refl w
    · split
      · exact .refl w
      · split
        · exact .refl w
        · split
          · exact .refl w
          · rename_i v hv
            exact (Work.reserve_within hv).trans (Work.openCheck_within _ _ _ _ _ v)

/-! ### Tables (R2 to R17) -/

theorem Work.putItem_within {i : Item} {w v : Work} (h : w.putItem i = some v) : w.Within v := by
  unfold Work.putItem at h
  split at h
  · cases h
    exact Work.Within.trans (v := { w with ce := { w.ce with items := _ } }) {} (Work.raiseAll_within _ _)
  · split at h
    · cases h
      exact {}
    · cases h

theorem loadItemsFrom_within (applied : Nat) (os : List ItemOperand) (w : Work) :
    w.Within (loadItemsFrom applied os w).2 := by
  induction os generalizing applied w with
  | nil => exact .refl w
  | cons o os ih =>
    unfold loadItemsFrom
    split
    · exact .refl w
    · split
      · exact .refl w
      · rename_i v hv
        exact (Work.putItem_within hv).trans (ih _ v)

theorem loadItems_within (os : List ItemOperand) (w : Work) : w.Within (loadItems os w).2 := by
  unfold loadItems
  split
  · exact .refl w
  · exact loadItemsFrom_within 0 os w

theorem deleteItems_within (cs : List Nat) (w : Work) : w.Within (deleteItems cs w).2 := by
  unfold deleteItems
  split
  · exact .refl w
  · change w.Within (deleteFrom 1 cs (0, 0, none) w).2
    rw [(deleteFrom_eq cs 1 0 0 none w).1]
    exact {}

theorem readItem_within (code : Nat) (w : Work) : w.Within (readItem code w).2 := by
  unfold readItem
  split
  · exact .refl w
  · split <;> exact .refl w

theorem setStock_within (code value : Nat) (w : Work) : w.Within (setStock code value w).2 := by
  unfold setStock
  split
  · exact .refl w
  · split
    · exact .refl w
    · split
      · exact .refl w
      · exact w.setStock_within _ _

theorem loadStand_within (sd policy expo floor : Nat) (w : Work) : w.Within (loadStand sd policy expo floor w).2 := by
  unfold loadStand
  split
  · split
    · exact .refl w
    · split
      · exact .refl w
      · split
        · exact .refl w
        · exact Work.onStand_within
  · exact .refl w

theorem Work.applyStation_routes (st : StationId) (c : StationCfg) (w : Work) : w.Routes (w.applyStation st c) :=
  Work.Routes.trans (v := w.onStation st fun s => { s with cfg := c }) Work.onStation_routes
    (.ite (Work.Routes.trans Work.onPort_routes (Work.emit_routes rfl _)) (Work.divertTest_routes st _))

theorem loadStation_within (o : StationOperand) (w : Work) : w.Within (loadStation o w).2 := by
  unfold loadStation
  split
  · exact .refl w
  · split
    · exact .refl w
    · split
      · exact .refl w
      · exact (w.applyStation_routes _ _).within

/-! ### Checks, authorizations, stations, the journal and stands, as the host sets them -/

theorem queryCheck_within (n : Nat) (w : Work) : w.Within (queryCheck n w).2 := by
  unfold queryCheck
  split
  · exact .refl w
  · split <;> exact .refl w

theorem voidCheckBlock_within (n : Nat) (w : Work) : w.Within (voidCheckBlock n w).2 := by
  unfold voidCheckBlock
  split
  · exact .refl w
  · split
    · exact .refl w
    · split
      · exact .refl w
      · rename_i r v hv
        exact Work.voidCheck_within hv

theorem setAuthTimes_within (wait window : Nat) (w : Work) : w.Within (setAuthTimes wait window w).2 := by
  unfold setAuthTimes
  split
  · exact .refl w
  · split
    · exact .refl w
    · exact Work.Within.trans (v := { w with tu := { w.tu with authWait := wait, lateWindow := window } }) {}
        (Work.dropLate_within _ _)

theorem stationControl_within (station action : Nat) (w : Work) : w.Within (stationControl station action w).2 := by
  unfold stationControl
  split
  · split
    · exact (w.act_routes _ _).within
    · exact .refl w
  · exact .refl w

theorem setJournalWarning_within (level : Nat) (w : Work) : w.Within (setJournalWarning level w).2 := by
  unfold setJournalWarning
  split
  · exact .refl w
  · exact Work.Within.trans (v := { w with sj := { w.sj with warnLevel := level } }) {}
      ((Work.lowTest_within _).trans {})

theorem openStand_within (n : Nat) (w : Work) : w.Within (openStand n w).2 := by
  unfold openStand
  split
  · exact .refl w
  · split
    · exact Work.Within.trans Work.onStand_within (Work.request_routes _ false _).within
    · exact .refl w

theorem closeStand_within (n deadline force : Nat) (w : Work) : w.Within (closeStand n deadline force w).2 := by
  unfold closeStand
  split
  · split
    · exact .refl w
    · split
      · exact Work.Within.trans Work.onStand_within ((Work.request_routes _ true _).within.trans
          (Work.closeTest_within _ _))
      · exact Work.onStand_within
      · exact .refl w
      · exact .refl w
  · exact .refl w

end Sys2Proof.Machine
end

section
/-! PROOFS. What every step keeps, block by block: sizes and ranges, the pause state, released drivers, a quiet STARTING
part; and the operations that all commands share keep it (R20, R25, R31 to R36, R151 to R158, R168, R169). -/
namespace Sys2Proof.Machine

/-! ### The invariants, block by block -/

/-- The uplink's queues within their sizes, its settings and its progress within their ranges (R151, R152, R154, R155). -/
structure Uplink.Fits (u : Uplink) : Prop where
  queue      : u.sendQueue.length ≤ 64
  waiting    : u.waiting.length ≤ 4
  limit      : 2 ≤ u.limit ∧ u.limit ≤ 30
  needed     : 1 ≤ u.needed ∧ u.needed ≤ 64
  progress   : u.progress ≤ 64
  recovering : u.state = .recovering → u.progress < u.needed

/-- A till line's counts within their ranges, its notice queues within their size (R25, R31, R36). -/
structure TillLine.Fits (l : TillLine) : Prop where
  round   : l.round ≤ 15
  notices : ∀ d : DropId, l.tills[d].notices.length ≤ 4
  misses  : ∀ d : DropId, l.tills[d].misses ≤ 3

/-- The pause state of an intake agrees with its marks (R33, R35). -/
def Intake.Matches (i : Intake) : Prop :=
  i.low < i.high ∧ (i.paused = false → i.slips.length < i.high) ∧ (i.paused = true → i.low < i.slips.length)

/-- One state after another, with every block's sizes and ranges, the pause state, released drivers and a quiet STARTING
part kept. -/
structure State.Keeps (s t : State) : Prop where
  intake   : s.intake.slips.length ≤ 64 → t.intake.slips.length ≤ 64 := by exact id
  pause    : s.intake.Matches → t.intake.Matches := by exact id
  uplink   : s.upc.Fits → t.upc.Fits := by exact id
  clock    : s.clock.secs ≤ 86399 → t.clock.secs ≤ 86399 := by exact id
  records  : s.sj.CtrFits → t.sj.CtrFits := by exact id
  pickups  : ∀ sd : StandId, s.ce.stands[sd].CtrFits → t.ce.stands[sd].CtrFits := by exact fun _ => id
  kitchen  : s.work.Fits 1024 → t.work.Fits 1024 := by exact fun h => h.congr rfl rfl
  lines    : ∀ l : LineId, s.lines[l].Fits → t.lines[l].Fits := by exact fun _ => id
  drivers  : ∀ l : LineId, s.lines[l].driver = false → t.lines[l].driver = false := by exact fun _ => id
  starting : s.StartingQuiet → t.StartingQuiet := by exact id

theorem State.Keeps.refl (s : State) : s.Keeps s where

theorem State.Keeps.trans {s t u : State} (h : s.Keeps t) (h' : t.Keeps u) : s.Keeps u where
  intake := fun x => h'.intake (h.intake x)
  pause := fun x => h'.pause (h.pause x)
  uplink := fun x => h'.uplink (h.uplink x)
  clock := fun x => h'.clock (h.clock x)
  records := fun x => h'.records (h.records x)
  pickups := fun sd x => h'.pickups sd (h.pickups sd x)
  kitchen := fun x => h'.kitchen (h.kitchen x)
  lines := fun l x => h'.lines l (h.lines l x)
  drivers := fun l x => h'.drivers l (h.drivers l x)
  starting := fun x => h'.starting (h.starting x)

theorem State.Keeps.ite {c : Prop} [Decidable c] {s t u : State} (ht : s.Keeps t) (hu : s.Keeps u) :
    s.Keeps (if c then t else u) := by
  split
  · exact ht
  · exact hu

/-- A part at work is not a quiet STARTING one. -/
def State.Active (s : State) : Prop := s.StartingQuiet → s.upc.part ≠ .starting

theorem State.Active.of_part {s : State} (h : s.upc.part ≠ .starting) : s.Active := fun _ => h

theorem State.Active.of_run {s : State} {r : Run} (h : s.upc.run = some r) : s.Active := fun hq hp => by
  obtain ⟨-, -, hrun, -⟩ := hq hp
  cases hrun.symm.trans h

theorem State.Active.of_waiting {s : State} {x : Waiting} {rest : List Waiting} (h : s.upc.waiting = x :: rest) :
    s.Active := fun hq hp => by
  obtain ⟨-, -, -, hwaiting, -⟩ := hq hp
  cases hwaiting.symm.trans h

theorem State.Active.of_slips {s : State} {x : Slip} {rest : List Slip} (h : s.intake.slips = x :: rest) :
    s.Active := fun hq hp => by
  obtain ⟨-, -, -, -, hslips, -⟩ := hq hp
  cases hslips.symm.trans h

theorem State.Active.of_burst {s : State} {b : Burst} (h : s.sj.burst = some b) : s.Active := fun hq hp => by
  obtain ⟨-, -, -, -, -, hburst, -⟩ := hq hp
  cases hburst.symm.trans h

theorem State.Active.of_call {s : State} {l : LineId} {c : Call} (h : s.lines[l].call = some c) : s.Active :=
  fun hq hp => by
    obtain ⟨-, -, -, -, -, -, hcall⟩ := hq hp
    cases (hcall l).symm.trans h

/-- What a part at work does, its part state kept, ends in no STARTING part. -/
theorem State.Active.starting {s t : State} (h : s.Active) (hp : t.upc.part = s.upc.part) :
    s.StartingQuiet → t.StartingQuiet :=
  fun hq he => absurd (hp.symm.trans he) (h hq)

/-- QueuesBounded, block by block. -/
theorem State.queuesBounded_iff (s : State) : s.QueuesBounded ↔
    s.intake.slips.length ≤ 64 ∧ s.upc.Fits ∧ s.clock.secs ≤ 86399 ∧ s.sj.CtrFits ∧
      (∀ sd : StandId, s.ce.stands[sd].CtrFits) ∧ s.work.Fits 1024 ∧ ∀ l : LineId, s.lines[l].Fits := by
  constructor
  · rintro ⟨hslips, hqueue, hwaiting, hsize, hrising, hclock, hl1, hl2, hn1, hn2, hprogress, hrec, ht1, ht2, hr1, hr2,
      hstands, hstations, hround, htills⟩
    exact ⟨hslips, ⟨hqueue, hwaiting, ⟨hl1, hl2⟩, ⟨hn1, hn2⟩, hprogress, hrec⟩, hclock, ⟨hr1, hr2⟩, hstands,
      ⟨hsize, hrising, ⟨ht1, ht2⟩, fun st => (hstations st).1, fun st => (hstations st).2⟩,
      fun l => ⟨hround l, fun d => (htills l d).1, fun d => (htills l d).2⟩⟩
  · rintro ⟨hslips, hu, hclock, ⟨hr1, hr2⟩, hstands, hk, hlines⟩
    exact ⟨hslips, hu.queue, hu.waiting, hk.size, hk.rising, hclock, hu.limit.1, hu.limit.2, hu.needed.1, hu.needed.2,
      hu.progress, hu.recovering, hk.ctr.1, hk.ctr.2, hr1, hr2, hstands, fun st => ⟨hk.recalls st, hk.bad st⟩,
      fun l => (hlines l).round, fun l d => ⟨(hlines l).notices d, (hlines l).misses d⟩⟩

theorem State.Keeps.queuesBounded {s t : State} (h : s.Keeps t) (hs : s.QueuesBounded) : t.QueuesBounded := by
  obtain ⟨hslips, hu, hclock, hr, hstands, hk, hlines⟩ := s.queuesBounded_iff.1 hs
  exact t.queuesBounded_iff.2 ⟨h.intake hslips, h.uplink hu, h.clock hclock, h.records hr,
    fun sd => h.pickups sd (hstands sd), h.kitchen hk, fun l => h.lines l (hlines l)⟩

/-! ### Sending and the uplink (R151, R152, R159, R171) -/

theorem State.handOver_keeps (b : OutBody) (s : State) : s.Keeps (s.handOver b) := by
  have hbound := State.handOver_bound b s
  obtain ⟨q, h⟩ := State.handOver_frame b s
  rw [h] at hbound ⊢
  exact { uplink := fun hu => { hu with queue := hbound hu.queue } }

theorem State.raise_keeps (e : Event) (s : State) : s.Keeps (s.raise e) := .ite (s.handOver_keeps _) (.refl s)

theorem State.send_keeps (o : Output) (s : State) : s.Keeps (s.send o) where

theorem State.hello_keeps (k : ResetKind) (s : State) : s.Keeps (s.hello k) :=
  .ite (s.handOver_keeps _) { uplink := fun hu => { hu with } }

theorem State.reply_keeps (r : Result) (bs : List ReplyBlock) (s : State) : s.Keeps (s.reply r bs) := s.handOver_keeps _

/-- The online test ends a recovery that has reached its count (R152, R154). -/
theorem State.onlineTest_fits {s : State} (hqueue : s.upc.sendQueue.length ≤ 64) (hwaiting : s.upc.waiting.length ≤ 4)
    (hlimit : 2 ≤ s.upc.limit ∧ s.upc.limit ≤ 30) (hneeded : 1 ≤ s.upc.needed ∧ s.upc.needed ≤ 64)
    (hprogress : s.upc.progress ≤ 64) : s.onlineTest.upc.Fits := by
  unfold State.onlineTest
  split
  · exact (State.raise_keeps _ _).uplink ⟨hqueue, hwaiting, hlimit, hneeded, hprogress, fun h => nomatch h⟩
  · rename_i h
    exact ⟨hqueue, hwaiting, hlimit, hneeded, hprogress, fun hr => by
      by_contra hn
      exact h ⟨hr, by omega⟩⟩

theorem State.loseUplink_keeps (s : State) : s.Keeps s.loseUplink where
  uplink := fun hu => { hu with progress := Nat.zero_le _, recovering := fun h => nomatch h }
  starting := fun hq hp => by
    obtain ⟨-, hrest⟩ := hq hp
    exact ⟨rfl, hrest⟩

theorem State.countEnvelope_fits {s : State} (hu : s.upc.Fits) : s.countEnvelope.upc.Fits := by
  unfold State.countEnvelope
  split
  · exact State.onlineTest_fits hu.queue hu.waiting hu.limit hu.needed (show 1 ≤ 64 by decide)
  · rename_i hr
    have := hu.recovering hr
    have := hu.needed.2
    exact State.onlineTest_fits hu.queue hu.waiting hu.limit hu.needed (show s.upc.progress + 1 ≤ 64 by omega)
  · exact { hu with }

theorem State.countEnvelope_keeps {s : State} (h : s.Active) : s.Keeps s.countEnvelope := by
  have hfits := State.countEnvelope_fits (s := s)
  obtain ⟨x, p, q, hcount⟩ := s.countEnvelope_frame
  rw [hcount] at hfits ⊢
  exact { uplink := hfits, starting := h.starting rfl }

/-! ### A piece of work carried out (R41) -/

theorem Till.SameButNotices.misses {t u : Till} (h : t.SameButNotices u) : u.misses = t.misses := by
  rw [← h]

theorem TillLine.Posted.fits {l m : TillLine} (h : l.Posted m) (hl : l.Fits) : m.Fits where
  round := by
    rw [h.line]
    exact hl.round
  notices := fun d => h.bound d (hl.notices d)
  misses := fun d => by
    rw [(h.till d).misses]
    exact hl.misses d

theorem State.commit_keeps {s : State} {w : Work} (h : s.work.Within w) : s.Keeps (s.commit w) := by
  obtain ⟨q, hupc⟩ := State.commit_upc w s
  have hqueue := State.commit_queue_bound w s
  have hdriver (l : LineId) : (s.commit w).lines[l].driver = s.lines[l].driver := by
    rw [(State.commit_posted w s l).line]
  have hcall (l : LineId) : (s.commit w).lines[l].call = s.lines[l].call := by
    rw [(State.commit_posted w s l).line]
  refine ⟨?_, ?_, fun hu => ?_, ?_, ?_, ?_, fun hk => ?_, fun l => (State.commit_posted w s l).fits, fun l => ?_,
    fun hq hp => ?_⟩
  · rw [State.commit_intake]; exact id
  · rw [State.commit_intake]; exact id
  · have hbound := hqueue hu.queue
    rw [hupc] at hbound ⊢
    exact { hu with queue := hbound }
  · rw [State.commit_clock]; exact id
  · rw [State.commit_sj]; exact h.records
  · rw [State.commit_ce]; exact h.pickups
  · exact (h.kitchen hk).congr (State.commit_kr w s) (State.commit_ports w s)
  · rw [hdriver]; exact id
  · rw [hupc] at hp
    obtain ⟨hstate, hsilence, hrun, hwaiting, hslips, hburst, hcalls⟩ := hq hp
    rw [hupc, State.commit_intake, State.commit_sj]
    exact ⟨hstate, hsilence, hrun, hwaiting, hslips, h.burst.trans hburst, fun l => (hcall l).trans (hcalls l)⟩

theorem State.doWork_keeps {s : State} {f : Work → Work} (h : s.work.Within (f s.work)) : s.Keeps (s.doWork f) :=
  State.commit_keeps h

/-! ### One till line (R25, R26, R31) -/

/-- A change of one line, and what is logged with it. -/
theorem State.setLine_keeps {s : State} {l : LineId} {f : TillLine → TillLine} {o : List Output}
    (hfits : s.lines[l].Fits → (f s.lines[l]).Fits)
    (hdriver : s.lines[l].driver = false → (f s.lines[l]).driver = false)
    (hcall : s.upc.part = .starting → s.lines[l].call = none → (f s.lines[l]).call = none) :
    s.Keeps { s with lines := modify s.lines l f, out := o } where
  lines := modify_keeps (p := TillLine.Fits) hfits
  drivers := modify_keeps (p := fun t : TillLine => t.driver = false) hdriver
  starting := fun hq hp => by
    obtain ⟨hstate, hsilence, hrun, hwaiting, hslips, hburst, hcalls⟩ := hq hp
    exact ⟨hstate, hsilence, hrun, hwaiting, hslips, hburst,
      fun k => modify_keeps (p := fun t : TillLine => t.call = none) (hcall hp) k (hcalls k)⟩

/-- A change of the tills of a line keeps what it keeps of each till. -/
theorem TillLine.onTill_fits {l : TillLine} {d : DropId} {f : Till → Till}
    (hnotices : l.tills[d].notices.length ≤ 4 → (f l.tills[d]).notices.length ≤ 4 := by exact id)
    (hmisses : l.tills[d].misses ≤ 3 → (f l.tills[d]).misses ≤ 3 := by exact id) (h : l.Fits) : (l.onTill d f).Fits where
  round := h.round
  notices := fun e => modify_keeps (p := fun t : Till => t.notices.length ≤ 4) hnotices e (h.notices e)
  misses := fun e => modify_keeps (p := fun t : Till => t.misses ≤ 3) hmisses e (h.misses e)

theorem TillLine.calm_fits {l : TillLine} (h : l.Fits) : l.calm.Fits where
  round := h.round
  notices := fun d => by
    rw [TillLine.calm_till]
    exact h.notices d
  misses := fun d => by
    rw [TillLine.calm_till]
    exact Nat.zero_le _

theorem TillLine.nextRound_fits {l : TillLine} (h : l.Fits) : l.nextRound.Fits := by
  refine { h with round := ?_ }
  rw [TillLine.nextRound_eq]
  simp only
  split <;> omega

theorem TillLine.closeRound_fits {l : TillLine} (h : l.Fits) : l.closeRound.Fits := by
  unfold TillLine.closeRound
  split
  · exact TillLine.nextRound_fits h
  · exact h

theorem TillLine.hear_fits {l : TillLine} (d : DropId) (h : l.Fits) : (l.onTill d Till.hear).Fits :=
  TillLine.onTill_fits (hnotices := fun hn => (List.tail_sublist _).length_le.trans hn) (h := h)

theorem TillLine.load_fits {on : Bool} {rate window turn : Nat} {l : TillLine} (h : l.Fits) :
    (l.load on rate window turn).Fits := by
  unfold TillLine.load
  simp only
  split
  · exact ⟨Nat.zero_le _, h.notices, h.misses⟩
  · split
    · exact TillLine.calm_fits ⟨h.round, h.notices, h.misses⟩
    · exact ⟨h.round, h.notices, h.misses⟩

/-! ### The intake and its pause (R32 to R35) -/

/-- The intake changed, and walk positions with it. -/
theorem State.setIntake_keeps {s : State} {i : Intake} {v : Vector TillLine 4}
    (hlen : s.intake.slips.length ≤ 64 → i.slips.length ≤ 64) (hpause : s.intake.Matches → i.Matches)
    (hslips : s.upc.part = .starting → s.StartingQuiet → i.slips = [])
    (hv : ∀ l : LineId, v[l] = { s.lines[l] with walkPos := v[l].walkPos }) :
    s.Keeps { s with intake := i, lines := v } where
  intake := hlen
  pause := hpause
  lines := fun l h => by
    change v[l].Fits
    rw [hv]
    exact ⟨h.round, h.notices, h.misses⟩
  drivers := fun l h => by
    change v[l].driver = false
    rw [hv]
    exact h
  starting := fun hq hp => by
    obtain ⟨hstate, hsilence, hrun, hwaiting, -, hburst, hcalls⟩ := hq hp
    refine ⟨hstate, hsilence, hrun, hwaiting, hslips hp hq, hburst, fun l => ?_⟩
    change v[l].call = none
    rw [hv]
    exact hcalls l

/-- Taking a slip ends a pause where it leaves no more than the low mark (R33). -/
theorem Intake.Matches.take {i : Intake} {x : Slip} {rest : List Slip} (h : i.Matches) (hx : i.slips = x :: rest) :
    Intake.Matches { i with slips := rest, paused := i.pausedAtTake rest.length } := by
  obtain ⟨hmarks, hgo, hstop⟩ := h
  have hlen : i.slips.length = rest.length + 1 := by rw [hx]; rfl
  refine ⟨hmarks, fun hp => ?_, fun hp => ?_⟩
  · change rest.length < i.high
    cases hpaused : i.paused with
    | false =>
      have := hgo hpaused
      omega
    | true =>
      have : ¬ i.low < rest.length := by simpa [Intake.pausedAtTake, hpaused] using hp
      omega
  · change i.low < rest.length
    exact of_decide_eq_true (Bool.and_eq_true_iff.1 hp).2

/-- A slip that joins begins a pause where it brings the intake to the high mark (R33). -/
theorem Intake.Matches.join {i : Intake} (h : i.Matches) (x : Slip) :
    Intake.Matches { i with
      slips := i.slips ++ [x], paused := i.paused || decide (i.high ≤ i.slips.length + 1) } := by
  obtain ⟨hmarks, -, hstop⟩ := h
  have hlen : (i.slips ++ [x]).length = i.slips.length + 1 := by simp
  refine ⟨hmarks, fun hp => ?_, fun hp => ?_⟩
  · have := of_decide_eq_false (Bool.or_eq_false_iff.1 hp).2
    simp only [hlen]
    omega
  · simp only [hlen]
    rcases Bool.or_eq_true_iff.1 hp with hpaused | hhigh
    · have := hstop hpaused
      omega
    · have := of_decide_eq_true hhigh
      omega

theorem State.afterTaking_keeps {s : State} {x : Slip} {rest : List Slip} (h : s.intake.slips = x :: rest) :
    s.Keeps (s.afterTaking rest) := by
  have hlen : s.intake.slips.length = rest.length + 1 := by rw [h]; rfl
  refine State.setIntake_keeps (fun hs => ?_) (fun hm => hm.take h) (fun hp hq => absurd hp (State.Active.of_slips h hq))
    fun l => ?_
  · change rest.length ≤ 64
    omega
  · split
    · rw [Fin.getElem_fin, mapAll_get]
      rfl
    · rfl

theorem State.takeSlip_keeps {want : Slip → Bool} {f : Slip → State → State}
    (hf : ∀ (x : Slip) (s : State), s.Keeps (f x s)) (s : State) : s.Keeps (s.takeSlip want f) := by
  cases h : s.intake.slips with
  | nil => simpa only [State.takeSlip, h] using State.Keeps.refl s
  | cons x rest =>
    cases hw : want x with
    | false => simpa only [State.takeSlip, h, hw, Bool.false_eq_true, if_false] using State.Keeps.refl s
    | true =>
      rw [State.takeSlip_head h hw]
      exact (State.afterTaking_keeps h).trans (hf x _)

theorem State.offerSlip_keeps {x : Slip} {s t : State} (ha : s.Active) (h : s.offerSlip x = some t) : s.Keeps t := by
  have hroom := (State.offerSlip_some x s t h).2
  rw [State.offerSlip_room hroom] at h
  obtain rfl := Option.some.inj h
  refine State.setIntake_keeps (fun _ => ?_) (fun hm => hm.join x) (fun hp hq => absurd hp (ha hq)) fun l => rfl
  change (s.intake.slips ++ [x]).length ≤ 64
  rw [List.length_append]
  exact hroom

/-! ### The control queue (R155 to R158, R168) -/

theorem TillLine.serviceReset_fits (l : TillLine) : l.serviceReset.Fits where
  round := Nat.zero_le _
  notices := fun d => by
    simp [TillLine.serviceReset, Till.serviceReset]
  misses := fun d => by
    simp [TillLine.serviceReset, Till.serviceReset]

theorem Port.serviceReset_badFrames (p : Port) : p.serviceReset.badFrames = 0 := by
  unfold Port.serviceReset
  split <;> rfl

theorem State.serviceReset_fits (force : Bool) {s : State} (h : s.work.Fits 1024) :
    (s.serviceReset force).work.Fits 1024 where
  size := Nat.zero_le _
  rising := List.Pairwise.nil
  ctr := h.ctr
  recalls := fun st => by
    simp [State.serviceReset, Station.serviceReset]
  bad := fun st => by
    change (s.serviceReset force).ports[st].badFrames ≤ 65535
    rw [State.serviceReset_ports]
    split
    · rw [Port.serviceReset_badFrames]
      exact Nat.zero_le _
    · exact h.bad st

theorem State.serviceReset_line (force : Bool) (s : State) (l : LineId) :
    (s.serviceReset force).lines[l] = s.lines[l].serviceReset := by
  simp [State.serviceReset]

theorem State.serviceReset_keeps (force : Bool) (s : State) : s.Keeps (s.serviceReset force) where
  intake := fun _ => Nat.zero_le _
  pause := fun h => ⟨h.1, fun _ => Nat.lt_of_le_of_lt (Nat.zero_le _) h.1, fun hp => nomatch hp⟩
  records := by
    cases force <;> exact id
  pickups := fun sd _ => by
    simp [State.serviceReset, Stand.serviceReset, Stand.CtrFits]
  kitchen := State.serviceReset_fits force
  lines := fun l _ => by
    rw [State.serviceReset_line]
    exact TillLine.serviceReset_fits _
  drivers := fun l h => by
    rw [State.serviceReset_line]
    exact h
  starting := fun hq hp => by
    obtain ⟨hstate, hsilence, hrun, hwaiting, -, hburst, -⟩ := hq hp
    refine ⟨hstate, hsilence, hrun, hwaiting, rfl, ?_, fun l => ?_⟩
    · cases force <;> exact hburst
    · rw [State.serviceReset_line]
      rfl

/-- What the running envelope becomes is no matter of sizes. -/
theorem State.setRun_keeps {s : State} (h : s.Active) (r : Option Run) :
    s.Keeps { s with upc := { s.upc with run := r } } where
  uplink := fun hu => { hu with }
  starting := h.starting rfl

theorem State.endEnvelope_keeps {s : State} {r : Run} (h : s.upc.run = some r) : s.Keeps (s.endEnvelope r) := by
  have hreplied := (State.setRun_keeps (.of_run h) none).trans (State.reply_keeps .ok r.replies _)
  unfold State.endEnvelope
  simp only
  split
  · exact hreplied
  · exact hreplied.trans ((State.serviceReset_keeps _ _).trans (State.hello_keeps _ _))

theorem State.settleStep_keeps {s t : State} (h : s.settleStep = some t) : s.Keeps t := by
  unfold State.settleStep at h
  split at h
  · split at h
    · cases h
    · rename_i x rest hw
      cases h
      refine { uplink := fun hu => { hu with waiting := ?_ }, starting := (State.Active.of_waiting hw).starting rfl }
      have := hu.waiting
      rw [hw] at this
      exact (Nat.le_succ _).trans this
  · rename_i r hr
    split at h
    · cases h
      exact State.endEnvelope_keeps hr
    · cases h
      exact State.setRun_keeps (.of_run hr) _
    · split at h
      · cases h
        exact State.setRun_keeps (.of_run hr) _
      · cases h

theorem State.settleFor_keeps (n : Nat) (s : State) : s.Keeps (s.settleFor n) := by
  induction n generalizing s with
  | zero => exact .refl s
  | succ n ih =>
    unfold State.settleFor
    split
    · exact .refl s
    · rename_i t ht
      exact (State.settleStep_keeps ht).trans (ih t)

theorem State.settle_keeps (s : State) : s.Keeps s.settle := s.settleFor_keeps _

theorem State.finishBlock_keeps (b : BlockReply) (s : State) : s.Keeps (s.finishBlock b) := by
  unfold State.finishBlock
  split
  · rename_i r hr
    split
    · exact (State.setRun_keeps (.of_run hr) _).trans (State.settle_keeps _)
    · exact .refl s
  · exact .refl s

/-- A block that its owner may carry out is carried out by a part that is not STARTING (R156). -/
theorem State.block_keeps {run : ControlOp → Option (State → BlockReply × State)} {s : State}
    (h : ∀ op f, run op = some f → s.upc.part ≠ .starting → s.Keeps (f s).2) : s.Keeps (s.block run) := by
  unfold State.block
  split
  · rename_i tag op hnext
    split
    · rename_i f hf
      exact (h op f hf (State.nextBlock_some s tag op hnext).2.1).trans (State.finishBlock_keeps _ _)
    · exact .refl s
  · exact .refl s

theorem State.queueControl_keeps (bs : List Block) {s : State} (h : s.Active) : s.Keeps (s.queueControl bs) := by
  refine .ite ((State.setRun_keeps h _).trans (State.settle_keeps _)) ?_
  by_cases hroom : s.upc.waiting.length < 4
  · rw [if_pos hroom]
    refine { uplink := fun hu => { hu with waiting := ?_ }, starting := h.starting rfl }
    rw [List.length_append]
    exact hroom
  · rw [if_neg hroom]
    exact State.reply_keeps _ _ s

/-! ### Drain bursts (R145 to R151) -/

/-- What a drain burst becomes is no matter of sizes. -/
theorem State.setBurst_keeps {s : State} (h : s.Active) (b : Option Burst) :
    s.Keeps { s with sj := { s.sj with burst := b } } where
  starting := h.starting rfl

theorem State.endBurst_keeps (s : State) : s.Keeps s.endBurst := by
  unfold State.endBurst
  split
  · exact .refl s
  · rename_i b hb
    exact (State.setBurst_keeps (.of_burst hb) none).trans (State.finishBlock_keeps _ _)

theorem State.drainRecord_keeps {s : State} (h : s.Active) (b : Burst) (r : Record) (rest : List Record) :
    s.Keeps (s.drainRecord b r rest) := by
  obtain ⟨q, hq⟩ := State.handOver_frame (.journal b.tag (b.sent + 1) r) s
  have hover := State.handOver_keeps (.journal b.tag (b.sent + 1) r) s
  unfold State.drainRecord
  simp only
  rw [hq] at hover ⊢
  exact { uplink := hover.uplink, starting := h.starting rfl }

theorem State.burstStep_keeps (s : State) : s.Keeps s.burstStep := by
  unfold State.burstStep
  split
  · exact .refl s
  · rename_i b hb
    refine .ite s.endBurst_keeps ?_
    split
    · exact s.endBurst_keeps
    · have hdrain := State.drainRecord_keeps (.of_burst hb) b
      exact .ite (.ite ((hdrain _ _).trans (State.endBurst_keeps _)) (hdrain _ _)) (State.setBurst_keeps (.of_burst hb) _)

theorem State.resumeBurst_keeps (s : State) : s.Keeps s.resumeBurst := by
  unfold State.resumeBurst
  split
  · exact .ite s.burstStep_keeps (.refl s)
  · exact .refl s

theorem State.drainBlock_keeps (s : State) : s.Keeps s.drainBlock := by
  unfold State.drainBlock
  split
  · rename_i tag n hnext
    have hbegun := State.setBurst_keeps (.of_part (State.nextBlock_some s _ _ hnext).2.1)
      (some { tag := tag, asked := n, sent := 0, waiting := false })
    exact .ite (State.finishBlock_keeps _ s) (.ite (hbegun.trans (State.endBurst_keeps _)) hbegun)
  · exact .refl s

end Sys2Proof.Machine
end

section
/-! PROOFS. Commands that take offers and slips, the control blocks, the uplink and power-on keep what every step keeps
(R32, R41, R149 to R172). -/
namespace Sys2Proof.Machine

/-- A command that ends in a next state, with what every step keeps. -/
def Keeping (e : State → Step) : Prop := ∀ s : State, ∃ t, e s = .next t ∧ s.Keeps t

/-! ### Station commands, offers and slips (R32, R41) -/

theorem State.RoutesTo.keeps {s t : State} (h : s.RoutesTo t) : s.Keeps t := by
  rcases h with rfl | ⟨f, hf, rfl⟩
  · exact .refl t
  · exact State.doWork_keeps (hf _).within

/-- Work that keeps the sizes and ranges of its blocks, from any state. -/
theorem State.doWork_keeps_of {f : Work → Work} (h : ∀ w : Work, w.Within (f w)) (s : State) : s.Keeps (s.doWork f) :=
  State.doWork_keeps (h _)

/-- What the Router offers and reports is no matter of sizes. -/
theorem State.offers_keeps {s : State} {o : List CompletionOffer} {r : List RecallOffer} {c : Vector Clearance 16} :
    s.Keeps { s with kr := { s.kr with completions := o, recalls := r, clearance := c } } where
  kitchen := fun h => { h with }

theorem exec_work_keeps {c : Instr} (hc : isWorkCommand c = true) : Keeping (exec c) := by
  intro s
  cases c with
  | fireBacklogTry =>
    refine ⟨_, rfl, .ite ?_ (.refl s)⟩
    exact State.Keeps.trans (t := { s with ce := { s.ce with tryOffered := false } }) {}
      (State.doWork_keeps_of Work.tryBacklog_within _)
  | authAnswerTaken tag v =>
    refine ⟨_, rfl, ?_⟩
    split
    · exact State.Keeps.trans (t := { s with ce := { s.ce with answers := _ } }) {}
        (State.doWork_keeps_of (Work.answerTaken_within tag v) _)
    · exact .refl s
  | authWaitExpiry tag =>
    refine ⟨_, rfl, ?_⟩
    split
    · exact .ite (State.doWork_keeps_of (Work.expire_within _) s) (.refl s)
    · exact .refl s
  | lateWindowExpiry =>
    refine ⟨_, rfl, ?_⟩
    split
    · exact .ite (State.doWork_keeps_of Work.dropOldest_within s) (.refl s)
    · exact .refl s
  | completion n =>
    refine ⟨_, rfl, ?_⟩
    split
    · rename_i o rest _
      exact State.Keeps.trans (t := { s with kr := { s.kr with completions := rest } }) State.offers_keeps
        (State.doWork_keeps_of (Work.completionTaken_within o) _)
    · exact .refl s
  | recallOffer n =>
    refine ⟨_, rfl, ?_⟩
    split
    · rename_i o rest _
      exact State.Keeps.trans (t := { s with kr := { s.kr with recalls := rest } }) State.offers_keeps
        (State.doWork_keeps_of (Work.recallTaken_within o) _)
    · exact .refl s
  | clearanceReport sd =>
    refine ⟨_, rfl, .ite ?_ (.refl s)⟩
    exact State.Keeps.trans State.offers_keeps (State.doWork_keeps_of (Work.closeTest_within sd) _)
  | closeDeadlineExpiry sd =>
    refine ⟨_, rfl, ?_⟩
    split
    · refine .ite (State.doWork_keeps_of (fun w => ?_) s) (.refl s)
      split
      · exact Work.forceShut_within sd w
      · exact Work.closeTimeout_within sd w
    · exact .refl s
  | _ => cases hc

/-- A till's slip is processed as one piece of work, its ANSWER last (R41, R42). -/
theorem processTill_keeps {f : TillId → Till → List Byte → Work → SlipAnswer × Work}
    (hf : ∀ t till content (w : Work), w.Within (f t till content w).2) (x : Slip) (s : State) :
    s.Keeps (processTill f x s) := by
  unfold processTill
  split
  · exact State.doWork_keeps ((hf _ _ _ _).trans (Work.emit_within _ _))
  · exact .refl s

theorem processRemote_keeps (x : Slip) (s : State) : s.Keeps (processRemote x s) := by
  unfold processRemote
  split
  · exact State.doWork_keeps ((remoteOrder_within _ _ _).trans (Work.raise_within _ _))
  · exact .refl s

theorem exec_slip_keeps {c : Instr} (hc : isSlipCommand c = true) : Keeping (exec c) := by
  intro s
  cases c with
  | order => exact ⟨_, rfl, s.takeSlip_keeps (processTill_keeps orderSlip_within)⟩
  | add => exact ⟨_, rfl, s.takeSlip_keeps (processTill_keeps addSlip_within)⟩
  | split => exact ⟨_, rfl, s.takeSlip_keeps (processTill_keeps splitSlip_within)⟩
  | tender => exact ⟨_, rfl, s.takeSlip_keeps (processTill_keeps tenderSlip_within)⟩
  | voidLine => exact ⟨_, rfl, s.takeSlip_keeps (processTill_keeps voidLineSlip_within)⟩
  | voidCheck => exact ⟨_, rfl, s.takeSlip_keeps (processTill_keeps voidCheckSlip_within)⟩
  | query => exact ⟨_, rfl, s.takeSlip_keeps (processTill_keeps querySlip_within)⟩
  | remoteOrderProcess => exact ⟨_, rfl, s.takeSlip_keeps processRemote_keeps⟩
  | unknownSlipKind => exact ⟨_, rfl, s.takeSlip_keeps (processTill_keeps fun _ _ _ w => .refl w)⟩
  | _ => cases hc

/-! ### Control blocks that are one piece of work -/

/-- A block command whose blocks are all one piece of work that keeps the sizes and ranges. -/
theorem block_keeping {run : ControlOp → Option (State → BlockReply × State)}
    (h : ∀ op f, run op = some f → ∃ g, f = asWork g ∧ ∀ w : Work, w.Within (g w).2) :
    Keeping fun s => .next (s.block run) := fun s => by
  refine ⟨_, rfl, State.block_keeps fun op f hf _ => ?_⟩
  obtain ⟨g, rfl, hg⟩ := h op f hf
  exact State.commit_keeps (hg _)

theorem execLoadItems_keeping : Keeping execLoadItems := block_keeping fun op f hf => by
  cases op <;> cases hf
  exact ⟨_, rfl, loadItems_within _⟩

theorem execDeleteItems_keeping : Keeping execDeleteItems := block_keeping fun op f hf => by
  cases op <;> cases hf
  exact ⟨_, rfl, deleteItems_within _⟩

theorem execReadItem_keeping : Keeping execReadItem := block_keeping fun op f hf => by
  cases op <;> cases hf
  exact ⟨_, rfl, readItem_within _⟩

theorem execSetStock_keeping : Keeping execSetStock := block_keeping fun op f hf => by
  cases op <;> cases hf
  exact ⟨_, rfl, setStock_within _ _⟩

theorem execLoadStand_keeping : Keeping execLoadStand := block_keeping fun op f hf => by
  cases op <;> cases hf
  exact ⟨_, rfl, loadStand_within _ _ _ _⟩

theorem execLoadStation_keeping : Keeping execLoadStation := block_keeping fun op f hf => by
  cases op <;> cases hf
  exact ⟨_, rfl, loadStation_within _⟩

theorem execQueryCheck_keeping : Keeping execQueryCheck := block_keeping fun op f hf => by
  cases op <;> cases hf
  exact ⟨_, rfl, queryCheck_within _⟩

theorem execVoidCheckBlock_keeping : Keeping execVoidCheckBlock := block_keeping fun op f hf => by
  cases op <;> cases hf
  exact ⟨_, rfl, voidCheckBlock_within _⟩

theorem execSetAuthTimes_keeping : Keeping execSetAuthTimes := block_keeping fun op f hf => by
  cases op <;> cases hf
  exact ⟨_, rfl, setAuthTimes_within _ _⟩

theorem execStationControl_keeping : Keeping execStationControl := block_keeping fun op f hf => by
  cases op <;> cases hf
  exact ⟨_, rfl, stationControl_within _ _⟩

theorem execReadStations_keeping : Keeping execReadStations := block_keeping fun op f hf => by
  cases op <;> cases hf
  exact ⟨_, rfl, fun w => .refl w⟩

theorem execSetJournalWarning_keeping : Keeping execSetJournalWarning := block_keeping fun op f hf => by
  cases op <;> cases hf
  exact ⟨_, rfl, setJournalWarning_within _⟩

theorem execOpenStand_keeping : Keeping execOpenStand := block_keeping fun op f hf => by
  cases op <;> cases hf
  exact ⟨_, rfl, openStand_within _⟩

theorem execCloseStand_keeping : Keeping execCloseStand := block_keeping fun op f hf => by
  cases op <;> cases hf
  exact ⟨_, rfl, closeStand_within _ _ _⟩

/-! ### The other control blocks -/

/-- New marks decide the pause state anew, whatever it was (R35). -/
theorem Intake.Matches.marks {i : Intake} (h : i.low < i.high) :
    Intake.Matches { i with paused := i.pausedAtMarks } := by
  unfold Intake.pausedAtMarks
  refine ⟨h, fun hp => ?_, fun hp => ?_⟩
  · change i.slips.length < i.high
    by_cases hpaused : i.paused = true
    · have : ¬ i.low < i.slips.length := by simpa [hpaused] using hp
      omega
    · simpa [hpaused] using hp
  · change i.low < i.slips.length
    by_cases hpaused : i.paused = true
    · simpa [hpaused] using hp
    · have : i.high ≤ i.slips.length := by simpa [hpaused] using hp
      omega

theorem setIntakeMarks_keeps (high low : Nat) {s : State} (hpart : s.upc.part ≠ .starting) :
    s.Keeps (setIntakeMarks high low s).2 := by
  unfold setIntakeMarks
  split
  · exact .refl s
  · split
    · exact .refl s
    · rename_i hmarks
      change s.Keeps ((s.withMarks high low).setPaused (s.withMarks high low).intake.pausedAtMarks)
      rw [State.setPaused_eq]
      refine State.setIntake_keeps id (fun _ => ?_) (fun hp => absurd hp hpart)
        (State.setPaused_line _ (s.withMarks high low))
      exact Intake.Matches.marks (i := (s.withMarks high low).intake) (Nat.lt_of_not_le hmarks)

theorem State.onLine_keeps {s : State} {l : LineId} {f : TillLine → TillLine}
    (hfits : s.lines[l].Fits → (f s.lines[l]).Fits) (hdriver : (f s.lines[l]).driver = s.lines[l].driver)
    (hcall : (f s.lines[l]).call = s.lines[l].call) : s.Keeps (s.onLine l f) :=
  State.setLine_keeps hfits (fun h => hdriver.trans h) fun _ h => hcall.trans h

theorem loadLine_keeps (line enabled rate window turn : Nat) (s : State) :
    s.Keeps (loadLine line enabled rate window turn s).2 := by
  unfold loadLine
  split
  · exact .refl s
  · split
    · exact .refl s
    · rename_i l _ _ on _
      obtain ⟨-, -, -, -, hcall, hdriver⟩ := TillLine.load_settings on rate window turn s.lines[l]
      split
      · exact .refl s
      · split
        · exact .refl s
        · split
          · exact .refl s
          · exact State.onLine_keeps TillLine.load_fits hdriver hcall

/-- An entry of the Till Table keeps its till's notices or discards them, and sets no miss count but 0 (R23). -/
theorem Till.load_bounds (on : Bool) (sd : StandId) (r : Role) (t : Till) :
    (t.notices.length ≤ 4 → (t.load on sd r).notices.length ≤ 4) ∧ (t.misses ≤ 3 → (t.load on sd r).misses ≤ 3) := by
  unfold Till.load
  simp only
  split
  · exact ⟨id, id⟩
  · split
    · exact ⟨id, fun _ => Nat.zero_le _⟩
    · exact ⟨fun _ => Nat.zero_le _, fun _ => Nat.zero_le _⟩

theorem loadTillFrom_keeps (applied : Nat) (os : List TillOperand) (s : State) :
    s.Keeps (loadTillFrom applied os s).2 := by
  induction os generalizing applied s with
  | nil => exact .refl s
  | cons o os ih =>
    unfold loadTillFrom
    split
    · rename_i t on sd r _ _ _ _
      obtain ⟨hnotices, hmisses⟩ := Till.load_bounds on sd r (s.lines[tillLine t].tills[tillDrop t])
      exact (State.onLine_keeps (TillLine.onTill_fits hnotices hmisses) rfl rfl).trans (ih _ _)
    · exact .refl s

theorem loadTill_keeps (os : List TillOperand) (s : State) : s.Keeps (loadTill os s).2 := by
  unfold loadTill
  split
  · exact .refl s
  · exact loadTillFrom_keeps 0 os s

theorem readTills_keeps (line : Nat) (s : State) : s.Keeps (readTills line s).2 := by
  unfold readTills
  split <;> exact .refl s

theorem setEvents_keeps (mask : Nat) {s : State} : s.Keeps (setEvents mask s).2 := by
  unfold setEvents
  split
  · exact .refl s
  · exact { uplink := fun hu => { hu with } }

theorem setUplinkTimes_keeps (limit count : Nat) {s : State} (hpart : s.upc.part ≠ .starting) :
    s.Keeps (setUplinkTimes limit count s).2 := by
  unfold setUplinkTimes
  split
  · exact .refl s
  · split
    · exact .refl s
    · rename_i hlimit hcount
      change s.Keeps { s with upc := { s.upc with limit := limit, needed := count } }.onlineTest
      obtain ⟨x, q, h⟩ := State.onlineTest_frame { s with upc := { s.upc with limit := limit, needed := count } }
      have hfits (hu : s.upc.Fits) : { s with upc := { s.upc with limit := limit, needed := count } }.onlineTest.upc.Fits :=
        State.onlineTest_fits hu.queue hu.waiting (show 2 ≤ limit ∧ limit ≤ 30 by omega)
          (show 1 ≤ count ∧ count ≤ 64 by omega) hu.progress
      rw [h] at hfits ⊢
      exact { uplink := hfits, starting := (State.Active.of_part hpart).starting rfl }

theorem State.planReset_keeps (force : Bool) {s : State} (hpart : s.upc.part ≠ .starting) : s.Keeps (s.planReset force) :=
  State.setRun_keeps (.of_part hpart) _

theorem serviceReset_keeps (force : Nat) {s : State} (hpart : s.upc.part ≠ .starting) :
    s.Keeps (serviceReset force s).2 := by
  unfold serviceReset
  split
  · exact .refl s
  · exact State.planReset_keeps true hpart
  · split
    · exact .refl s
    · exact State.planReset_keeps false hpart

theorem setClock_keeps (value : Nat) (s : State) : s.Keeps (setClock value s).2 := by
  unfold setClock
  split
  · exact .refl s
  · rename_i h
    exact { clock := fun _ => Nat.le_of_not_lt h }

theorem execLoadLine_keeping : Keeping execLoadLine := fun s => ⟨_, rfl, State.block_keeps fun op f hf _ => by
  cases op <;> cases hf
  exact loadLine_keeps _ _ _ _ _ s⟩

theorem execLoadTill_keeping : Keeping execLoadTill := fun s => ⟨_, rfl, State.block_keeps fun op f hf _ => by
  cases op <;> cases hf
  exact loadTill_keeps _ s⟩

theorem execReadTills_keeping : Keeping execReadTills := fun s => ⟨_, rfl, State.block_keeps fun op f hf _ => by
  cases op <;> cases hf
  exact readTills_keeps _ s⟩

theorem execSetIntakeMarks_keeping : Keeping execSetIntakeMarks :=
  fun s => ⟨_, rfl, State.block_keeps fun op f hf hpart => by
    cases op <;> cases hf
    exact setIntakeMarks_keeps _ _ hpart⟩

theorem execReadStatus_keeping : Keeping execReadStatus := fun s => ⟨_, rfl, State.block_keeps fun op f hf _ => by
  cases op <;> cases hf
  exact .refl s⟩

theorem execSetEvents_keeping : Keeping execSetEvents := fun s => ⟨_, rfl, State.block_keeps fun op f hf _ => by
  cases op <;> cases hf
  exact setEvents_keeps _⟩

theorem execSetUplinkTimes_keeping : Keeping execSetUplinkTimes :=
  fun s => ⟨_, rfl, State.block_keeps fun op f hf hpart => by
    cases op <;> cases hf
    exact setUplinkTimes_keeps _ _ hpart⟩

theorem execServiceReset_keeping : Keeping execServiceReset :=
  fun s => ⟨_, rfl, State.block_keeps fun op f hf hpart => by
    cases op <;> cases hf
    exact serviceReset_keeps _ hpart⟩

theorem execSetClock_keeping : Keeping execSetClock := fun s => ⟨_, rfl, State.block_keeps fun op f hf _ => by
  cases op <;> cases hf
  exact setClock_keeps _ s⟩

/-! ### Power-on, the self-test and the clock (R169, R172) -/

theorem reset_intake_matches : State.reset.intake.Matches := ⟨by decide, fun _ => by decide, fun h => nomatch h⟩

theorem reset_upc_fits : State.reset.upc.Fits :=
  ⟨Nat.zero_le _, Nat.zero_le _, by decide, by decide, Nat.zero_le _, fun h => nomatch h⟩

theorem reset_stand_fits (sd : StandId) : State.reset.ce.stands[sd].CtrFits := by
  rw [reset_stands]
  exact ⟨by decide, by decide⟩

theorem reset_kitchen_fits : State.reset.work.Fits 1024 where
  size := Nat.zero_le _
  rising := List.Pairwise.nil
  ctr := ⟨by decide, by decide⟩
  recalls := fun st => (congrArg (fun x : Station => x.recallL.length) (reset_stations st)).trans_le (Nat.zero_le _)
  bad := fun st => (congrArg Port.badFrames (reset_ports st)).trans_le (Nat.zero_le _)

theorem reset_line_fits (l : LineId) : State.reset.lines[l].Fits := by
  rw [reset_lines]
  exact ⟨by decide, fun d => by rw [reset_tills]; decide, fun d => by rw [reset_tills]; decide⟩

theorem execPowerOn_keeping : Keeping execPowerOn := fun s => ⟨_, rfl, {
  intake := fun _ => Nat.zero_le _
  pause := fun _ => reset_intake_matches
  uplink := fun _ => { reset_upc_fits with }
  clock := fun _ => Nat.zero_le _
  records := fun _ => (⟨by decide, by decide⟩ : State.reset.sj.CtrFits)
  pickups := fun sd _ => reset_stand_fits sd
  kitchen := fun _ => reset_kitchen_fits.congr rfl rfl
  lines := fun l _ => reset_line_fits l
  drivers := fun l _ => congrArg TillLine.driver (reset_lines l)
  starting := fun _ _ => ⟨rfl, rfl, rfl, rfl, rfl, rfl, fun l => congrArg TillLine.call (reset_lines l)⟩ }⟩

theorem execSelfTestDone_keeping (failed : List Memory) : Keeping (execSelfTestDone failed) := fun s => by
  refine ⟨_, rfl, .ite (State.Keeps.trans (t := { s with upc := { s.upc with part := _, selfTest := _ } }) ?_
    (State.hello_keeps _ _)) (.refl s)⟩
  refine { uplink := fun hu => { hu with }, starting := fun _ hp => ?_ }
  change (if (firstFailed failed).isNone then PartState.running else .failed) = .starting at hp
  split at hp <;> cases hp

theorem Clock.next_secs_le {c : Clock} (h : c.secs ≤ 86399) : c.next.secs ≤ 86399 := by
  unfold Clock.next
  simp only
  split <;> omega

theorem execVenueClockTick_keeping : Keeping execVenueClockTick := fun s => by
  have hstand (sd : StandId) (h : s.ce.stands[sd].CtrFits) : (mapAll Stand.tick s.ce.stands)[sd].CtrFits := by
    simpa [Stand.CtrFits, Stand.tick] using h
  have hbad (st : StationId) : (mapAll Port.tick s.ports)[st].badFrames = s.ports[st].badFrames := by
    simp [Port.tick]
  refine ⟨_, rfl, {
    uplink := fun hu => { hu with }
    clock := Clock.next_secs_le
    pickups := hstand
    kitchen := fun h => { h with bad := fun st => (hbad st).trans_le (h.bad st) }
    starting := fun hq hp => ?_ }⟩
  obtain ⟨hstate, hsilence, hrest⟩ := hq hp
  exact ⟨hstate, congrArg (Option.map (· + 1)) hsilence, hrest⟩

/-! ### The uplink port (R57, R90, R148 to R152, R171) -/

theorem execEthernetLinkLost_keeping : Keeping execEthernetLinkLost := fun s => by
  refine ⟨_, rfl, State.Keeps.trans (t := { s with upc := { s.upc with linkUp := false, sendQueue := [] } }) ?_
    ((State.loseUplink_keeps _).trans (State.endBurst_keeps _))⟩
  exact { uplink := fun hu => { hu with queue := Nat.zero_le _ } }

theorem execEthernetLinkUp_keeping : Keeping execEthernetLinkUp := fun s => by
  have hup : s.Keeps { s with upc := { s.upc with linkUp := true, sendQueue := [], heldHello := none } } :=
    { uplink := fun hu => { hu with queue := Nat.zero_le _ } }
  refine ⟨_, rfl, .ite (.refl s) ?_⟩
  split
  · exact hup.trans (State.handOver_keeps _ _)
  · exact hup

theorem execSilenceTimeout_keeping : Keeping execSilenceTimeout := fun s =>
  ⟨_, rfl, .ite s.loseUplink_keeps (.refl s)⟩

theorem execEnvelopeSent_keeping : Keeping execEnvelopeSent := fun s => by
  refine ⟨_, rfl, ?_⟩
  split
  · exact .refl s
  · rename_i e rest hq
    refine State.Keeps.trans (t := { s with upc := { s.upc with sendQueue := rest } }) ?_
      ((State.send_keeps _ _).trans (State.resumeBurst_keeps _))
    refine { uplink := fun hu => { hu with queue := ?_ } }
    have := hu.queue
    rw [hq] at this
    exact (Nat.le_succ _).trans this

/-- An envelope taken is counted, and its content finds a part that is not STARTING (R149). -/
theorem State.takeEnvelope_keeps {want : Byte → Bool} {f : List Byte → State → State}
    (hf : ∀ content (s : State), s.upc.part ≠ .starting → s.Keeps (f content s)) (fr : EthFrame) (s : State) :
    s.Keeps (s.takeEnvelope want f fr) := by
  unfold State.takeEnvelope
  split
  · exact .refl s
  · rename_i hpart
    have hcount : s.countEnvelope.upc.part ≠ .starting := by
      obtain ⟨x, p, q, h⟩ := s.countEnvelope_frame
      rwa [h]
    split
    · exact .ite ((State.countEnvelope_keeps (.of_part hpart)).trans (hf _ _ hcount)) (.refl s)
    · exact .refl s

theorem execControl_keeping (fr : EthFrame) : Keeping (execControl fr) := fun s => by
  refine ⟨_, rfl, s.takeEnvelope_keeps (fun content s hpart => ?_) fr⟩
  exact State.Keeps.trans (t := { s with upc := { s.upc with replyAddr := fr.src } })
    { uplink := fun hu => { hu with } } (State.queueControl_keeps _ (.of_part hpart))

theorem offerRemote_keeps (content : List Byte) {s : State} (hpart : s.upc.part ≠ .starting) :
    s.Keeps (offerRemote content s) := by
  unfold offerRemote
  split
  · split
    · rename_i t ht
      exact State.offerSlip_keeps (.of_part hpart) ht
    · exact State.raise_keeps _ s
  · exact .refl s

theorem execRemoteOrder_keeping (fr : EthFrame) : Keeping (execRemoteOrder fr) := fun s =>
  ⟨_, rfl, s.takeEnvelope_keeps (fun content s hpart => .ite (offerRemote_keeps content hpart) (.refl s)) fr⟩

theorem execAuthAnswer_keeping (fr : EthFrame) : Keeping (execAuthAnswer fr) := fun s => by
  refine ⟨_, rfl, s.takeEnvelope_keeps (fun content s _ => ?_) fr⟩
  split
  · exact .ite (State.doWork_keeps_of (Work.answerArrives_within _ _) s) (.refl s)
  · exact .refl s

theorem execKeepalive_keeping (fr : EthFrame) : Keeping (execKeepalive fr) := fun s =>
  ⟨_, rfl, s.takeEnvelope_keeps (fun _ s _ => .refl s) fr⟩

theorem execOtherEnvelopeKind_keeping (fr : EthFrame) : Keeping (execOtherEnvelopeKind fr) := fun s =>
  ⟨_, rfl, s.takeEnvelope_keeps (fun _ s _ => .refl s) fr⟩

end Sys2Proof.Machine
end

section
/-! PROOFS. The calls on the till lines keep what every step keeps; every step does; and so the queues stay bounded, the
pause state follows the marks, and a STARTING part stays quiet (R20, R25 to R36, R169). -/
namespace Sys2Proof.Machine

/-! ### Choosing a call (R25, R26, R34) -/

theorem State.lineFree_part {s : State} {l : LineId} (h : s.lineFree l = true) : s.upc.part ≠ .starting := by
  intro hp
  simp [State.lineFree, State.running, hp] at h

theorem execSlipCall_keeping (l : LineId) : Keeping (exec (.slipCall l)) := fun s => by
  by_cases hfree : s.lineFree l = true ∧ s.intake.paused = false
  · cases hdue : s.lines[l].closeRound.nextDue with
    | none => exact ⟨s, by simp only [exec, execSlipCall, hdue, ite_self], .refl s⟩
    | some d =>
      refine ⟨_, exec_slipCall_calls hfree.1 hfree.2 rfl hdue, ?_⟩
      refine State.setLine_keeps (f := fun _ => { s.lines[l].closeRound.beginCall d with driver := false }) (fun h => ?_)
        (fun _ => rfl) fun hp => absurd hp (State.lineFree_part hfree.1)
      exact { TillLine.closeRound_fits h with }
  · exact ⟨s, congrArg Host.Outcome.next (if_neg hfree), .refl s⟩

theorem execEmptyRound_keeping (l : LineId) : Keeping (execEmptyRound l) := fun s => by
  obtain ⟨r, p, hclose⟩ := s.lines[l].closeRound_frame
  refine ⟨_, rfl, .ite (.ite (State.onLine_keeps (fun h => ?_) ?_ ?_) (.refl s)) (.refl s)⟩
  · exact TillLine.nextRound_fits (TillLine.closeRound_fits h)
  · rw [hclose]
    rfl
  · rw [hclose]
    rfl

theorem TillLine.nextWalk_waits {l : TillLine} {d : DropId} (h : l.nextWalk = some d) : l.tills[d].notices ≠ [] := by
  have hfound : (l.inRing d && !l.tills[d].notices.isEmpty) = true := by
    unfold TillLine.nextWalk at h
    exact List.find?_some (p := fun d => l.inRing d && !l.tills[d].notices.isEmpty) h
  simpa using (Bool.and_eq_true_iff.1 hfound).2

theorem execDeliverCall_keeping (l : LineId) : Keeping (exec (.deliverCall l)) := fun s => by
  by_cases hfree : s.lineFree l = true ∧ s.intake.paused = true
  · cases hwalk : s.lines[l].nextWalk with
    | none => exact ⟨s, exec_deliverCall_none hwalk, .refl s⟩
    | some d =>
      obtain ⟨n, more, hn⟩ := List.exists_cons_of_ne_nil (TillLine.nextWalk_waits hwalk)
      refine ⟨_, exec_deliverCall_sends hfree.1 hfree.2 hwalk hn, ?_⟩
      refine State.setLine_keeps (f := fun t => { t.onTill d (fun x => { x with notices := more, lost := false }) with
        driver := false, walkPos := some d }) (fun h => ?_) (fun _ => rfl) fun _ h => h
      refine { TillLine.onTill_fits (d := d) (f := fun x => { x with notices := more, lost := false })
        (hnotices := fun hlen => ?_) (h := h) with }
      rw [hn] at hlen
      exact (Nat.le_succ _).trans hlen
  · exact ⟨s, congrArg Host.Outcome.next (if_neg hfree), .refl s⟩

/-! ### The answers to a call (R27 to R31) -/

theorem State.endCall_keeps (l : LineId) (s : State) : s.Keeps (s.endCall l) := by
  have hcalm (t : TillLine) (h : t.Fits) : (if t.enabled then t else t.calm).Fits := by
    split
    · exact h
    · exact TillLine.calm_fits h
  have hframe (t : TillLine) : (if t.enabled then t else t.calm).driver = t.driver ∧
      (if t.enabled then t else t.calm).call = t.call := by
    split <;> exact ⟨rfl, rfl⟩
  have hclose (t : TillLine) : (if s.intake.paused then t else t.closeRound).driver = t.driver ∧
      (if s.intake.paused then t else t.closeRound).call = t.call := by
    obtain ⟨r, p, h⟩ := t.closeRound_frame
    rw [h]
    split <;> exact ⟨rfl, rfl⟩
  refine State.setLine_keeps (fun h => ?_) (fun h => ?_) fun _ _ => ?_
  · have hended := hcalm { s.lines[l] with call := none } { h with }
    simp only
    split
    · exact hended
    · exact TillLine.closeRound_fits hended
  · exact (hclose _).1.trans ((hframe _).1.trans h)
  · exact (hclose _).2.trans (hframe _).2

theorem State.onTill_keeps {s : State} {l : LineId} {d : DropId} {f : Till → Till}
    (hnotices : ∀ t : Till, (f t).notices = t.notices) (hmisses : ∀ t : Till, t.misses ≤ 3 → (f t).misses ≤ 3) :
    s.Keeps (s.onLine l (TillLine.onTill d f)) :=
  State.onLine_keeps (TillLine.onTill_fits (fun h => (congrArg List.length (hnotices _)).trans_le h) (hmisses _)) rfl rfl

theorem State.answered_keeps (l : LineId) (d : DropId) (s : State) : s.Keeps (s.answered l d) := by
  have hheard : s.Keeps (s.onLine l (TillLine.onTill d Till.heard)) :=
    State.onTill_keeps (fun _ => rfl) fun _ _ => Nat.zero_le _
  exact .ite hheard (hheard.trans (State.raise_keeps _ _))

theorem State.answered_call (l : LineId) (d : DropId) (s : State) :
    (s.answered l d).lines[l].call = s.lines[l].call := by
  rw [State.answered_eq]
  simp only [modify_self]
  rfl

theorem State.closeCall_keeps (l : LineId) (c : Call) (chars : List Byte) (s : State) :
    s.Keeps (s.closeCall l c chars) := by
  refine State.Keeps.trans (.ite (.refl s) ?_) (State.endCall_keeps l _)
  change s.Keeps (s.talk l c.turn c.turn (State.sayAnswer l c.drop chars))
  rw [State.talk_sayAnswer rfl]
  exact State.setLine_keeps (fun h => { TillLine.hear_fits c.drop h with }) (fun _ => rfl) fun _ h => h

theorem State.takeFrame_keeps {l : LineId} {c : Call} {s : State} (hcall : s.lines[l].call = some c) (kind : Byte)
    (content : List Byte) : s.Keeps (s.takeFrame l c kind content) := by
  unfold State.takeFrame
  split
  · rename_i t ht
    exact (State.offerSlip_keeps (.of_call hcall) ht).trans (State.closeCall_keeps l c _ t)
  · exact State.closeCall_keeps l c _ s

theorem State.spoilCall_keeps (l : LineId) (s : State) : s.Keeps (s.spoilCall l) :=
  State.setLine_keeps (fun h => { h with }) id fun _ h => congrArg (Option.map _) h

theorem missed_le (n : Nat) : missed n ≤ 3 := Nat.min_le_left _ _

theorem execMiss_keeping (l : LineId) : Keeping (execMiss l) := fun s => by
  refine ⟨_, rfl, ?_⟩
  split
  · have hmissed (p : Till → Bool) (d : DropId) : s.Keeps (s.onLine l (TillLine.onTill d fun t =>
        { t with misses := missed t.misses, present := p t })) :=
      State.onTill_keeps (fun _ => rfl) fun t _ => missed_le t.misses
    refine .ite (.refl s) (State.Keeps.trans (.ite ?_ ?_) (State.endCall_keeps l _))
    · exact (hmissed _ _).trans (State.raise_keeps _ _)
    · exact hmissed _ _
  · exact .refl s

theorem execIdle_keeping (l : LineId) : Keeping (execIdle l) := fun s => by
  refine ⟨_, rfl, ?_⟩
  split
  · exact .ite (.refl s) ((State.answered_keeps _ _ s).trans (State.closeCall_keeps _ _ _ _))
  · exact .refl s

theorem execSlipFrame_keeping (l : LineId) (cs : List TillChar) : Keeping (execSlipFrame l cs) := fun s => by
  refine ⟨_, rfl, ?_⟩
  split
  · rename_i c hcall
    have hanswered := State.answered_keeps l c.drop s
    refine .ite (.refl s) ?_
    split
    · exact hanswered.trans (State.takeFrame_keeps ((State.answered_call l c.drop s).trans hcall) _ _)
    · exact hanswered.trans (State.closeCall_keeps _ _ _ _)
    · exact State.spoilCall_keeps l s
    all_goals exact .refl s
  · exact .refl s

theorem execFrameGapTimeout_keeping (l : LineId) (cs : List TillChar) : Keeping (execFrameGapTimeout l cs) := fun s => by
  refine ⟨_, rfl, ?_⟩
  split
  · exact .ite (State.spoilCall_keeps l s) (.refl s)
  · exact .refl s

theorem execMalformedAnswer_keeping (l : LineId) (cs : List TillChar) : Keeping (execMalformedAnswer l cs) := fun s => by
  refine ⟨_, rfl, ?_⟩
  split
  · exact .ite ((State.answered_keeps _ _ s).trans (State.closeCall_keeps _ _ _ _)) (.refl s)
  · exact .refl s

/-! ### Every command, every step -/

/-- Every command ends in a next state, with what every step keeps. -/
theorem exec_keeping (c : Instr) : Keeping (exec c) := by
  by_cases hstation : isStationCommand c = true
  · intro s
    obtain ⟨t, ht, h⟩ := exec_station_routesTo hstation s
    exact ⟨t, ht, h.keeps⟩
  by_cases hwork : isWorkCommand c = true
  · exact exec_work_keeps hwork
  by_cases hslip : isSlipCommand c = true
  · exact exec_slip_keeps hslip
  cases c with
  | powerOn => exact execPowerOn_keeping
  | selfTestDone failed => exact execSelfTestDone_keeping failed
  | venueClockTick => exact execVenueClockTick_keeping
  | ethernetLinkLost => exact execEthernetLinkLost_keeping
  | ethernetLinkUp => exact execEthernetLinkUp_keeping
  | silenceTimeout => exact execSilenceTimeout_keeping
  | envelopeSent => exact execEnvelopeSent_keeping
  | control fr => exact execControl_keeping fr
  | remoteOrder fr => exact execRemoteOrder_keeping fr
  | authAnswer fr => exact execAuthAnswer_keeping fr
  | keepalive fr => exact execKeepalive_keeping fr
  | otherEnvelopeKind fr => exact execOtherEnvelopeKind_keeping fr
  | loadItems => exact execLoadItems_keeping
  | deleteItems => exact execDeleteItems_keeping
  | readItem => exact execReadItem_keeping
  | setStock => exact execSetStock_keeping
  | loadStand => exact execLoadStand_keeping
  | loadStation => exact execLoadStation_keeping
  | loadLine => exact execLoadLine_keeping
  | loadTill => exact execLoadTill_keeping
  | readTills => exact execReadTills_keeping
  | setIntakeMarks => exact execSetIntakeMarks_keeping
  | queryCheck => exact execQueryCheck_keeping
  | voidCheckBlock => exact execVoidCheckBlock_keeping
  | setAuthTimes => exact execSetAuthTimes_keeping
  | stationControl => exact execStationControl_keeping
  | readStations => exact execReadStations_keeping
  | drainJournal => exact fun s => ⟨_, rfl, s.drainBlock_keeps⟩
  | drainBurstRecord => exact fun s => ⟨_, rfl, s.burstStep_keeps⟩
  | setJournalWarning => exact execSetJournalWarning_keeping
  | setUplinkTimes => exact execSetUplinkTimes_keeping
  | setEvents => exact execSetEvents_keeping
  | readStatus => exact execReadStatus_keeping
  | openStand => exact execOpenStand_keeping
  | closeStand => exact execCloseStand_keeping
  | serviceReset => exact execServiceReset_keeping
  | setClock => exact execSetClock_keeping
  | emptyRound l => exact execEmptyRound_keeping l
  | slipCall l => exact execSlipCall_keeping l
  | miss l => exact execMiss_keeping l
  | idle l => exact execIdle_keeping l
  | slipFrame l cs => exact execSlipFrame_keeping l cs
  | frameGapTimeout l cs => exact execFrameGapTimeout_keeping l cs
  | malformedAnswer l cs => exact execMalformedAnswer_keeping l cs
  | deliverCall l => exact execDeliverCall_keeping l
  | order | add | split | tender | voidLine | voidCheck | query | remoteOrderProcess | unknownSlipKind =>
    exact absurd rfl hslip
  | fireBacklogTry | authAnswerTaken | authWaitExpiry | lateWindowExpiry | completion | recallOffer | clearanceReport
  | closeDeadlineExpiry => exact absurd rfl hwork
  | ticket | ticketFrameEnd | probeTimerExpiry | taken | bump | recallFrame | fault | helloFrame | hold | go
  | stationFrameDiscard | stationFrameGapTimeout | takenTimeout | holdLimit => exact absurd rfl hstation

theorem step_keeps {s t : State} (h : step s = .next t) : s.Keeps t := by
  unfold step at h
  split at h
  · obtain rfl := Host.Outcome.next.inj h
    exact .refl s
  · rename_i c rest _
    exact State.Keeps.trans (t := { s with pending := rest }) {} (of_exec_next (exec_keeping c _) h)

/-- Settles O3: every block's sizes and ranges are kept by every command. -/
theorem queuesStayBounded : Obligations.QueuesStayBounded :=
  fun _ _ hs h => (step_keeps h).queuesBounded hs

/-- Settles O4: the pause state is decided anew wherever the intake or its marks change. -/
theorem pauseFollowsMarks : Obligations.PauseFollowsMarks :=
  fun _ _ hs h => (step_keeps h).pause hs

/-- Settles O6: what could break the quiet of a STARTING part is done by a part at work alone, and a talk on a line ends with
its driver released. -/
theorem startingStaysQuiet : Obligations.StartingStaysQuiet :=
  ⟨fun _ _ hs h => (step_keeps h).starting hs, fun _ _ hs h l => (step_keeps h).drivers l (hs l)⟩

end Sys2Proof.Machine
end

section
/-! PROOFS. SPLIT in its three modes (R66 to R71, R73): the new shares with their indices and dues, and the tests of a slip
that passes. -/
namespace Sys2Proof.Machine

/-! ### Entries with new keys -/

/-- Putting an entry with a new key in its place adds it and removes none. -/
theorem putBy_perm {α : Type} {key : α → Nat} {x : α} {l : List α} (h : ∀ y ∈ l, key y ≠ key x) :
    (putBy key x l).Perm (x :: l) := by
  induction l with
  | nil => exact .refl _
  | cons y ys ih =>
    obtain ⟨hy, hys⟩ := List.forall_mem_cons.1 h
    unfold putBy
    split
    · exact .refl _
    · rw [if_neg (Ne.symm hy)]
      exact ((ih hys).cons y).trans (.swap x y ys)

/-- Putting entries with keys that are new, each once, adds them all and removes none. -/
theorem foldl_putBy_perm {α : Type} {key : α → Nat} {xs l : List α} (hxs : (xs.map key).Nodup)
    (h : ∀ x ∈ xs, ∀ y ∈ l, key y ≠ key x) : (xs.foldl (fun l x => putBy key x l) l).Perm (xs ++ l) := by
  induction xs generalizing l with
  | nil => exact .refl l
  | cons x xs ih =>
    obtain ⟨hx, hnodup⟩ := List.nodup_cons.1 hxs
    obtain ⟨hfresh, hrest⟩ := List.forall_mem_cons.1 h
    have hput := putBy_perm hfresh
    refine (ih hnodup fun z hz y hy => ?_).trans ((hput.append_left xs).trans List.perm_middle)
    rcases List.mem_cons.1 (hput.mem_iff.1 hy) with rfl | hy
    · exact fun he => hx (he ▸ List.mem_map_of_mem hz)
    · exact hrest z hz y hy

/-! ### The shares of a split (R68 to R71, R73) -/

theorem SplitOperand.count_eq (o : SplitOperand) : o.count = o.shares := by
  cases o <;> rfl

theorem Check.kept_length (c : Check) : c.kept.length = c.shares.countP fun x => decide (x.state = .paid) :=
  List.countP_eq_length_filter.symm

/-- The indices that kept shares hold are those of the PAID shares (R68). -/
theorem Check.kept_any (c : Check) (i : Nat) : (c.kept.any fun x => x.index == i) =
    c.shares.any fun x => decide (x.state = .paid) && decide (x.index = i) := by
  rw [Check.kept, List.any_filter]
  rfl

theorem Check.freeIndices_eq (c : Check) (k : Nat) : c.freeIndices k = c.openIndices.take k := by
  simp only [Check.freeIndices, Check.openIndices, Check.kept_any]

theorem Check.openIndices_nodup (c : Check) : c.openIndices.Nodup :=
  List.Nodup.filter _ (by decide)

theorem Check.openIndices_free {c : Check} {i : Nat} (hi : i ∈ c.openIndices) : ∀ x ∈ c.kept, x.index ≠ i := by
  obtain ⟨-, hfree⟩ := List.mem_filter.1 hi
  rw [← Check.kept_any] at hfree
  simpa using hfree

/-- Each kept share takes at most one of the eight indices (R68). -/
theorem Check.openIndices_length (c : Check) : 8 ≤ c.kept.length + c.openIndices.length := by
  have hcover : [1, 2, 3, 4, 5, 6, 7, 8] ⊆ c.kept.map Share.index ++ c.openIndices := fun i hi => by
    rw [List.mem_append, Check.openIndices, List.mem_filter, ← Check.kept_any]
    by_cases hheld : ∃ x ∈ c.kept, x.index = i
    · exact .inl (List.mem_map.2 hheld)
    · exact .inr ⟨hi, by simpa using hheld⟩
  simpa using (List.subperm_of_subset (by decide) hcover).length_le

/-- The dues of the new shares, share by share (R69 to R71). -/
theorem Check.splitDues_eq (c : Check) (o : SplitOperand) :
    c.splitDues o = (List.range o.shares).map (c.dueOf o) := by
  cases o with
  | even n =>
    refine List.map_congr_left fun k _ => ?_
    simp only [Check.dueOf]
    split <;> rfl
  | byLine n a =>
    refine List.map_congr_left fun k _ => ?_
    simp only [Check.dueOf, lineTotal, List.filter_filter, Line.live]
    congr 3
    funext l
    rw [Bool.eq_iff_iff]
    simp
  | byAmount as =>
    refine List.ext_getElem (by simp [Check.splitDues, SplitOperand.shares]) fun k hk _ => ?_
    have hlt : k < as.length := hk
    simp [Check.splitDues, Check.dueOf, hlt]

/-- The new shares of a split, in the mode's order (R68 to R71). -/
def Check.newShares (c : Check) (o : SplitOperand) : List Share :=
  List.zipWith Share.new (c.freeIndices o.count) (c.splitDues o)

theorem Check.splitBy_shares (c : Check) (o : SplitOperand) :
    (c.splitBy o).shares = (c.newShares o).foldl (fun ss x => putBy Share.index x ss) c.kept := rfl

section
variable {c : Check} {o : SplitOperand}

/-- The lowest open indices, one for each new share (R68). -/
theorem Check.newShares_index : (c.newShares o).map Share.index = c.openIndices.take o.shares := by
  have hzip : ((c.openIndices.take o.shares).zip (c.splitDues o)).map Prod.fst = c.openIndices.take o.shares :=
    List.map_fst_zip (by simp [Check.splitDues_eq])
  rw [List.zip, List.map_zipWith] at hzip
  rw [Check.newShares, Check.freeIndices_eq, SplitOperand.count_eq, List.map_zipWith]
  exact hzip

theorem Check.newShares_length (hroom : c.kept.length + o.shares ≤ 8) : (c.newShares o).length = o.shares := by
  have hindex := congrArg List.length (Check.newShares_index (c := c) (o := o))
  have hlen := c.openIndices_length
  rw [List.length_map, List.length_take] at hindex
  omega

/-- The new share number `k`: the open index of that number, with its due (R68 to R71, R73). -/
theorem Check.newShares_get (hroom : c.kept.length + o.shares ≤ 8) {k : Nat} (hk : k < o.shares) :
    ∃ i, c.openIndices[k]? = some i ∧ Share.new i (c.dueOf o k) ∈ c.newShares o := by
  have hlen := c.openIndices_length
  have hopen : k < c.openIndices.length := by omega
  refine ⟨c.openIndices[k], List.getElem?_eq_getElem hopen, List.mem_iff_getElem?.2 ⟨k, ?_⟩⟩
  simp [Check.newShares, Check.freeIndices_eq, SplitOperand.count_eq, Check.splitDues_eq, hk, hopen]

/-- The shares after a split: the new ones, and the kept ones (R68). -/
theorem Check.splitBy_perm : (c.splitBy o).shares.Perm (c.newShares o ++ c.kept) := by
  have hindex := Check.newShares_index (c := c) (o := o)
  rw [Check.splitBy_shares]
  refine foldl_putBy_perm (hindex ▸ c.openIndices_nodup.sublist (List.take_sublist _ _)) fun x hx y hy => ?_
  have hopen : x.index ∈ c.openIndices.take o.shares := hindex ▸ List.mem_map_of_mem hx
  exact Check.openIndices_free (List.mem_of_mem_take hopen) y hy

/-- A split with a new share above 0 leaves that share to be paid (R64, R73). -/
theorem Check.splitBy_unpaid (hroom : c.kept.length + o.shares ≤ 8) (h : ∃ k < o.shares, 0 < c.dueOf o k) :
    (c.splitBy o).shares.all Share.isPaid = false := by
  obtain ⟨k, hk, hdue⟩ := h
  obtain ⟨i, -, hnew⟩ := Check.newShares_get hroom hk
  refine List.all_eq_false.2 ⟨_, Check.splitBy_perm.mem_iff.2 (List.mem_append_left _ hnew), ?_⟩
  simp [Share.new, Share.isPaid, hdue.ne']

end

/-! ### The tests of a SPLIT (R67, R70) -/

theorem Check.firstShare_none {c : Check} {p : Share → Bool} (h : ∀ x ∈ c.shares, p x = false) :
    c.firstShare p = none := by
  rw [Check.firstShare, Option.map_eq_none_iff, List.find?_eq_none]
  simpa using h

theorem firstRepeat_none {is seen : List Nat} (h : is.Nodup) (hseen : ∀ i ∈ is, i ∉ seen) :
    firstRepeat seen is = none := by
  induction is generalizing seen with
  | nil => rfl
  | cons i is ih =>
    obtain ⟨hi, hnodup⟩ := List.nodup_cons.1 h
    obtain ⟨hnew, hrest⟩ := List.forall_mem_cons.1 hseen
    rw [firstRepeat, if_neg hnew]
    refine ih hnodup fun j hj => ?_
    rw [List.mem_cons, not_or]
    exact ⟨fun he => hi (he ▸ hj), hrest j hj⟩

/-- An assignment that names every line once, in groups that are all used, has no fault (R70). -/
theorem Check.assignFault_none {c : Check} {n : Nat} {a : List (Nat × Nat)}
    (hnames : ∀ e ∈ a, ∃ l ∈ c.lines, l.index = e.1 ∧ l.state ≠ .voided) (honce : (a.map Prod.fst).Nodup)
    (hgroup : ∀ e ∈ a, e.2 ≤ n) (hall : ∀ l ∈ c.lines, l.state ≠ .voided → ∃ e ∈ a, e.1 = l.index)
    (hused : ∀ g, 1 ≤ g → g ≤ n → ∃ e ∈ a, e.2 = g) : c.assignFault n a = none := by
  have hnamed : (a.find? fun e => !c.lines.any fun l => l.index == e.1 && l.live) = none := by
    simpa [Line.live] using hnames
  have hfits : (a.find? fun e => decide (n < e.2)) = none := by simpa using hgroup
  have hcovered : (c.lines.find? fun l => l.live && !a.any fun e => e.1 == l.index) = none := by
    simpa [Line.live] using hall
  have hfilled : ((List.range n).all fun g => a.any fun e => e.2 == g + 1) = true := by
    simpa using fun g hg => hused (g + 1) (by omega) (by omega)
  have hfirst : firstRepeat [] (a.map Prod.fst) = none := firstRepeat_none honce fun _ _ => List.not_mem_nil
  simp only [Check.assignFault, hnamed, hfirst, hfits, hcovered, hfilled, if_true]

/-- A SPLIT that fits fails none of the tests 3 to 8 (R67). -/
theorem Check.splitRefusal_none {c : Check} {o : SplitOperand} (h : c.splitFits o) : c.splitRefusal o = none := by
  obtain ⟨hpending, hpart, hbalance, hroom, hmode⟩ := h
  have hquiet : (c.firstShare fun x => decide (x.state = .authorizing)) = none :=
    Check.firstShare_none fun x hx => decide_eq_false (hpending x hx)
  have hwhole : (c.firstShare fun x => decide (0 < x.tendered) && !x.isPaid) = none :=
    Check.firstShare_none fun x hx => by
      by_cases hp : x.state = .paid
      · simp [Share.isPaid, hp]
      · simp [hpart x hx hp]
  have hleft : ¬ (c.balance = 0 ∧ c.kept ≠ []) := fun ⟨hzero, _⟩ => hbalance.ne' hzero
  rw [← Check.kept_length, ← SplitOperand.count_eq] at hroom
  simp only [Check.splitRefusal, hquiet, hwhole, if_neg hleft, if_neg (Nat.not_lt.2 hroom)]
  cases o with
  | even n => rfl
  | byLine n a =>
    obtain ⟨hunpaid, hnames, honce, hgroup, hall, hused⟩ := hmode
    have hnone : c.firstShare Share.isPaid = none := Check.firstShare_none fun x hx => decide_eq_false (hunpaid x hx)
    simp only [hnone, Check.assignFault_none hnames honce hgroup hall hused]
    rfl
  | byAmount as => exact if_pos hmode.1

/-- A SPLIT that passes its tests (R67, R68). -/
theorem splitSlip_accepted {s : State} {t : TillId} {content : List Byte} {n : Nat} {o : SplitOperand} {c : Check}
    (hread : readSplit content = some (n, o)) (hc : s.hasCheck n c) (hact : s.mayAct t c) (hfits : c.splitFits o) :
    splitSlip t (s.till t) content s.work =
      (.yes n ([.code o.mode.code, .amount c.balance] ++ shareListFields (c.splitBy o).shares),
        (s.work.onCheck n (Check.splitBy o)).payments n) := by
  simp only [splitSlip, hread, State.openTo_ok hc hact, Check.splitRefusal_none hfits]

/-- SPLIT in the bill's terms (R67, R68). -/
theorem exec_split_accepted {s : State} {t : TillId} {content : List Byte} {rest : List Slip} {n : Nat}
    {o : SplitOperand} {c : Check} (hhead : s.headSlip t 3 content rest) (hread : readSplit content = some (n, o))
    (hc : s.hasCheck n c) (hact : s.mayAct t c) (hfits : c.splitFits o) :
    exec .split s = .next (((s.afterTaking rest).commit ((s.work.onCheck n (Check.splitBy o)).payments n)).post t
      (.answer 3 (some n) (.accepted
        ([.code o.mode.code, .amount c.balance] ++ shareListFields (c.splitBy o).shares)))) := by
  refine congrArg Host.Outcome.next ((State.takeSlip_till splitSlip hhead).trans ?_)
  rw [splitSlip_accepted hread hc hact hfits]
  rfl

end Sys2Proof.Machine
end

section
/-! PROOFS. What a split leaves to pay (R54, R64, R74, R75), the owners of its lines (R72), and SPLIT as a whole (O38). -/
namespace Sys2Proof.Machine

/-! ### The payment of a check that leaves a share to pay (R54, R64, R74, R75) -/

/-- READY changes no other check. -/
theorem Work.readyTest_other {n m : Nat} (hm : m ≠ n) (w : Work) : (w.readyTest n).check? m = w.check? m := by
  have hsent (es : List Effect) (v : Work) : (es.foldl (fun w e => w.emit e) v).ce = v.ce := by
    induction es generalizing v with
    | nil => rfl
    | cons e es ih => exact ih (v.emit e)
  unfold Work.readyTest
  split
  · split
    · rw [Work.check?, hsent]
      exact Work.check?_onCheck_other (f := fun c => { c with readySent := true }) (fun _ => rfl) hm
    · rfl
  · rfl

/-- The tests of a check that cannot close leave the others (R54, R55). -/
theorem Work.lineTests_other {n m : Nat} {c : Check} {w : Work} (hc : w.check? n = some c) (h : c.closable = false)
    (hm : m ≠ n) : (w.lineTests n).check? m = w.check? m := by
  obtain ⟨⟨b, hb⟩, -⟩ := Work.readyTest_spec hc
  have hnot : ({ c with readySent := b } : Check).closable = false := h
  have hstay : w.lineTests n = w.readyTest n := by simp [Work.lineTests, Work.closureTest, hb, hnot]
  rw [hstay, Work.readyTest_other hm]

/-- A change of a check that does nothing the second time is made once. -/
theorem Work.onCheck_twice {n : Nat} {f : Check → Check} (hn : ∀ c, (f c).number = c.number) (hf : ∀ c, f (f c) = f c)
    (w : Work) : (w.onCheck n f).onCheck n f = w.onCheck n f := by
  have hmap (cs : List Check) : mapBy Check.number n f (mapBy Check.number n f cs) = mapBy Check.number n f cs := by
    rw [mapBy, mapBy, List.map_map]
    refine List.map_congr_left fun c _ => ?_
    by_cases h : c.number = n <;> simp [h, hn, hf]
  simp only [Work.onCheck, hmap]

/-- A payment sets the check's state first, and setting it before makes no difference (R64). -/
theorem Work.payments_set {n : Nat} (w : Work) :
    (w.onCheck n fun c => { c with state := c.payState }).payments n = w.payments n := by
  have htwice := Work.onCheck_twice (n := n) (f := fun c => { c with state := c.payState }) (fun _ => rfl)
    (fun _ => rfl) w
  simp only [Work.payments, htwice]

theorem Check.sharePaid_eq (c : Check) : c.sharePaid = fun i =>
    c.shares.any fun x => decide (x.state = .paid) && decide (x.index = i) := by
  funext i
  refine List.any_congr rfl fun x => ?_
  rw [Bool.and_comm]
  rfl

/-- While a share is unpaid, a payment releases the HELD lines of PAID shares (R74, R75). -/
theorem Check.released_eq {c : Check} (hunpaid : c.shares.all Share.isPaid = false) : c.released =
    (c.lines.filter fun l => decide (l.state = .held) && l.owner.any c.sharePaid).map Line.index := by
  refine congrArg (List.map Line.index) (List.filter_congr fun l _ => congrArg (decide (l.state = .held) && ·) ?_)
  cases l.owner with
  | none => exact hunpaid
  | some i => rfl

theorem Check.mem_released {c : Check} (hnodup : (c.lines.map Line.index).Nodup)
    (hunpaid : c.shares.all Share.isPaid = false) {l : Line} (hl : l ∈ c.lines) :
    l.index ∈ c.released ↔ (decide (l.state = .held) && l.owner.any c.sharePaid) = true := by
  rw [Check.released_eq hunpaid, List.mem_map]
  constructor
  · rintro ⟨x, hx, hi⟩
    obtain ⟨hx, hpays⟩ := List.mem_filter.1 hx
    rwa [← List.inj_on_of_nodup_map hnodup hx hl hi]
  · exact fun h => ⟨l, List.mem_filter.2 ⟨hl, h⟩, rfl⟩

/-- A payment of check `n` that leaves a share to pay: the check is OPEN, with READY told or not; of its lines those that
a FIRE_ON_PAY stand releases, with indices among `is`, have been sent as `f` says; and no other check, no authorization
and no record has changed (R54, R64, R74, R75). -/
structure Work.PaysInPart (n : Nat) (c : Check) (is : List Nat) (f : Line → Line) (w v : Work) : Prop where
  self     : ∃ b, v.check? n = some { c.mapLines f with state := .opened, readySent := b }
  other    : ∀ m, m ≠ n → v.check? m = w.check? m
  fires    : v.FiresLines c is f
  released : is = if (w.stand c.stand).policy = .fireOnPay then c.released else []
  sent     : ∀ l : Line, l.SentAs (f l)
  rest     : ∀ l : Line, l.index ∉ is → f l = l
  sj       : v.sj = w.sj
  tu       : v.tu = w.tu

theorem Work.payments_unpaid {n : Nat} {c : Check} {w : Work} (hc : w.check? n = some c)
    (hunpaid : c.shares.all Share.isPaid = false) : ∃ f is, w.PaysInPart n c is f (w.payments n) := by
  have hopen : c.payState = .opened := if_neg (by simp [hunpaid])
  have hset := Work.check?_onCheck_self (f := fun c => { c with state := c.payState }) (fun _ => rfl) hc
  rw [hopen] at hset
  obtain ⟨f, is, v, hs, hf, hv, honpay, honorder, -⟩ := Work.payments_sends hset hopen
  have hcheck := hs.self _ hset
  have hstays : (({ c with state := .opened } : Check).mapLines f).closable = false := rfl
  obtain ⟨hself, hrest⟩ := Work.lineTests_open hcheck hstays
  rw [Work.payments_set] at hv
  rw [hv]
  refine ⟨f, is, hself, fun m hm => ?other, ?fires, ?released, hs.sent, hs.rest, ?sj, ?tu⟩
  case other =>
    rw [Work.lineTests_other hcheck hstays hm, hs.other m hm]
    exact Work.check?_onCheck_other (f := fun c => { c with state := c.payState }) (fun _ => rfl) hm
  case fires => rw [Work.FiresLines, hrest]; exact hf
  case released =>
    cases hp : (w.stand c.stand).policy with
    | fireOnOrder => exact honorder hp
    | fireOnPay => exact honpay hp
  case sj => rw [hrest]; exact hs.sj
  case tu => rw [hrest]; exact hs.tu

/-- Whether a payment in part releases a line of the check (R74, R75). -/
theorem Work.PaysInPart.mem {n : Nat} {c : Check} {is : List Nat} {f : Line → Line} {w v : Work}
    (h : w.PaysInPart n c is f v) (hnodup : (c.lines.map Line.index).Nodup)
    (hunpaid : c.shares.all Share.isPaid = false) {l : Line} (hl : l ∈ c.lines) :
    l.index ∈ is ↔ (decide ((w.stand c.stand).policy = .fireOnPay) && decide (l.state = .held) &&
      l.owner.any fun i => c.shares.any fun x => decide (x.state = .paid) && decide (x.index = i)) = true := by
  rw [h.released, ← Check.sharePaid_eq, Bool.and_assoc]
  cases (w.stand c.stand).policy with
  | fireOnOrder => simp
  | fireOnPay => simpa using Check.mem_released hnodup hunpaid hl

/-! ### The lines of a split (R72, R74) -/

/-- A line with the owner share that a split gives it (R72). -/
def Check.ownLine (c : Check) (o : SplitOperand) (l : Line) : Line := { l with owner := c.splitOwner o l }

theorem Check.splitBy_lines (c : Check) (o : SplitOperand) : (c.splitBy o).lines = c.lines.map (c.ownLine o) := rfl

/-- The owners of the lines after a split (R72). -/
theorem Check.splitOwner_eq (c : Check) (o : SplitOperand) (l : Line) : c.splitOwner o l =
    match o with
    | .byLine _ a => if l.state = .voided then none else (a.find? fun e => e.1 == l.index).map Prod.snd
    | _ => l.owner.filter fun i => c.shares.any fun x => decide (x.state = .paid) && decide (x.index = i) := by
  cases o with
  | byLine n a => by_cases h : l.state = .voided <;> simp [Check.splitOwner, Line.live, h]
  | even n => simp only [Check.splitOwner, Check.kept_any]
  | byAmount as => simp only [Check.splitOwner, Check.kept_any]

/-- Of the lines of a check, changed by `g` and then on their way to the kitchen by `f`, those that a test picks have
been fired together where they are the ones sent, and every other is as `g` left it (R74). -/
theorem State.fired_of_picked {u : State} {v : Work} {c : Check} {ls : List Line} {is : List Nat} {f g : Line → Line}
    {pick : Line × Line → Bool} (hlines : c.lines = ls.map g) (hf : v.FiresLines c is f)
    (hindex : ∀ l : Line, (f l).index = l.index) (hrest : ∀ l : Line, l.index ∉ is → f l = l) (hu : u.ce = v.ce)
    (hpick : ∀ l ∈ ls, pick (l, f (g l)) = true ↔ (g l).index ∈ is) :
    u.fired c.number (((ls.zip ((ls.map g).map f)).filter pick).map Prod.snd) ∧
      ∀ p ∈ ls.zip ((ls.map g).map f), pick p = false → p.2 = g p.1 := by
  have hzip : ls.zip ((ls.map g).map f) = ls.map fun l => (l, f (g l)) := by
    rw [List.map_map]
    simpa using List.zip_map' (f := id) (g := f ∘ g) (l := ls)
  rw [hzip]
  constructor
  · rw [List.filter_map, List.map_map]
    change u.fired c.number ((ls.filter fun l => pick (l, f (g l))).map (f ∘ g))
    rw [← List.map_map]
    refine State.fired_of_firesLines hf hindex hu (List.forall_mem_map.2 fun l hl => ?_)
    obtain ⟨hl, hpicked⟩ := List.mem_filter.1 hl
    exact ⟨hlines ▸ List.mem_map_of_mem hl, (hpick l hl).1 hpicked⟩
  · refine List.forall_mem_map.2 fun l hl hnot => hrest _ fun hi => ?_
    rw [(hpick l hl).2 hi] at hnot
    cases hnot

/-! ### SPLIT (R66 to R75) -/

/-- Settles O38. -/
theorem splitsShareTheBalance : Obligations.SplitsShareTheBalance := by
  intro s t content rest n o c hhead hread hc hact hfits hdue hnodup
  have ⟨_, _, _, hroom, _⟩ := hfits
  rw [← Check.kept_length] at hroom
  obtain rfl : c.number = n := (lookupBy_some hc).2
  have hperm := Check.splitBy_perm (c := c) (o := o)
  have hunpaid := Check.splitBy_unpaid hroom hdue
  have hsplit : (s.work.onCheck c.number (Check.splitBy o)).check? c.number = some (c.splitBy o) :=
    Work.check?_onCheck_self (fun _ => rfl) hc
  obtain ⟨f, is, hpart⟩ := Work.payments_unpaid hsplit hunpaid
  obtain ⟨b, hself⟩ := hpart.self
  have hindex (l : Line) : (f l).index = l.index := by rw [← hpart.sent l]
  have howner (l : Line) : (f l).owner = l.owner := by rw [← hpart.sent l]
  have hindices : (c.splitBy o).lines.map Line.index = c.lines.map Line.index := by
    rw [Check.splitBy_lines, List.map_map]
    rfl
  refine ⟨_, { (c.splitBy o).mapLines f with state := .opened, readySent := b },
    exec_split_accepted hhead hread hc hact hfits, ?self, rfl, rfl, rfl, fun x hx hpaid => ?kept, fun k hk => ?new,
    ?count, ?indices, ?owners, ?lines, ?sj, ?tu, fun m hm => ?other⟩
  case self => rw [State.hasCheck, State.commit_ce]; exact hself
  case kept =>
    exact hperm.mem_iff.2 (List.mem_append_right _ (List.mem_filter.2 ⟨hx, decide_eq_true hpaid⟩))
  case new =>
    obtain ⟨i, hi, hnew⟩ := Check.newShares_get hroom hk
    exact ⟨i, hi, hperm.mem_iff.2 (List.mem_append_left _ hnew)⟩
  case count =>
    refine hperm.length_eq.trans ?_
    rw [List.length_append, Check.newShares_length hroom, Check.kept_length, Nat.add_comm]
  case indices =>
    rw [← hindices, Check.mapLines_lines, List.map_map]
    exact List.map_congr_left fun l _ => hindex l
  case owners =>
    rw [Check.mapLines_lines, Check.splitBy_lines, List.map_map, List.map_map]
    exact List.map_congr_left fun l _ => (howner _).trans (Check.splitOwner_eq c o l)
  case lines =>
    intro paysFor
    have hpick : ∀ l ∈ c.lines, paysFor (l, f (c.ownLine o l)) = true ↔ (c.ownLine o l).index ∈ is := fun l hl => by
      have hl' : c.ownLine o l ∈ (c.splitBy o).lines := List.mem_map_of_mem hl
      rw [hpart.mem (hindices ▸ hnodup) hunpaid hl', ← howner (c.ownLine o l)]
      rfl
    obtain ⟨hfired, hothers⟩ :=
      State.fired_of_picked (c.splitBy_lines o) hpart.fires hindex hpart.rest (State.commit_ce _ _) hpick
    refine ⟨hfired, fun p hp hnot => ?_⟩
    rw [hothers p hp hnot]
    rfl
  case sj => rw [State.commit_sj, hpart.sj]; rfl
  case tu => rw [State.commit_tu, hpart.tu]; rfl
  case other =>
    rw [State.commit_ce]
    exact (hpart.other m hm).trans (Work.check?_onCheck_other (f := Check.splitBy o) (fun _ => rfl) hm)

end Sys2Proof.Machine
end

section
/-! PROOFS. Authorization answers by where their tag is held, and the late window (R90, R93, R95 to R97, R99). -/
namespace Sys2Proof.Machine

/-! ### Keyed tables, and a piece of work that sends nothing -/

theorem lookupBy_isSome_iff {α : Type} {key : α → Nat} {k : Nat} {l : List α} :
    (lookupBy key k l).isSome = true ↔ ∃ x ∈ l, key x = k := by
  simp [lookupBy, List.find?_isSome]

theorem lookupBy_eq_none_iff {α : Type} {key : α → Nat} {k : Nat} {l : List α} :
    lookupBy key k l = none ↔ ∀ x ∈ l, key x ≠ k := by
  simp [lookupBy]

theorem eraseBy_eq {α : Type} (key : α → Nat) (k : Nat) (l : List α) :
    eraseBy key k l = l.filter fun x => decide (key x ≠ k) :=
  List.filter_congr fun x _ => by rw [bne, beq_eq_decide, decide_not]

/-- A piece of work that sends nothing changes its blocks alone (R41). -/
theorem State.commit_silent {w : Work} (h : w.fx = []) (s : State) : s.commit w = s.putWork w := by
  rw [State.commit, h, List.foldl_nil]

/-- A piece of work that sends one event is carried out, and the event raised (R41, R159). -/
theorem State.commit_raise (e : Event) (w : Work) (s : State) : s.commit (w.raise e) = (s.commit w).raise e :=
  State.commit_emit (.event e) w s

/-! ### An answer settled without its check (R93, R96) -/

/-- The pairs of an outcome at expiry and a verdict that call for a LATE_ANSWER record (R96). -/
theorem lateNeedsRecord_iff (o : ExpiryOutcome) (v : Verdict) : lateNeedsRecord o v = true ↔
    (o, v) ∈ [(ExpiryOutcome.removed, Verdict.approve), (.deferred, .decline), (.voided, .approve)] := by
  cases o <;> cases v <;> decide

theorem Work.settleLate_record {o : ExpiryOutcome} {v : Verdict} (h : lateNeedsRecord o v = true) (e : AuthEntry)
    (w : Work) : w.settleLate e o v = w.append (.lateAnswer e.tag e.check e.amount o v) :=
  if_pos h

theorem Work.settleLate_release {o : ExpiryOutcome} {v : Verdict} (h : ¬ lateNeedsRecord o v = true) (e : AuthEntry)
    (w : Work) : w.settleLate e o v = w.release :=
  if_neg h

/-- The journal after a record is appended (R140, R142). -/
theorem Work.append_sj_eq (b : RecordBody) (w : Work) : (w.append b).sj = { w.sj with
    records := w.sj.records ++ [Record.mk w.sj.recordCtr w.now b]
    reservations := w.sj.reservations - 1
    recordCtr := if w.sj.recordCtr < 4294967295 then w.sj.recordCtr + 1 else 1 } := by
  rw [← wrapNext_eq]
  rfl

/-! ### An answer on arrival (R90, R96, R97) -/

theorem Work.answerArrives_live {tag : Nat} {w : Work} (h : ∃ e ∈ w.tu.live, e.tag = tag) (v : Verdict) :
    w.answerArrives tag v = { w with ce := { w.ce with answers := w.ce.answers ++ [(tag, v)] } } :=
  if_pos (lookupBy_isSome_iff.2 h)

theorem Work.answerArrives_notLive {tag : Nat} {w : Work} (h : ∀ e ∈ w.tu.live, e.tag ≠ tag) (v : Verdict) :
    w.answerArrives tag v = w.answerNotLive tag v :=
  if_neg (by rw [Work.live?, lookupBy_eq_none_iff.2 h]; simp)

theorem Work.answerNotLive_expired {tag : Nat} {w : Work} {e : ExpiredEntry} (h : w.expired? tag = some e)
    (v : Verdict) : w.answerNotLive tag v =
      ({ w with tu := { w.tu with expired := w.tu.expired.filter fun x => x.entry.tag != tag } } : Work).settleLate
        e.entry e.outcome v := by
  simp only [Work.answerNotLive, h]

theorem Work.answerNotLive_unknown {tag : Nat} {w : Work} (h : ∀ e ∈ w.tu.expired, e.entry.tag ≠ tag) (v : Verdict) :
    w.answerNotLive tag v = w.raise (.unknownTag tag v) := by
  have hnone : w.expired? tag = none := by simpa [Work.expired?] using h
  simp only [Work.answerNotLive, hnone]

/-- The piece of work that a state offers once an envelope has been counted: nothing but the uplink state it reads can
differ (R152). -/
theorem State.countEnvelope_work (s : State) :
    s.countEnvelope.work = { s.work with uplink := s.countEnvelope.upc.state } := by
  obtain ⟨x, p, q, h⟩ := s.countEnvelope_frame
  rw [h]
  rfl

/-- A well-formed AUTH ANSWER is one piece of work of the Tender Unit while the part is RUNNING (R90, R149). -/
theorem exec_authAnswer {s : State} {fr : EthFrame} {content : List Byte} {tag : Nat} {v : Verdict}
    (hpart : s.upc.part = .running) (hread : readEnvelope fr = some (3, content))
    (hans : readAuthAnswer content = some (tag, v)) :
    exec (.authAnswer fr) s = .next (s.countEnvelope.doWork (Work.answerArrives tag v)) := by
  have hrun : s.countEnvelope.running = true := by
    obtain ⟨x, p, q, hcount⟩ := s.countEnvelope_frame
    simp [hcount, State.running, hpart]
  refine congrArg Host.Outcome.next ((State.takeEnvelope_wanted (by simp [hpart]) hread rfl).trans ?_)
  simp only [hans, hrun, if_true]

/-- Settles O21. -/
theorem authAnswersAreMatchedByTag : Obligations.AuthAnswersAreMatchedByTag := by
  intro s fr content tag v hpart hread hans s' recorded
  obtain ⟨x, p, q, hcount⟩ := s.countEnvelope_frame
  rw [exec_authAnswer hpart hread hans, State.doWork]
  refine ⟨fun e he htag => ?live, fun e hnot hfind => ⟨fun hrec => ?recorded, fun hrel => ?released⟩⟩
  case live =>
    rw [State.countEnvelope_work, Work.answerArrives_live ⟨e, he, htag⟩, State.commit_silent rfl]
    simp only [s', hcount]
    rfl
  all_goals
    have hexpired : Work.expired? tag { s.work with uplink := s.countEnvelope.upc.state } = some e := hfind
    rw [State.countEnvelope_work, Work.answerArrives_notLive hnot, Work.answerNotLive_expired hexpired]
    have htag : e.entry.tag = tag := by simpa using List.find?_some hfind
  case recorded =>
    rw [Work.settleLate_record ((lateNeedsRecord_iff _ _).2 hrec), State.commit_silent rfl, State.putWork,
      Work.append_sj_eq, htag]
    simp only [s', hcount]
    rfl
  case released =>
    rw [Work.settleLate_release (fun h => hrel ((lateNeedsRecord_iff _ _).1 h)), State.commit_silent rfl]
    simp only [s', hcount]
    rfl

/-! ### An answer taken (R90, R93, R97) -/

/-- An offer that stands in a list of offers is taken where it stands first. -/
theorem takeFirst_mem {α : Type} [DecidableEq α] [BEq α] [LawfulBEq α] {a : α} {l : List α} (h : a ∈ l) :
    takeFirst (fun x => decide (x = a)) l = some (a, l.erase a) := by
  induction l with
  | nil => cases h
  | cons x xs ih =>
    by_cases hx : x = a
    · simp [takeFirst, hx]
    · have hxs : a ∈ xs := (List.mem_cons.1 h).resolve_left (Ne.symm hx)
      simp [takeFirst, hx, ih hxs, List.erase_cons_tail]

/-- The state once an answer that has been offered has left the list of offers (R90). -/
def State.taking (a : Nat × Verdict) (s : State) : State :=
  { s with ce := { s.ce with answers := s.ce.answers.erase a } }

theorem exec_authAnswerTaken {s : State} {tag : Nat} {v : Verdict} (h : (tag, v) ∈ s.ce.answers) :
    exec (.authAnswerTaken tag v) s = .next ((s.taking (tag, v)).doWork (Work.answerTaken tag v)) := by
  refine congrArg Host.Outcome.next ?_
  simp only [takeFirst_mem h]
  rfl

theorem Work.answerTaken_live {tag : Nat} {w : Work} {e : AuthEntry} (h : w.live? tag = some e) (v : Verdict) :
    w.answerTaken tag v = if e.orphan then (w.freeEntry tag).settleLate e .voided v else w.answerLive e v := by
  simp only [Work.answerTaken, h]

theorem Work.answerTaken_notLive {tag : Nat} {w : Work} (h : ∀ e ∈ w.tu.live, e.tag ≠ tag) (v : Verdict) :
    w.answerTaken tag v = w.answerNotLive tag v := by
  have hnone : w.live? tag = none := lookupBy_eq_none_iff.2 h
  simp only [Work.answerTaken, hnone]

/-- Settles O22. -/
theorem unmatchedAnswersAreReported : Obligations.UnmatchedAnswersAreReported := by
  refine ⟨fun s fr content tag v hpart hread hans hlive hexpired => ?arrives,
    fun s tag v rest hhead hlive hexpired => ?taken, fun s tag v hmask => State.raise_masked _ s hmask⟩
  case arrives =>
    have hwork := s.countEnvelope_work
    have hsame : Work.answerArrives tag v s.countEnvelope.work = s.countEnvelope.work.raise (.unknownTag tag v) := by
      rw [Work.answerArrives_notLive (by rw [hwork]; exact hlive),
        Work.answerNotLive_unknown (by rw [hwork]; exact hexpired)]
    rw [exec_authAnswer hpart hread hans, State.doWork, hsame, State.commit_raise, State.commit_work]
  case taken =>
    have htaken : s.taking (tag, v) = { s with ce := { s.ce with answers := rest } } := by
      simp [State.taking, hhead]
    rw [exec_authAnswerTaken (by simp [hhead]), State.doWork,
      Work.answerTaken_notLive (w := (s.taking (tag, v)).work) hlive,
      Work.answerNotLive_unknown (w := (s.taking (tag, v)).work) hexpired, State.commit_raise, State.commit_work,
      htaken]

/-! ### The late window (R95, R99) -/

/-- The journal after `k` reservations have been released: the low flag is as the last of them leaves it (R142,
R143). -/
def Journal.released (k : Nat) (j : Journal) : Journal :=
  { j with
    reservations := j.reservations - k
    low := j.low && (decide (k = 0) || decide (2048 - j.records.length - (j.reservations - k) ≤ j.warnLevel)) }

theorem Journal.released_zero (j : Journal) : j.released 0 = j := by
  simp [Journal.released]

theorem Work.release_eq (w : Work) : w.release = { w with sj := w.sj.released 1 } := by
  simp [Work.release, Journal.released, Journal.rise, Journal.free, journalSize]

/-- The space only rises as reservations are released, so that the last release decides the low flag (R143). -/
theorem Journal.released_succ (k : Nat) (j : Journal) : (j.released 1).released k = j.released (k + 1) := by
  have hres : j.reservations - 1 - k = j.reservations - (k + 1) := by omega
  have hlow (size level : Nat) : (decide (size - (j.reservations - 1) ≤ level) &&
      (decide (k = 0) || decide (size - (j.reservations - (k + 1)) ≤ level))) =
        decide (size - (j.reservations - (k + 1)) ≤ level) := by
    rw [Bool.eq_iff_iff]
    simp only [Bool.and_eq_true, Bool.or_eq_true, decide_eq_true_eq]
    omega
  simp only [Journal.released, Bool.and_assoc, hres, one_ne_zero, Nat.add_eq_zero_iff, and_false, decide_false,
    Bool.false_or, hlow]

theorem Work.dropOldest_cons {w : Work} {e : ExpiredEntry} {rest : List ExpiredEntry} (h : w.tu.expired = e :: rest) :
    w.dropOldest = ({ w with tu := { w.tu with expired := rest } } : Work).release := by
  simp only [Work.dropOldest, h]

/-- The oldest entries, as long as they have reached the late window, are dropped one by one, each with its reservation
(R95, R99). -/
theorem Work.dropLate_eq {old kept : List ExpiredEntry} {w : Work} {n : Nat} (hlist : w.tu.expired = old ++ kept)
    (hold : ∀ e ∈ old, w.tu.lateWindow ≤ e.age) (hkept : ∀ e ∈ kept, e.age < w.tu.lateWindow) (hn : old.length ≤ n) :
    w.dropLate n = { w with tu := { w.tu with expired := kept }, sj := w.sj.released old.length } := by
  induction old generalizing w n with
  | nil =>
    have hsame : w.tu.expired = kept := hlist
    have hstop : w.dropLate n = w := by
      cases n with
      | zero => rfl
      | succ n =>
        cases kept with
        | nil => simp only [Work.dropLate, hsame]
        | cons e kept =>
          have hyoung : ¬ w.tu.lateWindow ≤ e.age := Nat.not_le.2 (hkept e List.mem_cons_self)
          simp only [Work.dropLate, hsame, if_neg hyoung]
    rw [hstop, List.length_nil, Journal.released_zero, ← hsame]
  | cons e old ih =>
    obtain ⟨hfirst, hothers⟩ := List.forall_mem_cons.1 hold
    obtain ⟨m, rfl⟩ : ∃ m, n = m + 1 := ⟨n - 1, by simp at hn; omega⟩
    have hdrop : w.dropOldest = { w with tu := { w.tu with expired := old ++ kept }, sj := w.sj.released 1 } := by
      rw [Work.dropOldest_cons hlist, Work.release_eq]
      rfl
    have hstep : w.dropLate (m + 1) = w.dropOldest.dropLate m := by
      simp only [Work.dropLate, hlist, List.cons_append, if_pos hfirst]
    have hrest : ({ w with tu := { w.tu with expired := old ++ kept }, sj := w.sj.released 1 } : Work).tu.expired =
        old ++ kept := rfl
    rw [hstep, hdrop, ih hrest hothers hkept (by simpa using hn)]
    simp only [Journal.released_succ, List.length_cons]

theorem exec_setAuthTimes {s : State} {tag wait window : Nat}
    (h : s.nextBlock = some (tag, .setAuthTimes wait window)) : exec .setAuthTimes s =
      .next (State.finishBlock (setAuthTimes wait window s.work).1 (s.commit (setAuthTimes wait window s.work).2)) :=
  congrArg Host.Outcome.next (State.block_work h rfl)

/-- Settles O43. -/
theorem lateWindowsDropEntries : Obligations.LateWindowsDropEntries := by
  refine ⟨fun s e rest hlist => ⟨fun hyoung => ?stays, fun hold => ?drops⟩,
    fun s tag wait window old kept hnext hw1 hw2 hl1 hl2 hlist hold hkept => ?times⟩
  case stays =>
    refine congrArg Host.Outcome.next ?_
    simp only [hlist, if_neg (Nat.not_le.2 hyoung)]
  case drops =>
    refine congrArg Host.Outcome.next ?_
    simp only [hlist, if_pos hold, State.doWork]
    rw [Work.dropOldest_cons (w := s.work) hlist, State.commit_silent rfl]
    rfl
  case times =>
    have hfits : ¬ (wait < 5 ∨ 60 < wait) ∧ ¬ (window < 10 ∨ 600 < window) := by omega
    rw [exec_setAuthTimes hnext]
    simp only [setAuthTimes, if_neg hfits.1, if_neg hfits.2]
    rw [Work.dropLate_eq (old := old) (kept := kept) hlist hold hkept (by simp [hlist]), State.commit_silent rfl]
    have hempty : old.isEmpty = decide (old.length = 0) := by cases old <;> rfl
    rw [hempty]
    rfl

end Sys2Proof.Machine
end

section
/-! PROOFS. What a payment leaves of its check, which stays or closes (R54, R55, R64, R74, R75), and a tender as it is
read (R80). -/
namespace Sys2Proof.Machine

/-! ### The answers that are offered -/

/-- The completion of a close leaves the answers that wait (R165). -/
theorem Work.closeTest_answers (sd : StandId) (w : Work) : (w.closeTest sd).ce.answers = w.ce.answers := by
  unfold Work.closeTest
  split
  · have hfold := Work.KitchenOnly.foldl (f := fun w n => w.freeRaw n) (fun w n => w.freeRaw_kitchenOnly n)
      (w.recallTickets sd) w
    exact (congrArg CheckEngine.answers hfold.ce).trans rfl
  · rfl

theorem Work.readyTest_answers (n : Nat) (w : Work) : (w.readyTest n).ce.answers = w.ce.answers := by
  cases hc : w.check? n with
  | none => simp only [Work.readyTest, hc]
  | some c => rw [(Work.readyTest_spec hc).2]

/-- READY and closure leave the answers that wait (R54, R55). -/
theorem Work.lineTests_answers (n : Nat) (w : Work) : (w.lineTests n).ce.answers = w.ce.answers := by
  have hready := w.readyTest_answers n
  unfold Work.lineTests Work.closureTest
  split
  · split
    · exact (Work.closeTest_answers _ _).trans hready
    · exact hready
  · exact hready

/-! ### What a payment leaves (R54, R55, R64, R74, R75) -/

/-- A payment of check `n` that closes it: every share is PAID, and the check has left the table with its record. -/
structure Work.PaysClosing (n : Nat) (c : Check) (w v : Work) : Prop where
  paid    : c.shares.all Share.isPaid = true
  gone    : ∀ d ∈ v.ce.checks, d.number ≠ n
  sj      : v.sj = (w.append (.checkClosed c.summary)).sj
  tu      : v.tu = w.tu
  answers : v.ce.answers = w.ce.answers

/-- A payment of check `n` that leaves it in the table: its state is as its shares say, its lines may have been sent to
the kitchen, READY has been told or not, and no record is written. -/
structure Work.PaysStaying (n : Nat) (c : Check) (w v : Work) : Prop where
  self    : ∃ f b, v.check? n = some { c.mapLines f with state := c.payState, readySent := b }
  sj      : v.sj = w.sj
  tu      : v.tu = w.tu
  answers : v.ce.answers = w.ce.answers

theorem Work.payments_ends {n : Nat} {c : Check} {w : Work} (hc : w.check? n = some c) :
    w.PaysClosing n c (w.payments n) ∨ w.PaysStaying n c (w.payments n) := by
  have hset := Work.check?_onCheck_self (f := fun c => { c with state := c.payState }) (fun _ => rfl) hc
  obtain ⟨f, is, v, hs, hf, hv, -, -, -⟩ := Work.payments_sends hset rfl
  rw [Work.payments_set] at hv
  have hcheck := hs.self _ hset
  have hanswers : (v.lineTests n).ce.answers = w.ce.answers := by
    rw [Work.lineTests_answers, hs.ce]
    rfl
  rw [hv]
  by_cases hclose : (({ c with state := c.payState } : Check).mapLines f).closable = true
  · obtain ⟨hgone, -, htu, hsj⟩ := Work.lineTests_closes hcheck hclose
    rw [Check.closable_unsent hf hs.rest hclose] at hsj
    refine .inl ⟨?paid, hgone, ?sj, htu.trans hs.tu, hanswers⟩
    case paid =>
      have hpaid : c.payState = .paid := of_decide_eq_true (Bool.and_eq_true_iff.1 hclose).1
      by_contra hnot
      rw [Check.payState, if_neg hnot] at hpaid
      cases hpaid
    case sj =>
      rw [hsj]
      simp only [Work.append, hs.sj, hs.now]
      rfl
  · obtain ⟨⟨b, hb⟩, hrest⟩ := Work.lineTests_open hcheck (Bool.eq_false_iff.2 hclose)
    refine .inr ⟨⟨f, b, hb⟩, ?_, ?_, hanswers⟩
    · rw [hrest]
      exact hs.sj
    · rw [hrest]
      exact hs.tu

section
variable {n : Nat} {c d : Check} {w v : Work} {u : State}

theorem Work.PaysClosing.not_hasCheck (h : w.PaysClosing n c v) (hu : u.ce = v.ce) : ¬ u.hasCheck n d := fun hd =>
  h.gone d (hu ▸ (lookupBy_some hd).1) (lookupBy_some hd).2

theorem Work.PaysStaying.hasCheck (h : w.PaysStaying n c v) (hu : u.ce = v.ce) : ∃ d, u.hasCheck n d := by
  obtain ⟨f, b, hself⟩ := h.self
  exact ⟨_, by rw [State.hasCheck, hu]; exact hself⟩

/-- The check that stays keeps its bill (R64). -/
theorem Work.PaysStaying.bill (h : w.PaysStaying n c v) (hu : u.ce = v.ce) (hd : u.hasCheck n d) :
    d.shares = c.shares ∧ d.total = c.total ∧ d.state = c.payState := by
  obtain ⟨f, b, hself⟩ := h.self
  rw [State.hasCheck, hu] at hd
  obtain rfl := Option.some.inj (hself.symm.trans hd)
  exact ⟨rfl, rfl, rfl⟩

end

/-- After a payment, whether its check stays or closes. -/
theorem Work.payments_bill {n : Nat} {c d : Check} {w : Work} {u : State} (hc : w.check? n = some c)
    (hu : u.ce = (w.payments n).ce) (hd : u.hasCheck n d) :
    d.shares = c.shares ∧ d.total = c.total ∧ d.state = c.payState :=
  (Work.payments_ends hc).elim (fun h => absurd hd (h.not_hasCheck hu)) fun h => h.bill hu hd

/-- A check that a payment makes leave the table was paid (R55). -/
theorem Work.payments_closing {n : Nat} {c : Check} {w : Work} {u : State} (hc : w.check? n = some c)
    (hu : u.ce = (w.payments n).ce) (hgone : ∀ d, ¬ u.hasCheck n d) : w.PaysClosing n c (w.payments n) :=
  (Work.payments_ends hc).resolve_right fun h => (h.hasCheck hu).elim hgone

/-- A payment that leaves a share to pay closes nothing (R55). -/
theorem Work.payments_staying {n : Nat} {c : Check} {w : Work} (hc : w.check? n = some c)
    (h : c.shares.all Share.isPaid = false) : w.PaysStaying n c (w.payments n) :=
  (Work.payments_ends hc).resolve_left fun hclose => by simp [hclose.paid] at h

theorem Work.payments_tu {n : Nat} {c : Check} {w : Work} (hc : w.check? n = some c) : (w.payments n).tu = w.tu :=
  (Work.payments_ends hc).elim (·.tu) (·.tu)

/-! ### Shares changed by index (4.1) -/

theorem mapBy_eq {α : Type} (key : α → Nat) (k : Nat) (f : α → α) (l : List α) :
    mapBy key k f l = l.map fun x => if key x = k then f x else x := by
  simp [mapBy]

theorem Check.onShare_shares (i : Nat) (f : Share → Share) (c : Check) :
    (c.onShare i f).shares = c.shares.map fun x => if x.index = i then f x else x :=
  mapBy_eq Share.index i f c.shares

theorem Check.payState_code (c : Check) :
    c.payState.code = if c.shares.all fun x => decide (x.state = .paid) then 2 else 1 := by
  change (if c.shares.all Share.isPaid then CheckState.paid else .opened).code =
    if c.shares.all Share.isPaid then 2 else 1
  split <;> rfl

/-- A share tested against its due (R78). -/
theorem Share.tested_eq (x : Share) : x.tested = { x with
    state := if decide (x.tendered = x.due) && x.tenders.all (fun z => decide (z.state ≠ .pending)) then .paid
      else .due } := by
  simp [Share.tested]

/-! ### A tender as it is read (R80, R174) -/

theorem bytesOf_length (w n : Nat) : (bytesOf w n).length = w := by
  induction w with
  | zero => rfl
  | succ w ih => exact congrArg (· + 1) ih

/-- A number is read back from the low bytes it was written in. -/
theorem natOf_bytesOf {w n : Nat} (h : n < 256 ^ w) : natOf (bytesOf w n) = n := by
  have key (w acc : Nat) :
      (bytesOf w n).foldl (fun m (b : Byte) => m * 256 + b.toNat) acc = acc * 256 ^ w + n % 256 ^ w := by
    induction w generalizing acc with
    | zero => simp [bytesOf, Nat.mod_one]
    | succ w ih =>
      rw [bytesOf, List.foldl_cons, ih, BitVec.toNat_ofNat, Nat.mod_pow_succ (b := 256) (k := w), Nat.pow_succ]
      ring
  rw [natOf, key, Nat.zero_mul, Nat.zero_add, Nat.mod_eq_of_lt h]

theorem cut_bytesOf {w n : Nat} (h : n < 256 ^ w) (ws : List Nat) (rest : List Byte) :
    cut (w :: ws) (bytesOf w n ++ rest) = (cut ws rest).map fun r => (n :: r.1, r.2) := by
  have hlen : ¬ (bytesOf w n ++ rest).length < w := by simp [bytesOf_length]
  rw [cut, if_neg hlen, List.drop_left' (bytesOf_length w n), List.take_left' (bytesOf_length w n), natOf_bytesOf h]
  cases cut ws rest <;> rfl

/-- A TENDER of CASH or CARD is read as it was written (R80). -/
theorem readTender_bytes {n i amount : Nat} {kind : TenderKind} (hkind : kind ≠ .prepaid) (hn : 1 ≤ n) (hn' : n < 65536)
    (hi : 1 ≤ i) (hi' : i ≤ 8) (ha : 1 ≤ amount) (ha' : amount ≤ 99999999) :
    readTender (bytesOf 2 n ++ bytesOf 1 i ++ bytesOf 1 kind.code ++ bytesOf 4 amount) = some (n, i, kind, amount) := by
  have hcode : kind.code < 256 := by cases kind <;> decide
  have hcut : cutAll [2, 1, 1, 4] (bytesOf 2 n ++ (bytesOf 1 i ++ (bytesOf 1 kind.code ++ (bytesOf 4 amount ++ [])))) =
      some [n, i, kind.code, amount] := by
    rw [cutAll, cut_bytesOf (by omega), cut_bytesOf (by omega), cut_bytesOf (by omega), cut_bytesOf (by omega)]
    rfl
  have hfits : (n = 0 || i = 0 || decide (8 < i) || amount = 0 || decide (99999999 < amount)) = false := by
    simp only [Bool.or_eq_false_iff, decide_eq_false_iff_not]
    omega
  rw [List.append_nil, ← List.append_assoc, ← List.append_assoc] at hcut
  simp only [readTender, hcut, hfits, Bool.false_eq_true, if_false]
  cases kind with
  | cash => rfl
  | card => rfl
  | prepaid => exact absurd rfl hkind

end Sys2Proof.Machine
end

section
/-! PROOFS. TENDER: CASH (R82, R87), and CARD by the uplink state (R83 to R87, R89). -/
namespace Sys2Proof.Machine

/-! ### A TENDER that passes its tests (R80, R81) -/

/-- A TENDER slip for share `i` of check `n` that passes the tests of R81. -/
structure State.TakesTender (s : State) (t : TillId) (rest : List Slip) (n i : Nat) (kind : TenderKind) (amount : Nat)
    (c : Check) (x : Share) : Prop where
  head  : ∃ content, s.headSlip t 4 content rest ∧ readTender content = some (n, i, kind, amount)
  check : s.hasCheck n c
  acts  : s.mayAct t c
  share : lookupBy Share.index i c.shares = some x
  due   : x.state = .due
  room  : x.tenders.length < 3
  fits  : kind = .card → amount ≤ x.due - x.tendered

section
variable {s : State} {t : TillId} {rest : List Slip} {n i : Nat} {kind : TenderKind} {amount : Nat} {c : Check}
  {x : Share}

theorem State.TakesTender.number (h : s.TakesTender t rest n i kind amount c x) : c.number = n :=
  (lookupBy_some h.check).2

theorem State.TakesTender.index (h : s.TakesTender t rest n i kind amount c x) : x.index = i :=
  (lookupBy_some h.share).2

theorem State.TakesTender.not_refused (h : s.TakesTender t rest n i kind amount c x) :
    x.refusal kind amount = none := by
  have hroom : ¬ 3 ≤ x.tenders.length := Nat.not_le.2 h.room
  have hover : ¬ (kind = .card ∧ x.remaining < amount) := fun ⟨hk, hlt⟩ => Nat.not_lt.2 (h.fits hk) hlt
  simp [Share.refusal, Share.isPaid, h.due, hroom, hover]

/-- A TENDER that passes its tests takes the way of its kind, and its ANSWER comes last (R41, R81). -/
theorem exec_tender {r : SlipAnswer × Work} (h : s.TakesTender t rest n i kind amount c x)
    (hr : (if kind = .card then s.work.cardTender t c x amount else s.work.cashTender c x amount) = r) :
    exec .tender s = .next (((s.afterTaking rest).commit r.2).post t (.answer 4 r.1.check r.1.result)) := by
  obtain ⟨content, hhead, hread⟩ := h.head
  have hslip : tenderSlip t (s.till t) content s.work = r := by
    have hshare : c.share? i = some x := h.share
    simp only [tenderSlip, hread, State.openTo_ok h.check h.acts, hshare, h.not_refused, hr]
  refine congrArg Host.Outcome.next ((State.takeSlip_till tenderSlip hhead).trans ?_)
  rw [hslip]

end

/-! ### A tender taken, and its payment (R63, R64, R82, R86) -/

/-- A share with a tender that counts at once (R78, R82, R86). -/
theorem Share.credit_eq {t : Tender} (ht : t.state ≠ .pending) (x : Share) : x.credit t = { x with
    tendered := x.tendered + t.amount
    tenders := x.tenders ++ [t]
    state := if decide (x.tendered + t.amount = x.due) && x.tenders.all (fun z => decide (z.state ≠ .pending))
      then .paid else .due } := by
  rw [Share.credit, Share.tested_eq]
  simp [ht]

/-- The fields that a TENDER is answered with (R87). -/
theorem tenderFields_eq (t : Tender) (change : Nat) (x : Share) (c : Check) : tenderFields t change x c =
    [.index (some x.index), .code t.kind.code, .code t.state.code, .amount t.amount, .amount change, .number t.tag,
      .amount x.due, .amount x.tendered, .code x.state.code,
      .code (if c.shares.all fun y => decide (y.state = .paid) then 2 else 1)] := by
  rw [tenderFields, Check.payState_code]

/-- The work of a tender taken on a share: the share changed, and the payment it may be (R63). -/
def Work.payOnShare (n i : Nat) (f : Share → Share) (w : Work) : Work := (w.onCheck n (Check.onShare i f)).payments n

theorem Work.check?_onShare {n i : Nat} {f : Share → Share} {w : Work} {c : Check} (hc : w.check? n = some c) :
    (w.onCheck n (Check.onShare i f)).check? n = some (c.onShare i f) :=
  Work.check?_onCheck_self (fun _ => rfl) hc

theorem Work.payOnShare_tu {n i : Nat} {f : Share → Share} {w : Work} {c : Check} (hc : w.check? n = some c) :
    (w.payOnShare n i f).tu = w.tu :=
  Work.payments_tu (Work.check?_onShare hc)

/-- A check that has closed over these shares, with the record that says so (R55, R56). -/
def State.ClosedOver (s u : State) (n : Nat) (c : Check) (shares : List Share) : Prop :=
  s.ClosedCheck u n (lineTotal c.lines) ∧
    ∃ (r : Record) (b : CheckSummary), u.sj.records = s.sj.records ++ [r] ∧ r.body = .checkClosed b ∧
      b.tenders = shares.flatMap fun y => y.tenders.map fun z => { share := y.index, tender := z }

/-- What a payment on a share of check `n` leaves: the check stays over these shares, or all of them are PAID and it has
closed (R55, R63, R64). -/
structure State.PaidOver (s u : State) (n : Nat) (c : Check) (shares : List Share) : Prop where
  bill   : ∀ d, u.hasCheck n d → d.shares = shares ∧ d.total = c.total ∧
    d.state = if shares.all Share.isPaid then .paid else .opened
  stays  : shares.all Share.isPaid = false → ∃ d, u.hasCheck n d ∧ u.sj = s.sj
  closed : (∀ d, ¬ u.hasCheck n d) → shares.all Share.isPaid = true ∧ s.ClosedOver u n c shares

theorem State.paidOver {s u : State} {n i : Nat} {f : Share → Share} {w : Work} {c : Check}
    (hc : w.check? n = some c) (hsj : w.sj = s.sj) (hnow : w.now = s.clock) (hu : u.ce = (w.payOnShare n i f).ce)
    (husj : u.sj = (w.payOnShare n i f).sj) :
    s.PaidOver u n c (c.shares.map fun y => if y.index = i then f y else y) := by
  have hcheck : (w.onCheck n (Check.onShare i f)).check? n = some (c.onShare i f) := Work.check?_onShare hc
  rw [← Check.onShare_shares]
  refine ⟨fun d hd => Work.payments_bill hcheck hu hd, fun hunpaid => ?stays, fun hgone => ?closed⟩
  case stays =>
    have hstays := Work.payments_staying hcheck hunpaid
    obtain ⟨d, hd⟩ := hstays.hasCheck hu
    exact ⟨d, hd, husj.trans (hstays.sj.trans hsj)⟩
  case closed =>
    have hclose := Work.payments_closing hcheck hu hgone
    have hrecord : (w.payOnShare n i f).sj = (s.work.append (.checkClosed (c.onShare i f).summary)).sj := by
      rw [Work.payOnShare, hclose.sj]
      simp only [Work.append, Work.onCheck_sj, Work.onCheck_now, hsj, hnow, State.work_sj, State.work_now]
    have hn : c.number = n := (lookupBy_some hc).2
    exact ⟨hclose.paid, State.closedCheck_of_record (.refl s.work) (congrArg CheckEngine.checks hu) husj hclose.gone
      hrecord hn rfl, _, _, congrArg Journal.records (husj.trans hrecord), rfl, rfl⟩

/-- A tender is taken on a share, and answered with the share and the check as it leaves them (R63, R87). -/
theorem Work.takeTender_eq (c : Check) (x : Share) (t : Tender) (change : Nat) (f : Share → Share) (w : Work) :
    w.takeTender c x t change f = (.yes c.number (tenderFields t change (f x) (c.onShare x.index f)),
      w.payOnShare c.number x.index f) := rfl

/-- Settles O39. -/
theorem cashTendersGiveChange : Obligations.CashTendersGiveChange := by
  intro s t rest n i amount c x hn hn' hi hi' ha ha' hhead hc hact hx hdue hroom
  have htakes : s.TakesTender t rest n i .cash amount c x :=
    ⟨⟨_, hhead, readTender_bytes (kind := .cash) (by decide) hn hn' hi hi' ha ha'⟩, hc, hact, hx, hdue, hroom,
      fun h => by cases h⟩
  obtain rfl := htakes.number
  obtain rfl := htakes.index
  intro applied pay shares paid
  let tender : Tender := { kind := .cash, amount := applied, state := .applied, tag := none }
  have hpay : Share.credit tender = pay := by
    funext y
    rw [Share.credit, Share.tested_eq]
  have hexec := exec_tender htakes (s.work.takeTender_eq c x tender (amount - applied) (Share.credit tender))
  rw [hpay, tenderFields_eq, Check.onShare_shares] at hexec
  have hpaid : s.PaidOver ((s.afterTaking rest).commit (s.work.payOnShare c.number x.index pay)) c.number c shares :=
    State.paidOver (w := s.work) hc rfl rfl (State.commit_ce _ _) (State.commit_sj _ _)
  refine ⟨_, hexec, ?tu, hpaid.stays, hpaid.bill, hpaid.closed⟩
  case tu => rw [State.commit_tu]; exact Work.payOnShare_tu (w := s.work) hc

/-! ### CARD: the ways to a refusal (R83, R84, R86) -/

section
variable {s : State} {t : TillId} {rest : List Slip} {n i amount : Nat} {c : Check} {x : Share}

/-- A CARD tender that its path refuses is answered with the reason and the share, and nothing else happens (R42). -/
theorem exec_tender_refused {why : Reason} (h : s.TakesTender t rest n i .card amount c x)
    (hr : s.work.cardTender t c x amount = (.no (some c.number) why (some x.index), s.work)) :
    exec .tender s = .next ((s.afterTaking rest).post t (.answer 4 (some n) (.refused why (some i)))) := by
  rw [exec_tender h ((if_pos rfl).trans hr), h.number, h.index]
  rfl

end

section
variable {w : Work} {t : TillId} {c : Check} {x : Share} {amount : Nat}

theorem Work.cardTender_authFull (hup : w.uplink = .online) (hfull : 32 ≤ w.tu.live.length) :
    w.cardTender t c x amount = (.no (some c.number) .authFull (some x.index), w) := by
  rw [Work.cardTender, if_pos hup]
  exact if_pos hfull

theorem Work.cardTender_journalFull (hup : w.uplink = .online) (hroom : w.tu.live.length < 32) (hfull : w.sj.free = 0) :
    w.cardTender t c x amount = (.no (some c.number) .journalFull (some x.index), w) := by
  have hreserve : w.reserve = none := if_neg (by omega)
  have hlive : ¬ authTableSize ≤ w.tu.live.length := Nat.not_le.2 hroom
  rw [Work.cardTender, if_pos hup, if_neg hlive]
  simp only [hreserve]

theorem Work.cardTender_offline (hdown : w.uplink ≠ .online) (hover : (w.stand c.stand).floor < amount) :
    w.cardTender t c x amount = (.no (some c.number) .offline (some x.index), w) := by
  rw [Work.cardTender, if_neg hdown, if_pos hover]

theorem Work.cardTender_begins {v : Work} (hup : w.uplink = .online) (hroom : w.tu.live.length < 32)
    (hreserve : w.reserve = some v) : w.cardTender t c x amount = v.beginAuth t c x amount := by
  have hlive : ¬ authTableSize ≤ w.tu.live.length := Nat.not_le.2 hroom
  rw [Work.cardTender, if_pos hup, if_neg hlive]
  simp only [hreserve]

/-- The tender that the floor limit lets pass while the uplink is not ONLINE (R86). -/
def deferredTender (tag amount : Nat) : Tender :=
  { kind := .card, amount := amount, state := .deferred, tag := some tag }

theorem Work.cardTender_defers (hdown : w.uplink ≠ .online) (hfloor : amount ≤ (w.stand c.stand).floor) :
    w.cardTender t c x amount = w.takeTag.2.takeTender c x (deferredTender w.takeTag.1 amount) 0
      (Share.credit (deferredTender w.takeTag.1 amount)) := by
  rw [Work.cardTender, if_neg hdown, if_neg (Nat.not_lt.2 hfloor)]
  rfl

end

/-! ### CARD: an authorization begun (R84, R85, R89) -/

/-- The next free tag, and the counter behind it (R85). -/
theorem Work.takeTag_eq (w : Work) : w.takeTag.2 = { w with tu := { w.tu with
    tagCtr := if w.takeTag.1 < 65535 then w.takeTag.1 + 1 else 1 } } := by
  rw [← wrapNext_eq]
  rfl

/-- The live entry of an authorization that begins (R84). -/
def Work.newEntry (t : TillId) (c : Check) (x : Share) (amount : Nat) (w : Work) : AuthEntry :=
  { tag := w.takeTag.1, check := c.number, share := x.index, amount := amount, stand := c.stand, till := t,
    started := w.now.secs, orphan := false, wait := { elapsed := 0, limit := w.tu.authWait } }

/-- The tender of an authorization that begins (R84). -/
def pendingTender (tag amount : Nat) : Tender :=
  { kind := .card, amount := amount, state := .pending, tag := some tag }

/-- An authorization begun, before its AUTH REQUEST (R84). -/
def Work.authBegun (t : TillId) (c : Check) (x : Share) (amount : Nat) (w : Work) : Work :=
  ({ w.takeTag.2 with tu := { w.takeTag.2.tu with
    live := putBy AuthEntry.tag (w.newEntry t c x amount) w.tu.live } } : Work).onCheck c.number
      (Check.onShare x.index (Share.authorize (pendingTender w.takeTag.1 amount)))

theorem Work.beginAuth_eq (t : TillId) (c : Check) (x : Share) (amount : Nat) (w : Work) :
    w.beginAuth t c x amount =
      (.yes c.number (tenderFields (pendingTender w.takeTag.1 amount) 0 (x.authorize (pendingTender w.takeTag.1 amount))
          (c.onShare x.index (Share.authorize (pendingTender w.takeTag.1 amount)))),
        (w.authBegun t c x amount).emit (.authRequest
          { tag := w.takeTag.1, check := c.number, share := x.index, amount := amount, stand := c.stand, till := t,
            started := w.now.secs })) := rfl

/-- A check with a share that waits for an authorization is not PAID (R64, R84). -/
theorem Check.authorizing_unpaid {c : Check} {x : Share} (hx : x ∈ c.shares) (t : Tender) :
    ((c.onShare x.index (Share.authorize t)).shares.all fun y => decide (y.state = .paid)) = false := by
  rw [Check.onShare_shares, List.all_eq_false]
  exact ⟨_, List.mem_map_of_mem hx, by simp [Share.authorize]⟩

/-- Settles O40. -/
theorem cardTendersTakeTheirPath : Obligations.CardTendersTakeTheirPath := by
  intro s t rest n i amount c x hn hn' hi hi' ha ha' hhead hc hact hx hdue hroom hfits
  have htakes : s.TakesTender t rest n i .card amount c x :=
    ⟨⟨_, hhead, readTender_bytes (kind := .card) (by decide) hn hn' hi hi' ha ha'⟩, hc, hact, hx, hdue, hroom,
      fun _ => hfits⟩
  obtain rfl := htakes.number
  obtain rfl := htakes.index
  intro refused held tag nextTag
  refine ⟨fun hup hfull => exec_tender_refused htakes (Work.cardTender_authFull hup hfull),
    fun hup hlive hfull => exec_tender_refused htakes (Work.cardTender_journalFull hup hlive hfull),
    fun hdown hover => exec_tender_refused htakes (Work.cardTender_offline hdown hover),
    fun hup hlive hfree => ?begins, fun hdown hfloor => ?defers⟩
  case begins =>
    intro entry tender
    obtain ⟨low, fx, hreserve⟩ := Work.reserve_room (w := s.work) hfree
    have hexec := exec_tender htakes ((if_pos rfl).trans
      ((Work.cardTender_begins hup hlive hreserve).trans (Work.beginAuth_eq _ _ _ _ _)))
    rw [tenderFields_eq, Check.authorizing_unpaid (lookupBy_some hx).1, State.commit_emit] at hexec
    refine ⟨_, hexec, ?tu, ?reservations, ?records, ?kr, ?ports, ?ce⟩
    case tu => rw [State.commit_tu, Work.authBegun, Work.onCheck_tu, Work.takeTag_eq]; rfl
    case ce =>
      rw [State.commit_ce, Work.authBegun, Work.onCheck_ce, mapBy_eq]
      simp only [Check.onShare, mapBy_eq]
      rfl
    all_goals simp only [State.commit_sj, State.commit_kr, State.commit_ports]; rfl
  case defers =>
    intro tender pay shares paid
    have hpay : Share.credit tender = pay := funext fun y => Share.credit_eq (t := tender) (by simp [tender]) y
    have hexec := exec_tender htakes ((if_pos rfl).trans
      ((Work.cardTender_defers hdown hfloor).trans (Work.takeTender_eq _ _ _ _ _ _)))
    have htender : deferredTender s.work.takeTag.1 amount = tender := rfl
    rw [htender, hpay, tenderFields_eq, Check.onShare_shares] at hexec
    have hpaid : s.PaidOver ((s.afterTaking rest).commit (s.work.takeTag.2.payOnShare c.number x.index pay)) c.number c
        shares :=
      State.paidOver (w := s.work.takeTag.2) hc rfl rfl (State.commit_ce _ _) (State.commit_sj _ _)
    refine ⟨_, hexec, ?tu, fun d hd => ?bill, fun hunpaid => ?stays, fun hgone => ?closed⟩
    case tu =>
      rw [State.commit_tu]
      refine (Work.payOnShare_tu (w := s.work.takeTag.2) hc).trans ?_
      rw [Work.takeTag_eq]
      rfl
    case bill =>
      obtain ⟨hshares, htotal, -⟩ := hpaid.bill d hd
      exact ⟨hshares, htotal⟩
    case stays =>
      obtain ⟨d, hd, -⟩ := hpaid.stays hunpaid
      exact ⟨d, hd⟩
    case closed =>
      obtain ⟨hall, hclosed, -⟩ := hpaid.closed hgone
      exact ⟨hall, hclosed⟩

end Sys2Proof.Machine
end

section
/-! PROOFS. The outcome of an authorization on its share: an answer taken (R91 to R93) and a wait that runs out (R94,
R95). -/
namespace Sys2Proof.Machine

/-! ### A PENDING tender settled or removed (R78, R91, R94) -/

/-- A PENDING tender settled, and the share tested. -/
theorem Share.settle_eq (tag amount : Nat) (st : TenderState) (x : Share) : x.settle tag amount st =
    let tenders := x.tenders.map fun z => if z.tag = some tag ∧ z.state = .pending then { z with state := st } else z
    { x with
      tendered := x.tendered + amount
      tenders := tenders
      state := if decide (x.tendered + amount = x.due) && tenders.all (fun z => decide (z.state ≠ .pending)) then .paid
        else .due } :=
  Share.tested_eq _

/-- A PENDING tender removed, and the share tested. -/
theorem Share.unsettle_eq (tag : Nat) (x : Share) : x.unsettle tag =
    let tenders := x.tenders.filter fun z => !(decide (z.tag = some tag) && decide (z.state = .pending))
    { x with
      tenders := tenders
      state := if decide (x.tendered = x.due) && tenders.all (fun z => decide (z.state ≠ .pending)) then .paid
        else .due } :=
  Share.tested_eq _

/-! ### An outcome on its share (R91, R92, R94) -/

/-- The AUTH notice of an entry, with its share as the outcome leaves it (R92). -/
def AuthEntry.notice (e : AuthEntry) (o : AuthOutcome) (y : Share) : Notice :=
  .auth e.tag e.check e.share e.amount o y.due y.tendered y.state

/-- A change of the share of an entry that keeps its index stands at that index. -/
theorem Check.share?_onShare {c : Check} {i : Nat} {x : Share} {f : Share → Share} (hf : ∀ y, (f y).index = y.index)
    (hx : lookupBy Share.index i c.shares = some x) : lookupBy Share.index i (c.onShare i f).shares = some (f x) := by
  rw [Check.onShare, lookupBy_mapBy_self hf, hx]
  rfl

section
variable {e : AuthEntry} {w : Work} {c : Check} {x : Share} {f : Share → Share}

/-- The outcome of an authorization: the payment on its share, and the notice last (R91, R92, R94). -/
theorem Work.applyOutcome_eq (hc : w.check? e.check = some c) (hx : lookupBy Share.index e.share c.shares = some x)
    (hf : ∀ y, (f y).index = y.index) (o : AuthOutcome) : w.applyOutcome e o f =
      (w.payOnShare e.check e.share f).emit (.notice e.till (e.notice o (f x))) := by
  have hshare : (c.onShare e.share f).share? e.share = some (f x) := Check.share?_onShare hf hx
  have hnote : (w.onCheck e.check (Check.onShare e.share f)).authNotice e o =
      some (.notice e.till (e.notice o (f x))) := by
    rw [Work.authNotice, Work.check?_onShare hc, Option.bind_some, hshare]
    rfl
  simp only [Work.applyOutcome, hnote]
  rfl

/-- The check that stays after a payment on the share of an entry holds the share as it was left (R64). -/
theorem State.share_of_payment {u : State} {d : Check} (hc : w.check? e.check = some c)
    (hx : lookupBy Share.index e.share c.shares = some x) (hf : ∀ y, (f y).index = y.index)
    (hu : u.ce = (w.payOnShare e.check e.share f).ce) (hd : u.hasCheck e.check d) :
    lookupBy Share.index e.share d.shares = some (f x) ∧ d.total = c.total := by
  obtain ⟨hshares, htotal, -⟩ := Work.payments_bill (Work.check?_onShare hc) hu hd
  rw [hshares]
  exact ⟨Check.share?_onShare hf hx, htotal⟩

/-- A check that a payment closes had its share PAID (R55, R64). -/
theorem Work.PaysClosing.share_paid {v : Work} (h : w.PaysClosing e.check (c.onShare e.share f) v)
    (hx : lookupBy Share.index e.share c.shares = some x) (hf : ∀ y, (f y).index = y.index) : (f x).state = .paid :=
  of_decide_eq_true (List.all_eq_true.1 h.paid _ (lookupBy_some (Check.share?_onShare hf hx)).1)

end

/-! ### AUTH_ANSWER_TAKEN for a live entry (R91 to R93) -/

/-- What a verdict makes of the share of its entry (R91). -/
def AuthEntry.answered (e : AuthEntry) : Verdict → Share → Share
  | .approve => Share.settle e.tag e.amount .approved
  | .decline => Share.unsettle e.tag

/-- The outcome that the notice of a verdict carries (R92). -/
def answerOutcome : Verdict → AuthOutcome
  | .approve => .approved
  | .decline => .declined

theorem AuthEntry.answered_index (e : AuthEntry) (v : Verdict) (x : Share) : (e.answered v x).index = x.index := by
  cases v <;> rfl

theorem Work.answerLive_eq (e : AuthEntry) (v : Verdict) (w : Work) : w.answerLive e v =
    ((w.applyOutcome e (answerOutcome v) (e.answered v)).freeEntry e.tag).release := by
  cases v <;> rfl

/-- What an answer taken for a live entry leaves, but for its notice: the payment on its share, the entry freed and its
reservation released (R91). -/
def Work.afterAnswer (e : AuthEntry) (v : Verdict) (w : Work) : Work :=
  ((w.payOnShare e.check e.share (e.answered v)).freeEntry e.tag).release

/-- An answer taken for a live entry that is not orphan (R91, R92): the notice is sent last. -/
theorem Work.answerLive_taken {e : AuthEntry} {w : Work} {c : Check} {x : Share} (hc : w.check? e.check = some c)
    (hx : lookupBy Share.index e.share c.shares = some x) (v : Verdict) : w.answerLive e v =
      (w.afterAnswer e v).emit (.notice e.till (e.notice (answerOutcome v) (e.answered v x))) := by
  rw [Work.answerLive_eq, Work.applyOutcome_eq hc hx (e.answered_index v)]
  rfl

/-- Settles O41. -/
theorem authAnswersSettleTenders : Obligations.AuthAnswersSettleTenders := by
  intro s e v hmem hlive left
  have hleft : eraseBy AuthEntry.tag e.tag s.tu.live = left := eraseBy_eq _ _ _
  have hexec : exec (.authAnswerTaken e.tag v) s = .next ((s.taking (e.tag, v)).commit
      (if e.orphan then ((s.taking (e.tag, v)).work.freeEntry e.tag).settleLate e .voided v
        else (s.taking (e.tag, v)).work.answerLive e v)) := by
    rw [exec_authAnswerTaken hmem, State.doWork, Work.answerTaken_live (w := (s.taking (e.tag, v)).work) hlive]
  refine ⟨fun horphan hv => ?approve, fun horphan hv => ?decline, fun c x horphan hc hx => ?live⟩
  case approve =>
    subst hv
    rw [hexec, if_pos horphan, Work.settleLate_record rfl, State.commit_silent rfl, State.putWork, Work.append_sj_eq,
      ← hleft]
    rfl
  case decline =>
    subst hv
    rw [hexec, if_pos horphan, Work.settleLate_release (by decide), State.commit_silent rfl, ← hleft]
    rfl
  case live =>
    intro tenders tendered full y
    have hy : e.answered v x = y := by
      cases v with
      | approve => exact Share.settle_eq e.tag e.amount .approved x
      | decline => exact Share.unsettle_eq e.tag x
    have hc' : (s.taking (e.tag, v)).work.check? e.check = some c := hc
    rw [if_neg (by simp [horphan]), Work.answerLive_taken hc' hx, State.commit_emit, hy] at hexec
    have hce := State.commit_ce ((s.taking (e.tag, v)).work.afterAnswer e v) (s.taking (e.tag, v))
    have hends := Work.payments_ends (Work.check?_onShare (i := e.share) (f := e.answered v) hc')
    refine ⟨(s.taking (e.tag, v)).commit ((s.taking (e.tag, v)).work.afterAnswer e v), hexec.trans ?notice, ?tu,
      ?answers, fun d hd => ?stays, fun hgone => ?closes⟩
    case notice => cases v <;> rfl
    case tu =>
      rw [State.commit_tu, Work.afterAnswer, Work.release_tu, Work.freeEntry_tu, Work.payOnShare_tu hc', ← hleft]
      rfl
    case answers =>
      rw [hce]
      exact hends.elim (·.answers) (·.answers)
    case stays =>
      obtain ⟨hshare, htotal⟩ := State.share_of_payment hc' hx (e.answered_index v) hce hd
      have hsj := (hends.resolve_left fun h => h.not_hasCheck hce hd).sj
      rw [State.commit_sj, Work.afterAnswer, Work.release_sj, Work.freeEntry_sj, Work.payOnShare, hsj]
      exact ⟨hshare.trans (congrArg some hy), htotal, rfl, rfl⟩
    case closes =>
      have hclose := hends.resolve_right fun h => (h.hasCheck hce).elim hgone
      rw [State.commit_sj, Work.afterAnswer, Work.release_sj, Work.freeEntry_sj, Work.payOnShare, hclose.sj]
      exact ⟨hy ▸ hclose.share_paid hx (e.answered_index v), List.length_append, Nat.sub_sub _ 1 1⟩

/-! ### An entry moves to the Expired Auth List (R95) -/

theorem Work.dropOldest_tu (w : Work) : w.dropOldest.tu = { w.tu with expired := w.tu.expired.tail } := by
  unfold Work.dropOldest
  split
  · rename_i h
    rw [h, List.tail_nil, ← h]
  · rename_i h
    rw [h]
    rfl

theorem Work.dropOldest_ce (w : Work) : w.dropOldest.ce = w.ce := by
  unfold Work.dropOldest
  split <;> rfl

theorem Work.dropOldest_emit (x : Effect) (w : Work) : (w.emit x).dropOldest = w.dropOldest.emit x := by
  cases h : w.tu.expired with
  | nil => simp only [Work.dropOldest, Work.emit_tu, h]
  | cons e rest =>
    simp only [Work.dropOldest, Work.emit_tu, h]
    rfl

/-- The expired list with a new entry at its tail, the oldest making room (R95). -/
def TenderUnit.joined (e : AuthEntry) (o : ExpiryOutcome) (tu : TenderUnit) : TenderUnit :=
  { tu with expired := (if 32 ≤ tu.expired.length then tu.expired.tail else tu.expired) ++
      [{ entry := e, outcome := o, age := 0 }] }

theorem Work.joinExpired_room {w : Work} (h : w.tu.expired.length < 32) (e : AuthEntry) (o : ExpiryOutcome) :
    w.joinExpired e o = { w with tu := w.tu.joined e o } := by
  have hroom : ¬ expiredSize ≤ w.tu.expired.length := Nat.not_le.2 h
  rw [Work.joinExpired, if_neg hroom, TenderUnit.joined, if_neg (Nat.not_le.2 h)]

theorem Work.joinExpired_full {w : Work} (h : 32 ≤ w.tu.expired.length) (e : AuthEntry) (o : ExpiryOutcome) :
    w.joinExpired e o = { w.dropOldest with tu := w.tu.joined e o } := by
  have hfull : expiredSize ≤ w.tu.expired.length := h
  rw [Work.joinExpired, if_pos hfull, TenderUnit.joined, if_pos h, Work.dropOldest_tu]

section
variable (e : AuthEntry) (o : ExpiryOutcome) (w : Work)

theorem Work.joinExpired_tu : (w.joinExpired e o).tu = w.tu.joined e o := by
  rcases Nat.lt_or_ge w.tu.expired.length 32 with h | h
  · rw [Work.joinExpired_room h]
  · rw [Work.joinExpired_full h]

theorem Work.joinExpired_ce : (w.joinExpired e o).ce = w.ce := by
  rcases Nat.lt_or_ge w.tu.expired.length 32 with h | h
  · rw [Work.joinExpired_room h]
  · rw [Work.joinExpired_full h]
    exact w.dropOldest_ce

/-- What was sent before an entry joins the list is sent still (R41). -/
theorem Work.joinExpired_emit (x : Effect) : (w.emit x).joinExpired e o = (w.joinExpired e o).emit x := by
  rcases Nat.lt_or_ge w.tu.expired.length 32 with h | h
  · rw [Work.joinExpired_room h, Work.joinExpired_room (w := w.emit x) h]
    rfl
  · rw [Work.joinExpired_full h, Work.joinExpired_full (w := w.emit x) h, Work.dropOldest_emit]
    rfl

end

/-! ### AUTH_WAIT_EXPIRY (R94, R95) -/

/-- What the expiry makes of the share of an entry that is not orphan, DEFERRED or not (R94). -/
def AuthEntry.expired (e : AuthEntry) (defer : Bool) : Share → Share :=
  if defer then Share.settle e.tag e.amount .deferred else Share.unsettle e.tag

theorem AuthEntry.expired_index (e : AuthEntry) (defer : Bool) (x : Share) : (e.expired defer x).index = x.index := by
  cases defer <;> rfl

/-- The expiry of an orphan entry moves it, and its check is not touched (R93, R94). -/
theorem Work.expire_orphan {e : AuthEntry} (h : e.orphan = true) (w : Work) :
    w.expire e = (w.freeEntry e.tag).joinExpired e .voided := by
  have hout : w.outcomeOf e = .voided := if_pos h
  simp only [Work.expire, hout]

/-- What the expiry of an entry that is not orphan leaves, but for its notice: the payment on its share, and the entry
moved to the Expired Auth List (R94, R95). -/
def Work.afterExpiry (e : AuthEntry) (defer : Bool) (w : Work) : Work :=
  ((w.payOnShare e.check e.share (e.expired defer)).freeEntry e.tag).joinExpired e
    (if defer then .deferred else .removed)

/-- The expiry of an entry that is not orphan: the notice is sent last (R92, R94). -/
theorem Work.expire_taken {e : AuthEntry} {w : Work} {c : Check} {x : Share} {defer : Bool} (h : e.orphan = false)
    (hdefer : (decide (w.uplink ≠ .online) && decide (e.amount ≤ (w.stand e.stand).floor)) = defer)
    (hc : w.check? e.check = some c) (hx : lookupBy Share.index e.share c.shares = some x) : w.expire e =
      (w.afterExpiry e defer).emit
        (.notice e.till (e.notice (if defer then .deferred else .timeout) (e.expired defer x))) := by
  have hout : w.outcomeOf e = if defer then .deferred else .removed := by
    simp only [Work.outcomeOf, h, Bool.false_eq_true, if_false, ← hdefer, Bool.and_eq_true, decide_eq_true_eq]
  have heq : w.expire e = ((w.applyOutcome e (if defer then .deferred else .timeout) (e.expired defer)).freeEntry
      e.tag).joinExpired e (if defer then .deferred else .removed) := by
    simp only [Work.expire, hout]
    cases defer <;> rfl
  rw [heq, Work.applyOutcome_eq hc hx (e.expired_index defer), Work.afterExpiry, ← Work.joinExpired_emit]
  rfl

theorem exec_authWaitExpiry_waits {s : State} {e : AuthEntry} (hlive : lookupBy AuthEntry.tag e.tag s.tu.live = some e)
    (h : e.wait.elapsed < e.wait.limit) : exec (.authWaitExpiry e.tag) s = .next s := by
  refine congrArg Host.Outcome.next ?_
  have hdue : e.wait.due = false := decide_eq_false (Nat.not_le.2 h)
  simp only [hlive, hdue, Bool.false_eq_true, if_false]

theorem exec_authWaitExpiry_due {s : State} {e : AuthEntry} (hlive : lookupBy AuthEntry.tag e.tag s.tu.live = some e)
    (h : e.wait.limit ≤ e.wait.elapsed) : exec (.authWaitExpiry e.tag) s = .next (s.commit (s.work.expire e)) := by
  refine congrArg Host.Outcome.next ?_
  have hdue : e.wait.due = true := decide_eq_true h
  simp only [hlive, hdue, if_true]
  rfl

/-- Settles O42. -/
theorem authExpiriesMoveEntries : Obligations.AuthExpiriesMoveEntries := by
  intro s e hlive moved
  have hmoved (o : ExpiryOutcome) :
      ({ s.tu with live := eraseBy AuthEntry.tag e.tag s.tu.live } : TenderUnit).joined e o = moved o := by
    rw [eraseBy_eq]
    rfl
  refine ⟨exec_authWaitExpiry_waits hlive, fun hdue => ⟨fun horphan hroom => ?room, fun horphan hfull => ?full,
    fun c x horphan hc hx => ?live⟩⟩
  case room =>
    rw [exec_authWaitExpiry_due hlive hdue, Work.expire_orphan horphan,
      Work.joinExpired_room (w := s.work.freeEntry e.tag) hroom, State.commit_silent rfl, ← hmoved]
    rfl
  case full =>
    obtain ⟨old, rest, hlist⟩ : ∃ old rest, s.tu.expired = old :: rest :=
      List.exists_cons_of_length_pos (Nat.lt_of_lt_of_le (by decide) hfull)
    rw [exec_authWaitExpiry_due hlive hdue, Work.expire_orphan horphan,
      Work.joinExpired_full (w := s.work.freeEntry e.tag) hfull,
      Work.dropOldest_cons (w := s.work.freeEntry e.tag) hlist, State.commit_silent rfl, ← hmoved]
    rfl
  case live =>
    intro defer
    have hdefer : (decide (s.upc.state ≠ .online) && decide (e.amount ≤ s.ce.stands[e.stand].floor)) = defer := rfl
    clear_value defer
    intro tenders tendered full y
    have hy : e.expired defer x = y := by
      cases defer with
      | true => exact Share.settle_eq e.tag e.amount .deferred x
      | false => exact Share.unsettle_eq e.tag x
    have hc' : s.work.check? e.check = some c := hc
    have hexec := exec_authWaitExpiry_due hlive hdue
    rw [Work.expire_taken horphan hdefer hc' hx, State.commit_emit, hy] at hexec
    have hce : (s.commit (s.work.afterExpiry e defer)).ce =
        (s.work.payOnShare e.check e.share (e.expired defer)).ce := by
      rw [State.commit_ce, Work.afterExpiry, Work.joinExpired_ce, Work.freeEntry_ce]
    refine ⟨s.commit (s.work.afterExpiry e defer), hexec, ?tu, fun d hd => ?stays⟩
    case tu =>
      rw [State.commit_tu, Work.afterExpiry, Work.joinExpired_tu, Work.freeEntry_tu, Work.payOnShare_tu hc']
      exact hmoved _
    case stays =>
      obtain ⟨hshare, htotal⟩ := State.share_of_payment hc' hx (e.expired_index defer) hce hd
      exact ⟨hshare.trans (congrArg some hy), htotal⟩

end Sys2Proof.Machine
end

section
/-! PROOFS. Where tickets stand, as the invariant of O8 reads it: the places of each station, and the kind, station and
state of each ticket (R103). -/
namespace Sys2Proof.Machine

/-! ### Places and what stands in them -/

/-- A place where a ticket stands at its station (R103). -/
inductive Place where
  | voidQ | normalQ | slot | shown | listed
  deriving DecidableEq

/-- What the places of a station hold, whether its port must hold no ticket, and its fallback. -/
structure Spot where
  voidQ    : List Nat
  normalQ  : List Nat
  slots    : List Nat
  shown    : List Nat
  recallL  : List Nat
  closed   : Bool
  fallback : Option StationId

/-- The tickets of a station, each with its place. -/
def Spot.entries (x : Spot) : List (Nat × Place) :=
  x.voidQ.map (·, .voidQ) ++ x.normalQ.map (·, .normalQ) ++ x.slots.map (·, .slot) ++ x.shown.map (·, .shown)
    ++ x.recallL.map (·, .listed)

/-- A ticket taken out of its place. -/
def Spot.without (n : Nat) (x : Spot) : Spot :=
  { x with voidQ := x.voidQ.filter (· != n), normalQ := x.normalQ.filter (· != n), slots := x.slots.filter (· != n),
           shown := x.shown.filter (· != n), recallL := x.recallL.filter (· != n) }

/-- Of a ticket, what its place goes with. -/
structure Stub where
  kind    : TicketKind
  station : StationId
  state   : TicketState

/-- The place that goes with a ticket's state and kind: none for one that waits (R103). -/
def Stub.place (k : Stub) : Option Place :=
  match k.state with
  | .waiting => none
  | .queued => some (if k.kind = .void then .voidQ else .normalQ)
  | .sending => some .slot
  | .shown => some .shown
  | .bumped => some .listed

/-- All the places of the kitchen, and all its tickets. -/
structure Placing where
  spot : StationId → Spot
  stub : Nat → Option Stub

/-- Every ticket is in exactly the place that goes with its state and its kind, and only tickets are in places. -/
structure Placing.Sound (p : Placing) : Prop where
  nodup    : ∀ st, ((p.spot st).entries.map Prod.fst).Nodup
  live     : ∀ st n x, (n, x) ∈ (p.spot st).entries ↔ ∃ k, p.stub n = some k ∧ k.station = st ∧ k.place = some x
  waits    : ∀ n k, p.stub n = some k → k.state = .waiting → k.kind = .assembly
  closed   : ∀ st, (p.spot st).closed = true → (p.spot st).slots = []
  fallback : ∀ st, (p.spot st).fallback ≠ some st

theorem Spot.map_fst_entries (x : Spot) :
    x.entries.map Prod.fst = x.voidQ ++ x.normalQ ++ x.slots ++ x.shown ++ x.recallL := by
  simp [Spot.entries, Function.comp_def]

theorem Spot.mem_entries {x : Spot} {n : Nat} {y : Place} : (n, y) ∈ x.entries ↔ match y with
    | .voidQ => n ∈ x.voidQ
    | .normalQ => n ∈ x.normalQ
    | .slot => n ∈ x.slots
    | .shown => n ∈ x.shown
    | .listed => n ∈ x.recallL := by
  cases y <;> simp [Spot.entries]

theorem Spot.entries_without (n : Nat) (x : Spot) :
    (x.without n).entries = x.entries.filter fun e => e.1 != n := by
  simp [Spot.entries, Spot.without, List.filter_map, Function.comp_def]

theorem Spot.without_of_not_mem {n : Nat} {x : Spot} (h : ∀ y, (n, y) ∉ x.entries) : x.without n = x := by
  have keeps {l : List Nat} (hl : n ∉ l) : l.filter (· != n) = l :=
    List.filter_eq_self.2 fun m hm => by simpa using fun e : m = n => hl (e ▸ hm)
  have hv := fun hm => h .voidQ (Spot.mem_entries.2 hm)
  have hn := fun hm => h .normalQ (Spot.mem_entries.2 hm)
  have hs := fun hm => h .slot (Spot.mem_entries.2 hm)
  have hw := fun hm => h .shown (Spot.mem_entries.2 hm)
  have hr := fun hm => h .listed (Spot.mem_entries.2 hm)
  simp only [Spot.without, keeps hv, keeps hn, keeps hs, keeps hw, keeps hr]

/-- One ticket has moved within its station, has joined it or has left it; nothing else has changed. -/
structure Placing.Moves (n : Nat) (st : StationId) (p q : Placing) : Prop where
  home     : ∀ k, p.stub n = some k → k.station = st
  there    : ∀ k, q.stub n = some k → k.station = st ∧ (k.state = .waiting → k.kind = .assembly)
  stubs    : ∀ m, m ≠ n → q.stub m = p.stub m
  spots    : ∀ s, s ≠ st → q.spot s = p.spot s
  entries  : (q.spot st).entries.Perm
    (((q.stub n).bind Stub.place).toList.map (n, ·) ++ ((p.spot st).without n).entries)
  closed   : (q.spot st).closed = true → (q.spot st).slots = []
  fallback : (q.spot st).fallback = (p.spot st).fallback

/-- A ticket that stands at its station in the place that goes with it stands in no other. -/
theorem Placing.Sound.elsewhere {p : Placing} (h : p.Sound) {n : Nat} {st : StationId}
    (hhome : ∀ k, p.stub n = some k → k.station = st) {s : StationId} (hs : s ≠ st) (y : Place) :
    (n, y) ∉ (p.spot s).entries := fun hm => by
  obtain ⟨k, hk, rfl, -⟩ := (h.live s n y).1 hm
  exact hs (hhome k hk)

theorem Placing.Moves.live {n : Nat} {st : StationId} {p q : Placing} (hm : Placing.Moves n st p q) (h : p.Sound)
    (s : StationId) (m : Nat) (y : Place) :
    (m, y) ∈ (q.spot s).entries ↔ ∃ k, q.stub m = some k ∧ k.station = s ∧ k.place = some y := by
  by_cases hs : s = st
  · subst hs
    rw [hm.entries.mem_iff, List.mem_append, Spot.entries_without, List.mem_filter, h.live]
    by_cases hmn : m = n
    · subst hmn
      cases hq : q.stub m with
      | none => simp
      | some k => simpa using fun _ => (hm.there k hq).1
    · rw [hm.stubs m hmn]
      simp [hmn, Ne.symm hmn]
  · rw [hm.spots s hs, h.live]
    by_cases hmn : m = n
    · subst hmn
      constructor
      · rintro ⟨k, hk, rfl, -⟩
        exact absurd (hm.home k hk) hs
      · rintro ⟨k, hk, rfl, -⟩
        exact absurd (hm.there k hk).1 hs
    · rw [hm.stubs m hmn]

theorem Placing.Sound.moves {n : Nat} {st : StationId} {p q : Placing} (h : p.Sound) (hm : Placing.Moves n st p q) :
    q.Sound where
  nodup := fun s => by
    by_cases hs : s = st
    · subst hs
      rw [(hm.entries.map Prod.fst).nodup_iff, List.map_append, Spot.entries_without]
      refine List.nodup_append.2 ⟨?_, (h.nodup s).sublist (List.filter_sublist.map _), ?_⟩
      · cases (q.stub n).bind Stub.place <;> simp
      · simp only [List.mem_map, List.mem_filter]
        rintro a ⟨e, ⟨y, -, rfl⟩, rfl⟩ b ⟨e', ⟨-, hne⟩, rfl⟩ rfl
        simp at hne
    · rw [hm.spots s hs]
      exact h.nodup s
  live := hm.live h
  waits := fun m k hk hw => by
    by_cases hmn : m = n
    · subst hmn
      exact (hm.there k hk).2 hw
    · exact h.waits m k (hm.stubs m hmn ▸ hk) hw
  closed := fun s => by
    by_cases hs : s = st
    · subst hs
      exact hm.closed
    · rw [hm.spots s hs]
      exact h.closed s
  fallback := fun s => by
    by_cases hs : s = st
    · subst hs
      rw [hm.fallback]
      exact h.fallback s
    · rw [hm.spots s hs]
      exact h.fallback s

end Sys2Proof.Machine
end

section
/-! PROOFS. The places of a piece of work, and what each operation of the Router does to them (R101 to R103). -/
namespace Sys2Proof.Machine

/-! ### The places of a piece of work -/

/-- The kind, station and state of a ticket. -/
def Ticket.stub (t : Ticket) : Stub := { kind := t.kind, station := t.station, state := t.state }

/-- The tickets in the slots of a port. -/
def Port.holds (p : Port) : List Nat := (p.slotA.toList ++ p.slotB.toList).map OutSlot.ticket

/-- The places of a station and its port. -/
def Spot.of (x : Station) (p : Port) : Spot where
  voidQ := x.voidQ
  normalQ := x.normalQ
  slots := p.holds
  shown := x.shown
  recallL := x.recallL
  closed := decide (p.link ≠ .up) || !x.cfg.loaded
  fallback := x.cfg.fallback

def Work.spot (w : Work) (st : StationId) : Spot := .of (w.station st) (w.port st)
def Work.stub (w : Work) (n : Nat) : Option Stub := (w.ticket? n).map Ticket.stub

/-- The places and the tickets of a piece of work, as the invariant reads them. -/
def Work.placing (w : Work) : Placing := { spot := w.spot, stub := w.stub }

/-- Every ticket of a piece of work stands in the one place that goes with its state and its kind (R103). -/
def Work.Placed (w : Work) : Prop := w.placing.Sound

theorem Work.Placed.congr {w v : Work} (h : w.Placed) (hp : v.placing = w.placing) : v.Placed := by
  unfold Work.Placed
  rw [hp]
  exact h

theorem Work.placing_eq {w v : Work} (hspot : ∀ st, v.spot st = w.spot st) (hstub : ∀ n, v.stub n = w.stub n) :
    v.placing = w.placing := by
  unfold Work.placing
  rw [funext hspot, funext hstub]

theorem lookupBy_of_mem {α : Type} {key : α → Nat} {l : List α} (h : Rising key l) {x : α} (hx : x ∈ l) :
    lookupBy key (key x) l = some x := by
  induction l with
  | nil => cases hx
  | cons y ys ih =>
    obtain ⟨hy, hys⟩ := rising_cons.1 h
    rcases List.mem_cons.1 hx with rfl | hmem
    · simp [lookupBy]
    · have hne : key y ≠ key x := (hy x hmem).ne
      simpa [lookupBy, hne] using ih hys hmem

theorem lookupBy_iff {α : Type} {key : α → Nat} {l : List α} (h : Rising key l) {k : Nat} {x : α} :
    lookupBy key k l = some x ↔ x ∈ l ∧ key x = k := by
  refine ⟨lookupBy_some, ?_⟩
  rintro ⟨hx, rfl⟩
  exact lookupBy_of_mem h hx

/-- The tickets that the statements list at a station are those of its places. -/
theorem State.mem_ticketsAt (s : State) (st : StationId) (n : Nat) (x : TicketState) :
    (n, x) ∈ s.ticketsAt st ↔ match x with
      | .waiting => False
      | .queued => n ∈ s.kr.stations[st].voidQ ∨ n ∈ s.kr.stations[st].normalQ
      | .sending => n ∈ s.ports[st].holds
      | .shown => n ∈ s.kr.stations[st].shown
      | .bumped => n ∈ s.kr.stations[st].recallL := by
  cases x <;> simp [State.ticketsAt, Port.holds]

theorem State.map_fst_ticketsAt (s : State) (st : StationId) :
    (s.ticketsAt st).map Prod.fst = (s.work.spot st).entries.map Prod.fst := by
  rw [Spot.map_fst_entries]
  simp [State.ticketsAt, Work.spot, Spot.of, Port.holds, Work.station, Work.port, Function.comp_def]

theorem Stub.place_eq_some {k : Stub} {y : Place} : k.place = some y ↔ match y with
    | .voidQ => k.state = .queued ∧ k.kind = .void
    | .normalQ => k.state = .queued ∧ k.kind ≠ .void
    | .slot => k.state = .sending
    | .shown => k.state = .shown
    | .listed => k.state = .bumped := by
  obtain ⟨kind, station, state⟩ := k
  by_cases h : kind = .void <;> cases state <;> cases y <;> simp [Stub.place, h]

theorem Spot.closed_of {x : Station} {p : Port} :
    (Spot.of x p).closed = true ↔ p.link ≠ .up ∨ x.cfg.loaded = false := by
  simp [Spot.of]

theorem Port.holds_eq_nil {p : Port} : p.holds = [] ↔ p.slotA = none ∧ p.slotB = none := by
  simp [Port.holds]

section
variable {s : State} (h : Rising Ticket.number s.kr.tickets)
include h

/-- The tickets of a place, of a state whose Ticket Store is keyed by number. -/
theorem State.stub_place (st : StationId) (n : Nat) (y : Place) :
    (∃ k, s.work.stub n = some k ∧ k.station = st ∧ k.place = some y) ↔
      ∃ t ∈ s.kr.tickets, t.number = n ∧ t.station = st ∧ t.stub.place = some y := by
  simp only [Work.stub, Work.ticket?, Option.map_eq_some_iff, State.work_kr, lookupBy_iff h]
  constructor
  · rintro ⟨-, ⟨t, ⟨ht, hn⟩, rfl⟩, hst, hp⟩
    exact ⟨t, ht, hn, hst, hp⟩
  · rintro ⟨t, ht, hn, hst, hp⟩
    exact ⟨t.stub, ⟨t, ⟨ht, hn⟩, rfl⟩, hst, hp⟩

theorem State.TicketsPlaced.placed (hs : s.TicketsPlaced) : s.work.Placed := by
  obtain ⟨hnodup, hlive, hwaits, hqueues, hempty, hfallback⟩ := hs
  have hat (st : StationId) (n : Nat) (x : TicketState) := (hlive st n x).symm.trans (s.mem_ticketsAt st n x)
  refine ⟨fun st => s.map_fst_ticketsAt st ▸ hnodup st, fun st n y => ?_, fun n k hk hw => ?_,
    fun st hc => Port.holds_eq_nil.2 (hempty st (Spot.closed_of.1 hc)), hfallback⟩
  · refine Iff.trans ?_ (State.stub_place h st n y).symm
    simp only [Spot.mem_entries, Stub.place_eq_some]
    have hq := hat st n .queued
    cases y with
    | voidQ =>
      constructor
      · intro hm
        obtain ⟨-, t, ht, rfl, hst, hx⟩ := hq.2 (.inl hm)
        exact ⟨t, ht, rfl, hst, hx, (hqueues st t ht).1 hm⟩
      · rintro ⟨t, ht, rfl, hst, hx, hk⟩
        exact (hq.1 ⟨by decide, t, ht, rfl, hst, hx⟩).resolve_right fun hm => (hqueues st t ht).2 hm hk
    | normalQ =>
      constructor
      · intro hm
        obtain ⟨-, t, ht, rfl, hst, hx⟩ := hq.2 (.inr hm)
        exact ⟨t, ht, rfl, hst, hx, (hqueues st t ht).2 hm⟩
      · rintro ⟨t, ht, rfl, hst, hx, hk⟩
        exact (hq.1 ⟨by decide, t, ht, rfl, hst, hx⟩).resolve_left fun hm => hk ((hqueues st t ht).1 hm)
    | slot => exact (hat st n .sending).symm.trans (and_iff_right (by simp))
    | shown => exact (hat st n .shown).symm.trans (and_iff_right (by simp))
    | listed => exact (hat st n .bumped).symm.trans (and_iff_right (by simp))
  · obtain ⟨t, ht, rfl⟩ := Option.map_eq_some_iff.1 hk
    exact hwaits t (lookupBy_some ht).1 hw

theorem State.TicketsPlaced.of_placed (hs : s.work.Placed) : s.TicketsPlaced := by
  have hat (st : StationId) (n : Nat) (y : Place) : (n, y) ∈ (s.work.spot st).entries ↔ _ :=
    (hs.live st n y).trans (State.stub_place h st n y)
  simp only [Spot.mem_entries, Stub.place_eq_some] at hat
  have hkind {k : Ticket} (hk : k ∈ s.kr.tickets) {t : Ticket} (ht : t ∈ s.kr.tickets) (hn : t.number = k.number) :
      t = k :=
    Option.some.inj ((lookupBy_of_mem h ht).symm.trans (hn ▸ lookupBy_of_mem h hk))
  refine ⟨fun st => s.map_fst_ticketsAt st ▸ hs.nodup st, fun st n x => ?_, fun k hk hw => ?_,
    fun st k hk => ⟨fun hm => ?_, fun hm => ?_⟩, fun st hc => Port.holds_eq_nil.1 (hs.closed st (Spot.closed_of.2 hc)),
    hs.fallback⟩
  · rw [s.mem_ticketsAt]
    cases x with
    | waiting => simp
    | queued =>
      refine ((or_congr (hat st n .voidQ) (hat st n .normalQ)).trans ?_).trans (and_iff_right (by simp)).symm
      constructor
      · rintro (⟨t, ht, hn, hst, hx, -⟩ | ⟨t, ht, hn, hst, hx, -⟩) <;> exact ⟨t, ht, hn, hst, hx⟩
      · rintro ⟨t, ht, hn, hst, hx⟩
        by_cases hk : t.kind = .void
        · exact .inl ⟨t, ht, hn, hst, hx, hk⟩
        · exact .inr ⟨t, ht, hn, hst, hx, hk⟩
    | sending => exact (hat st n .slot).trans (and_iff_right (by simp)).symm
    | shown => exact (hat st n .shown).trans (and_iff_right (by simp)).symm
    | bumped => exact (hat st n .listed).trans (and_iff_right (by simp)).symm
  · exact hs.waits k.number k.stub (congrArg (Option.map Ticket.stub) (lookupBy_of_mem h hk)) hw
  · obtain ⟨t, ht, hn, -, -, hv⟩ := (hat st k.number .voidQ).1 hm
    exact hkind hk ht hn ▸ hv
  · obtain ⟨t, ht, hn, -, -, hv⟩ := (hat st k.number .normalQ).1 hm
    exact hkind hk ht hn ▸ hv

end

end Sys2Proof.Machine
end

section
/-! PROOFS. What each operation of the Router leaves: of the stations, of the ports and of the Ticket Store (R101 to
R103, R109, R117, R119, R121). -/
namespace Sys2Proof.Machine

/-! ### Stations, ports and tickets of a piece of work -/

theorem modify_ite {α : Type} {n : Nat} (v : Vector α n) (i j : Fin n) (f : α → α) :
    (modify v i f)[j] = if j = i then f v[i] else v[j] := by
  split
  · rename_i h
    subst h
    exact modify_self v j f
  · exact modify_other v i j f ‹_›

@[simp] theorem Work.onStation_station (st s : StationId) (f : Station → Station) (w : Work) :
    (w.onStation st f).station s = if s = st then f (w.station st) else w.station s := modify_ite _ _ _ _
@[simp] theorem Work.onStation_port (st s : StationId) (f : Station → Station) (w : Work) :
    (w.onStation st f).port s = w.port s := rfl
@[simp] theorem Work.onStation_ticket? (st : StationId) (f : Station → Station) (w : Work) (n : Nat) :
    (w.onStation st f).ticket? n = w.ticket? n := rfl
@[simp] theorem Work.onPort_station (st s : StationId) (f : Port → Port) (w : Work) :
    (w.onPort st f).station s = w.station s := rfl
@[simp] theorem Work.onPort_port (st s : StationId) (f : Port → Port) (w : Work) :
    (w.onPort st f).port s = if s = st then f (w.port st) else w.port s := modify_ite _ _ _ _
@[simp] theorem Work.onPort_ticket? (st : StationId) (f : Port → Port) (w : Work) (n : Nat) :
    (w.onPort st f).ticket? n = w.ticket? n := rfl
@[simp] theorem Work.onTicket_station (n : Nat) (s : StationId) (f : Ticket → Ticket) (w : Work) :
    (w.onTicket n f).station s = w.station s := rfl
@[simp] theorem Work.onTicket_port (n : Nat) (s : StationId) (f : Ticket → Ticket) (w : Work) :
    (w.onTicket n f).port s = w.port s := rfl
@[simp] theorem Work.putTicket_station (t : Ticket) (s : StationId) (w : Work) :
    (w.putTicket t).station s = w.station s := rfl
@[simp] theorem Work.putTicket_port (t : Ticket) (s : StationId) (w : Work) : (w.putTicket t).port s = w.port s := rfl

theorem Work.onTicket_ticket? {n : Nat} {f : Ticket → Ticket} (hf : ∀ t, (f t).number = t.number) (w : Work) (m : Nat) :
    (w.onTicket n f).ticket? m = if m = n then (w.ticket? n).map f else w.ticket? m := by
  split
  · rename_i h
    subst h
    exact lookupBy_mapBy_self hf _
  · exact lookupBy_mapBy_other hf ‹_› _

theorem Work.putTicket_ticket? (t : Ticket) (w : Work) (m : Nat) :
    (w.putTicket t).ticket? m = if m = t.number then some t else w.ticket? m := by
  split
  · rename_i h
    subst h
    exact lookupBy_putBy_self _ _ _
  · exact lookupBy_putBy_other _ _ _ _ ‹_›

theorem lookupBy_eraseBy {α : Type} (key : α → Nat) (k m : Nat) (l : List α) :
    lookupBy key m (eraseBy key k l) = if m = k then none else lookupBy key m l := by
  split
  · rename_i h
    subst h
    exact lookupBy_eq_none_iff.2 fun x hx => by simpa using List.of_mem_filter hx
  · rename_i h
    unfold lookupBy eraseBy
    rw [List.find?_filter]
    congr 1
    funext x
    by_cases hx : key x = m <;> simp [hx, h]

theorem lookupBy_map {α : Type} {key : α → Nat} {f : α → α} (hf : ∀ x, key (f x) = key x) (k : Nat) (l : List α) :
    lookupBy key k (l.map f) = (lookupBy key k l).map f := by
  unfold lookupBy
  rw [List.find?_map]
  simp only [Function.comp_def, hf]

/-! ### Places (R103) -/

/-- A ticket taken out of every place of a station. -/
def Station.without (n : Nat) (x : Station) : Station :=
  { x with voidQ := x.voidQ.filter (· != n), normalQ := x.normalQ.filter (· != n), shown := x.shown.filter (· != n),
           recallL := x.recallL.filter (· != n) }

theorem Work.unplace_eq (n : Nat) (st : StationId) (w : Work) :
    w.unplace n st = { (w.onPort st (Port.emptySlot n)).onStation st (Station.without n) with
      fx := w.fx ++ if (w.port st).sendingTicket n then [.output (.ticketCut st)] else [] } := by
  unfold Work.unplace
  cases h : (w.port st).sendingTicket n with
  | true =>
    simp only [if_true]
    rfl
  | false =>
    simp only [Bool.false_eq_true, if_false, List.append_nil]
    rfl

@[simp] theorem Work.unplace_station (n : Nat) (st s : StationId) (w : Work) :
    (w.unplace n st).station s = if s = st then (w.station st).without n else w.station s := by
  rw [Work.unplace_eq]
  exact modify_ite _ _ _ _
@[simp] theorem Work.unplace_port (n : Nat) (st s : StationId) (w : Work) :
    (w.unplace n st).port s = if s = st then (w.port st).emptySlot n else w.port s := by
  rw [Work.unplace_eq]
  exact modify_ite _ _ _ _
@[simp] theorem Work.unplace_tickets (n : Nat) (st : StationId) (w : Work) :
    (w.unplace n st).kr.tickets = w.kr.tickets := by
  rw [Work.unplace_eq]
  rfl
@[simp] theorem Work.unplace_ticket? (n : Nat) (st : StationId) (w : Work) (m : Nat) :
    (w.unplace n st).ticket? m = w.ticket? m := by
  rw [Work.unplace_eq]
  rfl

/-- What is noted of a stand's count reaches its clearance alone (R121). -/
theorem Work.noteClear_frame (sd : StandId) (before : Nat) (w : Work) :
    ∃ c, w.noteClear sd before = { w with kr := { w.kr with clearance := c } } := by
  unfold Work.noteClear
  split
  · exact ⟨_, rfl⟩
  · exact ⟨w.kr.clearance, rfl⟩

/-- A divert test reaches the station's divert state, and what is sent (R119). -/
theorem Work.divertTest_eq (st : StationId) (w : Work) :
    w.divertTest st = { w.onStation st (fun x => { x with diverting := x.divertsAt (w.backlog st) }) with
      fx := w.fx ++ if (w.station st).divertsAt (w.backlog st) = (w.station st).diverting then []
        else [.event (if (w.station st).divertsAt (w.backlog st) then .divertOn st (w.backlog st)
          else .divertOff st (w.backlog st))] } := by
  by_cases h : (w.station st).divertsAt (w.backlog st) = (w.station st).diverting
  · have hsame : w.onStation st (fun x => { x with diverting := x.divertsAt (w.backlog st) }) = w := by
      have : ({ w.station st with diverting := (w.station st).divertsAt (w.backlog st) } : Station) = w.station st := by
        rw [h]
      unfold Work.onStation
      rw [modify_eq_set, show w.kr.stations[st] = w.station st from rfl, this, Work.station, set_get_self]
    rw [Work.divertTest_stays h, hsame, if_pos h, List.append_nil]
  · rw [Work.divertTest_turns rfl h, if_neg h]
    have : ∀ b, modify w.kr.stations st (fun x => { x with diverting := x.divertsAt b }) =
        modify w.kr.stations st fun x => { x with diverting := (w.station st).divertsAt b } := fun b => rfl
    simp only [Work.raise, Work.emit, Work.onStation, this]

@[simp] theorem Work.divertTest_station (st s : StationId) (w : Work) : (w.divertTest st).station s =
    if s = st then { w.station st with diverting := (w.station st).divertsAt (w.backlog st) } else w.station s := by
  rw [Work.divertTest_eq]
  exact modify_ite _ _ _ _
@[simp] theorem Work.divertTest_port (st s : StationId) (w : Work) : (w.divertTest st).port s = w.port s := by
  rw [Work.divertTest_eq]
  rfl
@[simp] theorem Work.divertTest_ports (st : StationId) (w : Work) : (w.divertTest st).ports = w.ports := by
  rw [Work.divertTest_eq]
  rfl
@[simp] theorem Work.divertTest_tickets (st : StationId) (w : Work) : (w.divertTest st).kr.tickets = w.kr.tickets := by
  rw [Work.divertTest_eq]
  rfl
@[simp] theorem Work.divertTest_ticket? (st : StationId) (w : Work) (m : Nat) :
    (w.divertTest st).ticket? m = w.ticket? m := by
  rw [Work.divertTest_eq]
  rfl

/-! ### Tickets freed (R101) -/

/-- A live ticket freed: taken out of its place, out of the offers and out of the Ticket Store. -/
theorem Work.freeRaw_frame {n : Nat} {t : Ticket} {w : Work} (ht : w.ticket? n = some t) :
    ∃ c, w.freeRaw n = { w.unplace n t.station with
      ce := { w.ce with tryOffered := true }
      kr := { (w.unplace n t.station).kr with
        tickets := eraseBy Ticket.number n w.kr.tickets
        completions := w.kr.completions.filter fun o => o.ticket != n
        recalls := w.kr.recalls.filter fun o => o.ticket != n
        clearance := c } } := by
  unfold Work.freeRaw
  rw [ht]
  simp only [Work.watching]
  obtain ⟨c, hc⟩ := Work.noteClear_frame t.stand (w.standCount t.stand) (Work.offerTry
    { (w.unplace n t.station).dropOffers n with kr := { ((w.unplace n t.station).dropOffers n).kr with
      tickets := eraseBy Ticket.number n ((w.unplace n t.station).dropOffers n).kr.tickets } })
  refine ⟨c, hc.trans ?_⟩
  rw [Work.unplace_eq]
  rfl

theorem Work.freeRaw_none {n : Nat} {w : Work} (h : w.ticket? n = none) : w.freeRaw n = w := by
  rw [Work.freeRaw, h]

theorem Work.freeTicket_eq {n : Nat} {t : Ticket} {w : Work} (ht : w.ticket? n = some t) :
    w.freeTicket n = (w.freeRaw n).divertTest t.station := by
  rw [Work.freeTicket, ht]

section
variable {n : Nat} {t : Ticket} {w : Work} (ht : w.ticket? n = some t)
include ht

theorem Work.freeRaw_station (s : StationId) :
    (w.freeRaw n).station s = if s = t.station then (w.station t.station).without n else w.station s := by
  obtain ⟨c, hc⟩ := Work.freeRaw_frame ht
  rw [hc]
  exact Work.unplace_station n t.station s w

theorem Work.freeRaw_port (s : StationId) :
    (w.freeRaw n).port s = if s = t.station then (w.port t.station).emptySlot n else w.port s := by
  obtain ⟨c, hc⟩ := Work.freeRaw_frame ht
  rw [hc]
  exact Work.unplace_port n t.station s w

end

@[simp] theorem Work.freeRaw_tickets (n : Nat) (w : Work) :
    (w.freeRaw n).kr.tickets = eraseBy Ticket.number n w.kr.tickets := by
  cases ht : w.ticket? n with
  | none =>
    rw [Work.freeRaw_none ht]
    refine (List.filter_eq_self.2 fun t h => ?_).symm
    simpa using lookupBy_eq_none_iff.1 ht t h
  | some t =>
    obtain ⟨c, hc⟩ := Work.freeRaw_frame ht
    rw [hc]

@[simp] theorem Work.freeRaw_ticket? (n : Nat) (w : Work) (m : Nat) :
    (w.freeRaw n).ticket? m = if m = n then none else w.ticket? m := by
  rw [Work.ticket?, Work.freeRaw_tickets, lookupBy_eraseBy]
  rfl

@[simp] theorem Work.freeTicket_tickets (n : Nat) (w : Work) :
    (w.freeTicket n).kr.tickets = eraseBy Ticket.number n w.kr.tickets := by
  cases ht : w.ticket? n with
  | none =>
    rw [← Work.freeRaw_tickets, Work.freeRaw_none ht, Work.freeTicket, ht]
  | some t => rw [Work.freeTicket_eq ht, Work.divertTest_tickets, Work.freeRaw_tickets]

@[simp] theorem Work.freeTicket_ticket? (n : Nat) (w : Work) (m : Nat) :
    (w.freeTicket n).ticket? m = if m = n then none else w.ticket? m := by
  rw [Work.ticket?, Work.freeTicket_tickets, lookupBy_eraseBy]
  rfl

end Sys2Proof.Machine
end

section
/-! PROOFS. The Router's operations keep every ticket in its place: a ticket is freed, shown, listed, queued or sent
(R101, R103, R109, R117, R118, R122). -/
namespace Sys2Proof.Machine

/-! ### Changes that reach no place -/

theorem Work.placing_congr {w v : Work} (hk : v.kr = w.kr) (hp : v.ports = w.ports) : v.placing = w.placing := by
  unfold Work.placing Work.spot Work.stub Work.station Work.port Work.ticket?
  rw [hk, hp]

theorem Work.onStation_placing {st : StationId} {f : Station → Station} {w : Work}
    (hf : ∀ x p, Spot.of (f x) p = Spot.of x p) : (w.onStation st f).placing = w.placing := by
  refine Work.placing_eq (fun s => ?_) fun n => rfl
  simp only [Work.spot, Work.onStation_station, Work.onStation_port]
  split
  · rename_i h
    rw [hf, h]
  · rfl

theorem Work.onPort_placing {st : StationId} {f : Port → Port} {w : Work}
    (hf : ∀ x, Spot.of x (f (w.port st)) = Spot.of x (w.port st)) : (w.onPort st f).placing = w.placing := by
  refine Work.placing_eq (fun s => ?_) fun n => rfl
  simp only [Work.spot, Work.onPort_station, Work.onPort_port]
  split
  · rename_i h
    rw [hf, h]
  · rfl

/-- Tickets changed in what no place goes with. -/
theorem Work.mapTickets_placing {f : Ticket → Ticket} (hn : ∀ t, (f t).number = t.number)
    (hf : ∀ t, (f t).stub = t.stub)
    (w : Work) : ({ w with kr := { w.kr with tickets := w.kr.tickets.map f } } : Work).placing = w.placing := by
  refine Work.placing_eq (fun s => rfl) fun n => ?_
  have hstub : Ticket.stub ∘ f = Ticket.stub := funext hf
  rw [Work.stub, Work.ticket?, lookupBy_map hn, Option.map_map, hstub]
  rfl

theorem Work.onTicket_placing {n : Nat} {f : Ticket → Ticket} {w : Work} (hn : ∀ t, (f t).number = t.number)
    (hf : ∀ t, (f t).stub = t.stub) : (w.onTicket n f).placing = w.placing :=
  Work.mapTickets_placing (f := fun t => if t.number == n then f t else t) (fun t => by split <;> simp [hn])
    (fun t => by split <;> simp [hf]) w

theorem Work.putTicket_placing {t : Ticket} {w : Work} (ht : w.stub t.number = some t.stub) :
    (w.putTicket t).placing = w.placing := by
  refine Work.placing_eq (fun s => rfl) fun n => ?_
  rw [Work.stub, Work.putTicket_ticket?]
  split
  · rename_i h
    rw [h, ht]
    rfl
  · rfl

theorem Work.divertTest_placing (st : StationId) (w : Work) : (w.divertTest st).placing = w.placing := by
  refine Work.placing_eq (fun s => ?_) fun n => ?_
  · simp only [Work.spot, Work.divertTest_station, Work.divertTest_port]
    split
    · rename_i h
      rw [h]
      rfl
    · rfl
  · rw [Work.stub, Work.divertTest_ticket?]
    rfl

theorem Work.noteClear_placing (sd : StandId) (before : Nat) (w : Work) :
    (w.noteClear sd before).placing = w.placing := by
  obtain ⟨c, hc⟩ := w.noteClear_frame sd before
  rw [hc]
  rfl

/-! ### A ticket that moves -/

/-- A ticket joins a place of a station. -/
def Spot.join (n : Nat) (y : Place) (x : Spot) : Spot :=
  match y with
  | .voidQ => { x with voidQ := x.voidQ ++ [n] }
  | .normalQ => { x with normalQ := x.normalQ ++ [n] }
  | .slot => { x with slots := x.slots ++ [n] }
  | .shown => { x with shown := x.shown ++ [n] }
  | .listed => { x with recallL := n :: x.recallL }

theorem Spot.entries_join (n : Nat) (y : Place) (x : Spot) : (x.join n y).entries.Perm ((n, y) :: x.entries) := by
  refine List.perm_iff_count.2 fun e => ?_
  cases y <;> simp only [Spot.join, Spot.entries, List.map_append, List.map_cons, List.map_nil, List.count_append,
    List.count_cons, List.count_nil] <;> omega

theorem Spot.entries_perm {x y : Spot} (hv : x.voidQ.Perm y.voidQ) (hn : x.normalQ.Perm y.normalQ)
    (hs : x.slots.Perm y.slots) (hw : x.shown.Perm y.shown) (hr : x.recallL.Perm y.recallL) :
    x.entries.Perm y.entries :=
  ((((hv.map _).append (hn.map _)).append (hs.map _)).append (hw.map _)).append (hr.map _)

theorem Port.emptySlot_holds (n : Nat) (p : Port) : (p.emptySlot n).holds = p.holds.filter (· != n) := by
  have hslot (o : Option OutSlot) : (if o.any (fun x => x.ticket == n) then none else o).toList.map OutSlot.ticket =
      (o.toList.map OutSlot.ticket).filter (· != n) := by
    cases o with
    | none => rfl
    | some x => by_cases h : x.ticket = n <;> simp [h]
  simp only [Port.holds, Port.emptySlot, List.map_append, List.filter_append, hslot]

theorem Spot.of_without (n : Nat) (x : Station) (p : Port) :
    Spot.of (x.without n) (p.emptySlot n) = (Spot.of x p).without n := by
  unfold Spot.of Spot.without
  rw [Port.emptySlot_holds]
  rfl

/-- One ticket of a piece of work has moved within its station, has joined it or has left it: its former places are
empty of it, and it stands in the place that goes with it. -/
structure Work.Moves (n : Nat) (st : StationId) (w v : Work) : Prop where
  home    : ∀ t, w.ticket? n = some t → t.station = st
  there   : ∀ t, v.ticket? n = some t → t.station = st ∧ (t.state = .waiting → t.kind = .assembly)
  tickets : ∀ m, m ≠ n → v.ticket? m = w.ticket? m
  spots   : ∀ s, s ≠ st → v.spot s = w.spot s
  entries : (v.spot st).entries.Perm
    (((v.ticket? n).bind fun t => t.stub.place).toList.map (n, ·) ++ ((w.spot st).without n).entries)
  closed  : (v.spot st).closed = true → (v.spot st).slots = []
  fallback : (v.spot st).fallback = (w.spot st).fallback

theorem Work.Placed.moves {n : Nat} {st : StationId} {w v : Work} (h : w.Placed) (hm : Work.Moves n st w v) :
    v.Placed := by
  refine Placing.Sound.moves h (n := n) (st := st) ⟨fun k hk => ?_, fun k hk => ?_, fun m hne => ?_, hm.spots, ?_,
    hm.closed, hm.fallback⟩
  · obtain ⟨t, ht, rfl⟩ := Option.map_eq_some_iff.1 hk
    exact hm.home t ht
  · obtain ⟨t, ht, rfl⟩ := Option.map_eq_some_iff.1 hk
    exact hm.there t ht
  · exact congrArg (Option.map Ticket.stub) (hm.tickets m hne)
  · have : (v.placing.stub n).bind Stub.place = (v.ticket? n).bind fun t => t.stub.place := Option.bind_map ..
    rw [this]
    exact hm.entries

/-- A slot of a closed port is empty, also where a ticket is taken out. -/
theorem Work.Placed.closed_without {w : Work} (h : w.Placed) {n : Nat} {st : StationId}
    (hc : ((w.spot st).without n).closed = true) : ((w.spot st).without n).slots = [] := by
  have : (w.spot st).slots = [] := h.closed st hc
  simp [Spot.without, this]

theorem Work.Placed.freeRaw {w : Work} (h : w.Placed) (n : Nat) : (w.freeRaw n).Placed := by
  cases ht : w.ticket? n with
  | none => rwa [Work.freeRaw_none ht]
  | some t =>
    have hspot : (w.freeRaw n).spot t.station = (w.spot t.station).without n := by
      rw [Work.spot, Work.freeRaw_station ht, Work.freeRaw_port ht, if_pos rfl, if_pos rfl, Spot.of_without]
      rfl
    refine h.moves (n := n) (st := t.station) ⟨fun k hk => ?_, fun k hk => ?_, fun m hm => ?_, fun s hs => ?_, ?_, ?_,
      ?_⟩
    · rw [ht] at hk
      cases hk
      rfl
    · simp at hk
    · simp [hm]
    · simp only [Work.spot, Work.freeRaw_station ht, Work.freeRaw_port ht, if_neg hs]
    · simp [hspot]
    · rw [hspot]
      exact h.closed_without
    · rw [hspot]
      rfl

theorem Work.Placed.freeTicket {w : Work} (h : w.Placed) (n : Nat) : (w.freeTicket n).Placed := by
  unfold Work.freeTicket
  split
  · exact h
  · exact (h.freeRaw n).congr (Work.divertTest_placing _ _)

theorem Work.Placed.freeAll {w : Work} (h : w.Placed) (ns : List Nat) :
    (ns.foldl (fun w n => w.freeRaw n) w).Placed := by
  induction ns generalizing w with
  | nil => exact h
  | cons n ns ih => exact ih (h.freeRaw n)

end Sys2Proof.Machine
end

section
/-! PROOFS. Tickets shown, queued and listed keep every ticket in its place (R103, R109, R117, R118). -/
namespace Sys2Proof.Machine

/-! ### Tickets shown, listed, queued and sent (R103, R109, R117, R118) -/

/-- A ticket in the place of its own that it has joined at its station. -/
theorem Work.Placed.joins {w v : Work} (h : w.Placed) {n : Nat} {st : StationId} {t : Ticket} {y : Place}
    (home : ∀ k, w.ticket? n = some k → k.station = st) (ticket : v.ticket? n = some t) (station : t.station = st)
    (place : t.stub.place = some y) (tickets : ∀ m, m ≠ n → v.ticket? m = w.ticket? m)
    (spots : ∀ s, s ≠ st → v.spot s = w.spot s) (spot : v.spot st = ((w.spot st).without n).join n y)
    (notSlot : y ≠ .slot) : v.Placed := by
  refine h.moves (n := n) (st := st) ⟨home, fun k hk => ?_, tickets, spots, ?_, fun hc => ?_, ?_⟩
  · rw [ticket] at hk
    cases hk
    refine ⟨station, fun hw => ?_⟩
    have : t.stub.state = .waiting := hw
    simp [Stub.place, this] at place
  · rw [spot, ticket]
    simpa [place] using Spot.entries_join n y _
  · rw [spot] at hc ⊢
    cases y with
    | slot => exact absurd rfl notSlot
    | _ => exact h.closed_without hc
  · rw [spot]
    cases y <;> rfl

theorem Work.show_ticket? (n : Nat) (st : StationId) (w : Work) (m : Nat) : (w.show n st).ticket? m =
    if m = n then (w.ticket? n).map fun t => { t with state := .shown } else w.ticket? m := by
  unfold Work.show
  simp [Work.onTicket_ticket?]

theorem Work.show_station (n : Nat) (st s : StationId) (w : Work) : (w.show n st).station s =
    if s = st then { (w.station st).without n with shown := ((w.station st).without n).shown ++ [n] }
    else w.station s := by
  unfold Work.show
  by_cases h : s = st <;> simp [h]

theorem Work.show_port (n : Nat) (st s : StationId) (w : Work) :
    (w.show n st).port s = if s = st then (w.port st).emptySlot n else w.port s := by
  unfold Work.show
  simp

/-- A ticket of a station becomes SHOWN there (R103, R109, R118). -/
theorem Work.Placed.show {w : Work} (h : w.Placed) {n : Nat} {st : StationId} {t : Ticket} (ht : w.ticket? n = some t)
    (hst : t.station = st) : (w.show n st).Placed := by
  refine h.joins (n := n) (st := st) (t := { t with state := .shown }) (y := .shown) (fun k hk => ?_) ?_ hst rfl
    (fun m hm => ?_) (fun s hs => ?_) ?_ (by decide)
  · rw [ht] at hk
    cases hk
    exact hst
  · simp [Work.show_ticket?, ht]
  · simp [Work.show_ticket?, hm]
  · simp [Work.spot, Work.show_station, Work.show_port, hs]
  · simp only [Work.spot, Work.show_station, Work.show_port, if_true]
    rw [← Spot.of_without]
    rfl

/-- A ticket that waits stands in no place. -/
theorem Work.Placed.without_of_waits {w : Work} (h : w.Placed) {n : Nat}
    (hn : ∀ t, w.ticket? n = some t → t.state = .waiting) (st : StationId) : (w.spot st).without n = w.spot st := by
  refine Spot.without_of_not_mem fun y hy => ?_
  obtain ⟨k, hk, -, hp⟩ := (h.live st n y).1 hy
  obtain ⟨t, ht, rfl⟩ := Option.map_eq_some_iff.1 hk
  have : t.stub.state = .waiting := hn t ht
  simp [Stub.place, this] at hp

/-- A ticket that is new, or has waited, joins a queue of its station (R103, R105, R112, R116). -/
theorem Work.Placed.queued {w u : Work} (h : w.Placed) {n : Nat} {st : StationId} {t : Ticket} {y : Place}
    {f : Station → Station} (hn : ∀ k, w.ticket? n = some k → k.station = st ∧ k.state = .waiting)
    (hspots : ∀ s, u.spot s = w.spot s) (hother : ∀ m, m ≠ n → u.ticket? m = w.ticket? m) (ht : u.ticket? n = some t)
    (hst : t.station = st) (hy : ({ t with state := .queued } : Ticket).stub.place = some y) (hslot : y ≠ .slot)
    (hf : ∀ x p, Spot.of (f x) p = (Spot.of x p).join n y) :
    ((u.onTicket n fun t => { t with state := .queued }).onStation st f).Placed := by
  refine h.joins (n := n) (st := st) (t := { t with state := .queued }) (fun k hk => (hn k hk).1) ?_ hst hy
    (fun m hm => ?_) (fun s hs => ?_) ?_ hslot
  · simp [Work.onTicket_ticket?, ht]
  · simp [Work.onTicket_ticket?, hm, hother]
  · rw [← hspots]
    simp [Work.spot, hs]
  · rw [h.without_of_waits fun k hk => (hn k hk).2, ← hspots]
    simp [Work.spot, hf]

theorem Work.Placed.queueNormal {w u : Work} (h : w.Placed) {n : Nat} {st : StationId} {t : Ticket}
    (hn : ∀ k, w.ticket? n = some k → k.station = st ∧ k.state = .waiting) (hspots : ∀ s, u.spot s = w.spot s)
    (hother : ∀ m, m ≠ n → u.ticket? m = w.ticket? m) (ht : u.ticket? n = some t) (hst : t.station = st)
    (hk : t.kind ≠ .void) : (u.queueNormal n st).Placed :=
  (h.queued (y := .normalQ) hn hspots hother ht hst (by simp [Stub.place, Ticket.stub, hk]) (by decide)
    fun _ _ => rfl).congr (Work.divertTest_placing st _)

theorem Work.Placed.queueVoid {w u : Work} (h : w.Placed) {n : Nat} {st : StationId} {t : Ticket}
    (hn : w.ticket? n = none) (hspots : ∀ s, u.spot s = w.spot s) (hother : ∀ m, m ≠ n → u.ticket? m = w.ticket? m)
    (ht : u.ticket? n = some t) (hst : t.station = st) (hk : t.kind = .void) : (u.queueVoid n st).Placed :=
  (h.queued (y := .voidQ) (fun k hk => by simp [hn] at hk) hspots hother ht hst (by simp [Stub.place, Ticket.stub, hk])
    (by decide) fun _ _ => rfl).congr (Work.divertTest_placing st _)

/-- The ticket of a place is live, of that station and in the state that goes with the place. -/
theorem Work.Placed.found {w : Work} (h : w.Placed) {n : Nat} {st : StationId} {y : Place}
    (hm : (n, y) ∈ (w.spot st).entries) : ∃ t, w.ticket? n = some t ∧ t.station = st ∧ t.stub.place = some y := by
  obtain ⟨k, hk, hst, hp⟩ := (h.live st n y).1 hm
  obtain ⟨t, ht, rfl⟩ := Option.map_eq_some_iff.1 hk
  exact ⟨t, ht, hst, hp⟩

/-- The oldest ticket of a full recall list is freed before another enters (R117). -/
def Work.makeRecallRoom (st : StationId) (w : Work) : Work :=
  if recallSize ≤ (w.station st).recallL.length then
    match (w.station st).recallL.getLast? with
    | some o => w.freeRaw o
    | none => w
  else w

theorem Work.enterRecall_eq (n : Nat) (t : Ticket) (w : Work) : w.enterRecall n t =
    Work.noteClear t.stand (w.standCount t.stand) (Work.offerTry (Work.onStation t.station
      (fun s => { s with recallL := (n :: s.recallL).take recallSize }) (Work.onTicket n
        (fun t => { t with state := .bumped }) (((w.makeRecallRoom t.station).unplace n t.station).dropOffers n)))) :=
  rfl

theorem Work.makeRecallRoom_spec {w : Work} (h : w.Placed) {st : StationId} (hr : (w.station st).recallL.length ≤ 8) :
    (w.makeRecallRoom st).Placed ∧ ((w.makeRecallRoom st).station st).recallL.length ≤ 7 ∧
      ∀ n, n ∉ (w.station st).recallL → (w.makeRecallRoom st).ticket? n = w.ticket? n := by
  unfold Work.makeRecallRoom
  by_cases hfull : recallSize ≤ (w.station st).recallL.length
  · rw [if_pos hfull]
    cases ho : (w.station st).recallL.getLast? with
    | none =>
      rw [List.getLast?_eq_none_iff.1 ho] at hfull
      cases hfull
    | some o =>
      have hmem : o ∈ (w.station st).recallL := List.mem_of_getLast? ho
      obtain ⟨t, ht, rfl, -⟩ := h.found (y := .listed) (Spot.mem_entries.2 hmem)
      refine ⟨h.freeRaw o, ?_, fun n hn => ?_⟩
      · rw [Work.freeRaw_station ht, if_pos rfl]
        have := List.length_filter_lt_length_iff_exists (p := (· != o)) |>.2 ⟨o, hmem, by simp⟩
        have : ((w.station t.station).without o).recallL.length < (w.station t.station).recallL.length := this
        omega
      · rw [Work.freeRaw_ticket?, if_neg]
        rintro rfl
        exact hn hmem
  · rw [if_neg hfull]
    exact ⟨h, Nat.lt_succ_iff.1 (Nat.lt_of_not_le hfull), fun n _ => rfl⟩

@[simp] theorem Work.dropOffers_station (n : Nat) (s : StationId) (w : Work) :
    (w.dropOffers n).station s = w.station s := rfl
@[simp] theorem Work.dropOffers_port (n : Nat) (s : StationId) (w : Work) : (w.dropOffers n).port s = w.port s := rfl
@[simp] theorem Work.dropOffers_ticket? (n m : Nat) (w : Work) : (w.dropOffers n).ticket? m = w.ticket? m := rfl
@[simp] theorem Work.offerTry_station (s : StationId) (w : Work) : w.offerTry.station s = w.station s := rfl
@[simp] theorem Work.offerTry_port (s : StationId) (w : Work) : w.offerTry.port s = w.port s := rfl
@[simp] theorem Work.offerTry_ticket? (m : Nat) (w : Work) : w.offerTry.ticket? m = w.ticket? m := rfl

/-- A ticket of a station that does not stand in its recall list enters it (R117). -/
theorem Work.Placed.enterRecall {w : Work} (h : w.Placed) {n : Nat} {t k : Ticket}
    (hr : (w.station t.station).recallL.length ≤ 8) (hk : w.ticket? n = some k) (hst : k.station = t.station)
    (hn : k.state ≠ .bumped) : (w.enterRecall n t).Placed := by
  obtain ⟨hroom, hlen, hkeeps⟩ := Work.makeRecallRoom_spec h hr
  have hk' : (w.makeRecallRoom t.station).ticket? n = some k := by
    refine (hkeeps n fun hm => hn ?_).trans hk
    obtain ⟨k', hk', -, hp⟩ := h.found (y := .listed) (Spot.mem_entries.2 hm)
    rw [hk] at hk'
    cases hk'
    exact Stub.place_eq_some.1 hp
  rw [Work.enterRecall_eq]
  generalize w.makeRecallRoom t.station = u at hroom hlen hk' ⊢
  refine Work.Placed.congr (hroom.joins (n := n) (st := t.station) (t := { k with state := .bumped }) (y := .listed)
    (v := Work.offerTry (Work.onStation t.station (fun s => { s with recallL := (n :: s.recallL).take recallSize })
      (Work.onTicket n (fun t => { t with state := .bumped }) ((u.unplace n t.station).dropOffers n))))
    (fun k' h' => ?_) ?_ hst rfl (fun m hm => ?_) (fun s hs => ?_) ?_ (by decide)) (Work.noteClear_placing _ _ _)
  · rw [hk'] at h'
    cases h'
    exact hst
  · simp [Work.onTicket_ticket?, hk']
  · simp [Work.onTicket_ticket?, hm]
  · simp [Work.spot, hs]
  · have hlist : ((u.station t.station).without n).recallL.length ≤ 7 := (List.length_filter_le _ _).trans hlen
    have htake : (n :: ((u.station t.station).without n).recallL).take recallSize = _ :=
      List.take_of_length_le (Nat.succ_le_succ hlist)
    simp only [Work.spot, Work.offerTry_station, Work.offerTry_port, Work.onStation_station, Work.onStation_port,
      Work.onTicket_station, Work.onTicket_port, Work.dropOffers_station, Work.dropOffers_port, Work.unplace_station,
      Work.unplace_port, if_true, htake]
    rw [← Spot.of_without]
    rfl

end Sys2Proof.Machine
end

section
/-! PROOFS. What a port and the kitchen do to a ticket keeps it in its place: sent, taken, bumped, recalled, settled,
voided (R109, R112, R114, R115, R118, R130 to R133). -/
namespace Sys2Proof.Machine

theorem Work.emit_placing (e : Effect) (w : Work) : (w.emit e).placing = w.placing := rfl

theorem Work.offerTry_placing (w : Work) : w.offerTry.placing = w.placing := rfl

theorem Work.offerCompletion_placing (n : Nat) (st : StationId) (v : Via) (w : Work) :
    (w.offerCompletion n st v).placing = w.placing := rfl

/-! ### The head of a queue sent (R109, R130) -/

theorem Spot.without_perm {x y : Spot} {n : Nat} {z : Place} (hx : (x.entries.map Prod.fst).Nodup)
    (h : x.entries.Perm ((n, z) :: y.entries)) : (x.without n).entries.Perm y.entries := by
  have hnot : ∀ e ∈ y.entries, (e.1 != n) = true := by
    have := (h.map Prod.fst).nodup_iff.1 hx
    rw [List.map_cons, List.nodup_cons, List.mem_map] at this
    exact fun e he => bne_iff_ne.2 fun hn => this.1 ⟨e, he, hn⟩
  rw [Spot.entries_without, ← List.filter_eq_self.2 hnot]
  simpa using h.filter fun e => e.1 != n

/-- Taking the head out of a queue takes that ticket out of its place. -/
theorem Spot.entries_dropHead {x : Station} {p : Port} {n : Nat} (h : x.queue.head? = some n) :
    ∃ z, (Spot.of x p).entries.Perm ((n, z) :: (Spot.of x.dropHead p).entries) := by
  cases hv : x.voidQ with
  | cons v vs =>
    have : v = n := by simpa [Station.queue, hv] using h
    subst this
    exact ⟨.voidQ, by simp [Spot.entries, Spot.of, Station.dropHead, hv]⟩
  | nil =>
    cases hn : x.normalQ with
    | nil => simp [Station.queue, hv, hn] at h
    | cons m ms =>
      have : m = n := by simpa [Station.queue, hv, hn] using h
      subst this
      exact ⟨.normalQ, by simp [Spot.entries, Spot.of, Station.dropHead, hv, hn]⟩

theorem Port.setSlot_holds {p : Port} {x : Slot} (h : (p.slot x).isNone = true) (o : OutSlot) :
    (p.setSlot x (some o)).holds.Perm (p.holds ++ [o.ticket]) := by
  cases x with
  | a =>
    have : p.slotA = none := by simpa [Port.slot] using h
    simpa [Port.holds, Port.setSlot, this] using (List.perm_append_singleton _ _).symm
  | b =>
    have : p.slotB = none := by simpa [Port.slot] using h
    simp [Port.holds, Port.setSlot, this]

theorem Spot.mem_of_head {x : Station} {p : Port} {n : Nat} (h : x.queue.head? = some n) :
    ∃ z, (n, z) ∈ (Spot.of x p).entries :=
  let ⟨z, hz⟩ := Spot.entries_dropHead h
  ⟨z, hz.mem_iff.2 List.mem_cons_self⟩

/-- The head of a queue goes into an out slot. -/
theorem Spot.entries_fill {x : Station} {p q : Port} {n : Nat} (hx : ((Spot.of x p).entries.map Prod.fst).Nodup)
    (hn : x.queue.head? = some n) (hq : q.holds.Perm (p.holds ++ [n])) :
    (Spot.of x.dropHead q).entries.Perm ((n, .slot) :: ((Spot.of x p).without n).entries) := by
  obtain ⟨z, hz⟩ := Spot.entries_dropHead (p := p) hn
  have hfill : (Spot.of x.dropHead q).entries.Perm ((Spot.of x.dropHead p).join n .slot).entries :=
    Spot.entries_perm .rfl .rfl hq .rfl .rfl
  exact hfill.trans ((Spot.entries_join n .slot _).trans ((Spot.without_perm hx hz).symm.cons _))

theorem Port.setSlot_holds_same {p : Port} {x : Slot} {o o' : OutSlot} (h : p.slot x = some o)
    (ho : o'.ticket = o.ticket) : (p.setSlot x (some o')).holds = p.holds := by
  cases x with
  | a =>
    have : p.slotA = some o := h
    simp [Port.holds, Port.setSlot, this, ho]
  | b =>
    have : p.slotB = some o := h
    simp [Port.holds, Port.setSlot, this, ho]

theorem Port.setSlot_link (p : Port) (x : Slot) (o : Option OutSlot) : (p.setSlot x o).link = p.link := by
  cases x <;> rfl

theorem Station.dropHead_cfg (x : Station) : x.dropHead.cfg = x.cfg := by
  unfold Station.dropHead
  split <;> rfl

theorem Work.Placed.sendHead {w : Work} (h : w.Placed) {st : StationId} (hl : (w.station st).cfg.loaded = true) :
    (w.sendHead st).Placed := by
  unfold Work.sendHead
  split
  · rename_i hmay
    obtain ⟨⟨⟨hup, -⟩, -⟩, hslot⟩ : ((_ ∧ _) ∧ _) ∧ _ := by simpa only [Port.maySend, Bool.and_eq_true] using hmay
    split
    · rename_i t ht
      obtain ⟨n, hhead, hn⟩ := Option.bind_eq_some_iff.1 ht
      have hnum : t.number = n := (lookupBy_some hn).2
      obtain ⟨z, hz⟩ := Spot.mem_of_head (p := w.port st) hhead
      obtain ⟨k, hk, hst, -⟩ := h.found hz
      cases hn.symm.trans hk
      subst hst
      simp only [hnum]
      refine Work.Placed.congr (h.moves (n := n) (st := t.station) ⟨fun k hk' => ?_, fun k hk' => ?_, fun m hm => ?_,
        fun s hs => ?_, ?_, fun hc => absurd hc ?_, ?_⟩) (Work.emit_placing _ _)
      · cases hn.symm.trans hk'
        rfl
      · simp only [Work.onPort_ticket?, Work.onTicket_ticket? (f := fun t => { t with state := .sending }) fun _ => rfl,
          Work.onStation_ticket?, if_true, hn, Option.map_some, Option.some.injEq] at hk'
        subst hk'
        exact ⟨rfl, nofun⟩
      · simp [Work.onTicket_ticket?, hm]
      · simp [Work.spot, hs]
      · simp only [Work.spot, Work.onPort_station, Work.onTicket_station, Work.onStation_station, if_true,
          Work.onPort_port, Work.onTicket_port, Work.onStation_port, Work.onPort_ticket?, Work.onStation_ticket?,
          Work.onTicket_ticket? (f := fun t => { t with state := .sending }) (fun _ => rfl), hn]
        exact Spot.entries_fill (h.nodup t.station) hhead (Port.setSlot_holds hslot _)
      · simp only [Work.spot, Work.onPort_station, Work.onTicket_station, Work.onStation_station, if_true,
          Work.onPort_port, Work.onTicket_port, Work.onStation_port, Spot.closed_of, Station.dropHead_cfg, hl]
        have hlink : (w.port t.station).link = .up := of_decide_eq_true hup
        simp [Port.setSlot_link, hlink]
      · simp only [Work.spot, Work.onPort_station, Work.onTicket_station, Work.onStation_station, if_true]
        exact congrArg StationCfg.fallback (Station.dropHead_cfg _)
    · exact h
  · exact h

/-! ### Tickets taken, bumped and recalled (R109, R110, R118, R131, R133) -/

theorem Work.Placed.slotted {w : Work} (h : w.Placed) {st : StationId} {x : Slot} {o : OutSlot}
    (ho : (w.port st).slot x = some o) : ∃ t, w.ticket? o.ticket = some t ∧ t.station = st ∧ t.state = .sending := by
  have hm : (o.ticket, Place.slot) ∈ (w.spot st).entries := by
    refine Spot.mem_entries.2 ?_
    cases x with
    | a =>
      have : (w.port st).slotA = some o := ho
      simp [Work.spot, Spot.of, Port.holds, this]
    | b =>
      have : (w.port st).slotB = some o := ho
      simp [Work.spot, Spot.of, Port.holds, this]
  obtain ⟨t, ht, hst, hp⟩ := h.found hm
  exact ⟨t, ht, hst, Stub.place_eq_some.1 hp⟩

theorem Work.Placed.onScreen {w : Work} (h : w.Placed) {st : StationId} {n : Nat} (hn : n ∈ (w.station st).shown) :
    ∃ t, w.ticket? n = some t ∧ t.station = st ∧ t.state = .shown := by
  obtain ⟨t, ht, hst, hp⟩ := h.found (y := .shown) (Spot.mem_entries.2 hn)
  exact ⟨t, ht, hst, Stub.place_eq_some.1 hp⟩

theorem Work.Placed.onList {w : Work} (h : w.Placed) {st : StationId} {n : Nat} (hn : n ∈ (w.station st).recallL) :
    ∃ t, w.ticket? n = some t ∧ t.station = st ∧ t.state = .bumped := by
  obtain ⟨t, ht, hst, hp⟩ := h.found (y := .listed) (Spot.mem_entries.2 hn)
  exact ⟨t, ht, hst, Stub.place_eq_some.1 hp⟩

theorem Work.Placed.taken {w : Work} (h : w.Placed) (st : StationId) (x : Slot) : (w.taken st x).Placed := by
  unfold Work.taken
  split
  · rename_i o ho
    obtain ⟨t, ht, hst, -⟩ := h.slotted ho
    have hnum : t.number = o.ticket := (lookupBy_some ht).2
    split
    · rw [Work.takenSlot, ht]
      simp only
      split
      · split
        · refine (h.congr (Work.onPort_placing fun y => ?_)).congr (Work.offerCompletion_placing _ _ _ _)
          rw [Spot.of, Port.setSlot_holds_same (o' := { o with marked := true, timer := none }) ho rfl,
            Port.setSlot_link]
          rfl
        · exact h.freeTicket _
      · exact ((h.show (hnum ▸ ht) hst).congr (Work.divertTest_placing _ _)).congr (Work.offerTry_placing _)
    · exact h
  · exact h

theorem Work.Placed.bump {w : Work} (h : w.Placed) (st : StationId) (n : Nat)
    (hr : (w.station st).recallL.length ≤ 8) : (w.bump st n).Placed := by
  unfold Work.bump
  split
  · rename_i hshown
    obtain ⟨t, ht, rfl, hs⟩ := h.onScreen (List.contains_iff_mem.1 hshown)
    rw [ht]
    simp only
    split
    · split
      · exact h
      · exact h.congr rfl
    · split
      · exact h.freeTicket n
      · exact h.enterRecall hr ht rfl (by simp [hs])
  · exact h

theorem Work.Placed.remake {w : Work} (h : w.Placed) {n : Nat} {st : StationId} {t : Ticket} (ht : w.ticket? n = some t)
    (hst : t.station = st) : (w.remake n st).Placed :=
  (h.show ht hst).congr (Work.onTicket_placing (fun _ => rfl) fun _ => rfl)

theorem Work.Placed.recallArrives {w : Work} (h : w.Placed) (st : StationId) (n : Nat) :
    (w.recallArrives st n).Placed := by
  unfold Work.recallArrives
  split
  · rename_i hlisted
    obtain ⟨t, ht, hst, -⟩ := h.onList (List.contains_iff_mem.1 hlisted)
    rw [ht]
    simp only
    split
    · exact h.congr rfl
    · split
      · exact h.remake ht hst
      · exact h
  · exact h

/-! ### Assemblies and voids (R112, R114, R115) -/

theorem Ticket.forget_number (a t : Ticket) : (a.forget t).number = t.number := by
  unfold Ticket.forget
  split <;> rfl

theorem Ticket.forget_stub (a t : Ticket) : (a.forget t).stub = t.stub := by
  unfold Ticket.forget
  split <;> rfl

theorem Work.Placed.settleAssembly {w : Work} (h : w.Placed) (completing : Option Nat) (n : Nat) :
    (w.settleAssembly completing n).Placed := by
  unfold Work.settleAssembly
  split
  · rename_i a ha
    split
    · rename_i hkind
      have hwait : (w.onTicket n fun t => { t with wait := w.waitOf completing a }).Placed :=
        h.congr (Work.onTicket_placing (fun _ => rfl) fun _ => rfl)
      split
      · exact Work.Placed.freeTicket (h.congr (Work.mapTickets_placing (Ticket.forget_number a)
          (Ticket.forget_stub a) w)) n
      · simp only
        split
        · rename_i hready
          refine h.queueNormal (t := { a with wait := w.waitOf completing a }) (fun k hk => ?_) (fun _ => rfl)
            (fun m hm => ?_) ?_ rfl (by simp [hkind.1])
          · cases ha.symm.trans hk
            exact ⟨rfl, hready.1⟩
          · simp [Work.onTicket_ticket?, hm]
          · simp [Work.onTicket_ticket?, ha]
        · exact hwait
    · exact h
  · exact h

theorem Work.Placed.putTicket {w : Work} (h : w.Placed) {n : Nat} {t k : Ticket} (hk : w.ticket? n = some k)
    (hn : t.number = k.number) (hs : t.stub = k.stub) : (w.putTicket t).Placed := by
  refine h.congr (Work.putTicket_placing ?_)
  rw [hn, hs, (lookupBy_some hk).2, Work.stub, hk]
  rfl

theorem Work.Placed.voidOnNormal {w : Work} (h : w.Placed) (c : Check) (l : Line) : (w.voidOnNormal c l).Placed := by
  unfold Work.voidOnNormal
  split
  · exact h
  · rename_i t ht
    obtain ⟨n, hn⟩ := Work.normalOf_some ht
    split
    · split
      · exact h.freeTicket _
      · exact h.putTicket hn rfl rfl
    · exact h.putTicket hn rfl rfl
    · exact h.putTicket hn rfl rfl
    · exact h.putTicket hn rfl rfl
    · exact h

theorem Work.Placed.voidOnAssembly {w : Work} (h : w.Placed) (c : Check) (l : Line) :
    (w.voidOnAssembly c l).Placed := by
  unfold Work.voidOnAssembly
  split
  · exact h
  · rename_i a ha
    obtain ⟨n, hn⟩ := Work.assemblyOf_some ha
    exact h.putTicket hn (by split <;> rfl) (by split <;> rfl)

end Sys2Proof.Machine
end

section
/-! PROOFS. New tickets: the numbers taken for them are free and distinct, and each joins the place that goes with it
(R102, R105, R116). -/
namespace Sys2Proof.Machine

/-! ### Numbers (R102) -/

theorem nextFree_iterate (top : Nat) (held : List Nat) (fuel n : Nat) :
    ∃ k ≤ fuel, nextFree top held fuel n = (wrapNext top)^[k] n := by
  induction fuel generalizing n with
  | zero => exact ⟨0, le_rfl, rfl⟩
  | succ fuel ih =>
    unfold nextFree
    split
    · obtain ⟨k, hk, he⟩ := ih (wrapNext top n)
      exact ⟨k + 1, Nat.succ_le_succ hk, he⟩
    · exact ⟨0, Nat.zero_le _, rfl⟩

/-- Numbers taken one after another are found at rising distances from the counter. -/
theorem Work.takeNumbers_iterates (k : Nat) (w : Work) : ∃ ds : List Nat,
    ds.Pairwise (· < ·) ∧ (∀ d ∈ ds, d < k * (w.kr.tickets.length + 1)) ∧
      (w.takeNumbers k).1 = ds.map fun d => (wrapNext 65535)^[d] w.kr.ticketCtr := by
  induction k generalizing w with
  | zero => exact ⟨[], List.Pairwise.nil, by simp, rfl⟩
  | succ k ih =>
    obtain ⟨d, hd, he⟩ := nextFree_iterate 65535 (w.kr.tickets.map Ticket.number) w.kr.tickets.length w.kr.ticketCtr
    obtain ⟨ds, hrise, hlt, hns⟩ := ih w.takeNumber.2
    have htickets : w.takeNumber.2.kr.tickets = w.kr.tickets := rfl
    have hctr : w.takeNumber.2.kr.ticketCtr = (wrapNext 65535)^[d + 1] w.kr.ticketCtr := by
      rw [Function.iterate_succ_apply', ← he]
      rfl
    rw [htickets] at hlt
    refine ⟨d :: ds.map (d + 1 + ·), ?_, ?_, ?_⟩
    · refine List.pairwise_cons.2 ⟨fun e hm => ?_, List.pairwise_map.2 (hrise.imp fun h => Nat.add_lt_add_left h _)⟩
      obtain ⟨x, -, rfl⟩ := List.mem_map.1 hm
      omega
    · have hstep : (k + 1) * (w.kr.tickets.length + 1) = k * (w.kr.tickets.length + 1) + (w.kr.tickets.length + 1) :=
        Nat.succ_mul _ _
      intro e hm
      rcases List.mem_cons.1 hm with rfl | hm
      · omega
      · obtain ⟨x, hx, rfl⟩ := List.mem_map.1 hm
        have := hlt x hx
        omega
    · change w.takeNumber.1 :: (w.takeNumber.2.takeNumbers k).1 = _
      rw [hns, hctr, List.map_cons, List.map_map]
      refine congrArg₂ List.cons he (List.map_congr_left fun x _ => ?_)
      rw [Function.comp_apply, Nat.add_comm (d + 1) x]
      exact (Function.iterate_add_apply _ x (d + 1) _).symm

theorem Work.takeNumbers_nodup {k : Nat} {w : Work} (h : k * (w.kr.tickets.length + 1) ≤ 65535) :
    (w.takeNumbers k).1.Nodup := by
  obtain ⟨ds, hrise, hlt, hns⟩ := w.takeNumbers_iterates k
  rw [hns]
  refine (List.nodup_map_iff_inj_on (hrise.imp Nat.ne_of_lt)).2 fun i hi j hj hij => ?_
  have hi' := hlt i hi
  have hj' := hlt j hj
  rw [iterate_wrapNext _ _ _ (by omega), iterate_wrapNext _ _ _ (by omega)] at hij
  split_ifs at hij <;> omega

/-- A number taken is free. -/
theorem Work.takeNumber_free {w : Work} (h : w.kr.tickets.length < 65535) : w.ticket? w.takeNumber.1 = none := by
  have hfree := nextFree_not_mem (held := w.kr.tickets.map Ticket.number) (List.length_map _).le
    (by rwa [List.length_map]) w.kr.ticketCtr
  exact lookupBy_eq_none_iff.2 fun t ht he => hfree (List.mem_map.2 ⟨t, ht, he⟩)

theorem Work.takeNumbers_free {k : Nat} {w : Work} (h : w.kr.tickets.length < 65535) :
    ∀ n ∈ (w.takeNumbers k).1, w.ticket? n = none := by
  induction k generalizing w with
  | zero => exact nofun
  | succ k ih =>
    intro n hn
    rcases List.mem_cons.1 hn with rfl | hn
    · exact Work.takeNumber_free h
    · exact ih (w := w.takeNumber.2) h n hn

theorem Work.takeNumbers_eq (k : Nat) (w : Work) :
    ∃ x, (w.takeNumbers k).2 = { w with kr := { w.kr with ticketCtr := x } } := by
  induction k generalizing w with
  | zero => exact ⟨w.kr.ticketCtr, rfl⟩
  | succ k ih => exact ih w.takeNumber.2

/-! ### The tickets of a firing (R105) -/

/-- A plan with an ASSEMBLY gives it the last of the numbers. -/
theorem Work.makeTickets_gathers {p : Plan} {x : StationId} {g : List Line} (h : p.assembly = some (x, g)) (c : Check)
    (w : Work) : ∃ ns a, (w.takeNumbers p.size).1 = ns ++ [a] ∧ ns.length = p.normals.length ∧
      w.makeTickets c p =
        ((ns.zip p.normals).foldl (fun w q => w.makeNormal c (some (a, g.map Line.index)) q.1 q.2.1 q.2.2)
          (w.takeNumbers p.size).2).makeAssembly c a
          (p.normals.countP fun q => q.2.any fun l => decide (l.index ∈ g.map Line.index)) x g := by
  have hlen := w.takeNumbers_length p.size
  have hsize : p.size = p.normals.length + 1 := by simp [Plan.size, h]
  obtain ⟨ns, a, hns'⟩ := (List.eq_nil_or_concat (w.takeNumbers p.size).1).resolve_left fun e => by
    rw [e, hsize] at hlen
    cases hlen
  rw [List.concat_eq_append] at hns'
  have hlen' : ns.length = p.normals.length := by
    rw [hns', hsize, List.length_append] at hlen
    exact Nat.succ.inj hlen
  refine ⟨ns, a, hns', hlen', ?_⟩
  unfold Work.makeTickets
  generalize w.takeNumbers p.size = r at hns'
  obtain ⟨_, v⟩ := r
  subst hns'
  have hzip : (ns ++ [a]).zip p.normals = ns.zip p.normals := by
    rw [← List.append_nil p.normals, List.zip_append hlen']
    simp
  simp only [h, Option.bind_some, List.getLast?_append, List.getLast?_singleton, Option.some_or, Option.map_some, hzip]

theorem Work.makeTickets_plain {p : Plan} (h : p.assembly = none) (c : Check) (w : Work) : w.makeTickets c p =
    ((w.takeNumbers p.size).1.zip p.normals).foldl (fun w q => w.makeNormal c none q.1 q.2.1 q.2.2)
      (w.takeNumbers p.size).2 := by
  unfold Work.makeTickets
  simp only [h, Option.bind_none]

/-- The ASSEMBLY that holds a line of a firing. -/
def gatheredIn (asm : Option (Nat × List Nat)) (l : Line) : Option Nat :=
  match asm with
  | some (a, ls) => if l.index ∈ ls then some a else none
  | none => none

/-- One NORMAL ticket of a firing (R105). -/
def Work.normalTicket (w : Work) (c : Check) (asm : Option (Nat × List Nat)) (n : Nat) (st : StationId)
    (g : List Line) : Ticket where
  number := n
  kind := .normal
  remake := false
  station := st
  check := some c.number
  stand := c.stand
  pickup := c.pickup
  fired := w.now.secs
  entries := g.map Line.entry
  state := .queued
  wait := 0
  assembly := (g.filterMap (gatheredIn asm)).head?
  original := none

theorem Work.makeNormal_eq (c : Check) (asm : Option (Nat × List Nat)) (n : Nat) (st : StationId) (g : List Line)
    (w : Work) : w.makeNormal c asm n st g =
      ((w.putTicket (w.normalTicket c asm n st g)).queueNormal n st).onCheck c.number
        (Check.onLines (fun l => decide (l.index ∈ g.map Line.index)) fun l =>
          { l with state := .fired, ticket := some n, assembly := (gatheredIn asm l).or l.assembly }) := rfl

@[simp] theorem Work.onCheck_ticket? (n m : Nat) (f : Check → Check) (w : Work) :
    (w.onCheck n f).ticket? m = w.ticket? m := rfl

theorem Work.queueNormal_ticket?_other {n m : Nat} (h : m ≠ n) (st : StationId) (w : Work) :
    (w.queueNormal n st).ticket? m = w.ticket? m := by
  unfold Work.queueNormal
  simp [Work.onTicket_ticket?, h]

theorem Work.makeNormal_ticket?_other {n m : Nat} (h : m ≠ n) (c : Check) (asm : Option (Nat × List Nat))
    (st : StationId) (g : List Line) (w : Work) : (w.makeNormal c asm n st g).ticket? m = w.ticket? m := by
  rw [Work.makeNormal_eq, Work.onCheck_ticket?, Work.queueNormal_ticket?_other h, Work.putTicket_ticket?]
  exact if_neg h

theorem Work.onCheck_placing (n : Nat) (f : Check → Check) (w : Work) : (w.onCheck n f).placing = w.placing := rfl

theorem Work.Placed.makeNormal {w : Work} (h : w.Placed) {n : Nat} (hn : w.ticket? n = none) (c : Check)
    (asm : Option (Nat × List Nat)) (st : StationId) (g : List Line) : (w.makeNormal c asm n st g).Placed := by
  have hqueued : ((w.putTicket (w.normalTicket c asm n st g)).queueNormal n st).Placed := by
    refine h.queueNormal (t := w.normalTicket c asm n st g) (fun k hk => ?_) (fun _ => rfl) (fun m hm => ?_) ?_ rfl
      nofun
    · simp [hn] at hk
    · exact (Work.putTicket_ticket? _ _ _).trans (if_neg hm)
    · exact (Work.putTicket_ticket? _ _ _).trans (if_pos rfl)
  rw [Work.makeNormal_eq]
  exact hqueued.congr (Work.onCheck_placing _ _ _)

theorem Work.Placed.makeNormals {w : Work} (h : w.Placed) (c : Check) (asm : Option (Nat × List Nat))
    (xs : List (Nat × StationId × List Line)) (hnodup : (xs.map Prod.fst).Nodup)
    (hfree : ∀ n ∈ xs.map Prod.fst, w.ticket? n = none) :
    (xs.foldl (fun w x => w.makeNormal c asm x.1 x.2.1 x.2.2) w).Placed ∧
      ∀ m, m ∉ xs.map Prod.fst →
        (xs.foldl (fun w x => w.makeNormal c asm x.1 x.2.1 x.2.2) w).ticket? m = w.ticket? m := by
  induction xs generalizing w with
  | nil => exact ⟨h, fun m _ => rfl⟩
  | cons x xs ih =>
    rw [List.map_cons, List.nodup_cons] at hnodup
    rw [List.map_cons, List.forall_mem_cons] at hfree
    have hkeep {m : Nat} (hm : m ≠ x.1) := Work.makeNormal_ticket?_other hm c asm x.2.1 x.2.2 w
    obtain ⟨hplaced, hrest⟩ := ih (h.makeNormal hfree.1 c asm x.2.1 x.2.2) hnodup.2 fun n hn =>
      (hkeep fun e => hnodup.1 (e ▸ hn)).trans (hfree.2 n hn)
    refine ⟨hplaced, fun m hm => ?_⟩
    rw [List.map_cons, List.mem_cons, not_or] at hm
    exact (hrest m hm.2).trans (hkeep hm.1)

theorem Work.Placed.makeAssembly {w : Work} (h : w.Placed) {n : Nat} (hn : w.ticket? n = none) (c : Check) (k : Nat)
    (x : StationId) (g : List Line) : (w.makeAssembly c n k x g).Placed := by
  have hsame := h.without_of_waits (n := n) (fun t ht => by simp [hn] at ht) x
  refine h.moves (n := n) (st := x) ⟨fun t ht => by simp [hn] at ht, fun t ht => ?_, fun m hm => ?_, fun _ _ => rfl, ?_,
    h.closed x, rfl⟩
  · rw [Work.makeAssembly, Work.putTicket_ticket?, if_pos rfl] at ht
    cases ht
    exact ⟨rfl, fun _ => rfl⟩
  · rw [Work.makeAssembly, Work.putTicket_ticket?, if_neg hm]
  · rw [hsame, Work.makeAssembly, Work.putTicket_ticket?, if_pos rfl]
    exact .rfl

theorem Work.Placed.takeNumbers {w : Work} (h : w.Placed) (k : Nat) : (w.takeNumbers k).2.Placed := by
  obtain ⟨x, hx⟩ := w.takeNumbers_eq k
  rw [hx]
  exact h.congr rfl

/-- The tickets of a firing: as many numbers as the plan has tickets are taken at once. -/
theorem Work.Placed.makeTickets {w : Work} (h : w.Placed) (c : Check) (p : Plan)
    (hroom : p.size * (w.kr.tickets.length + 1) ≤ 65535) (hsize : w.kr.tickets.length < 65535) :
    (w.makeTickets c p).Placed := by
  have hnodup := Work.takeNumbers_nodup hroom
  have hfree (n : Nat) (hn : n ∈ (w.takeNumbers p.size).1) : (w.takeNumbers p.size).2.ticket? n = none := by
    obtain ⟨x, hx⟩ := w.takeNumbers_eq p.size
    rw [hx]
    exact Work.takeNumbers_free hsize n hn
  have hnums := h.takeNumbers p.size
  cases ha : p.assembly with
  | none =>
    have hzip : ((w.takeNumbers p.size).1.zip p.normals).map Prod.fst = (w.takeNumbers p.size).1 :=
      List.map_fst_zip (by simp [Work.takeNumbers_length, Plan.size, ha])
    rw [Work.makeTickets_plain ha]
    exact (hnums.makeNormals c none _ (hzip.symm ▸ hnodup) fun n hn => hfree n (hzip ▸ hn)).1
  | some q =>
    obtain ⟨x, g⟩ := q
    obtain ⟨ns, a, hns, hlen, he⟩ := Work.makeTickets_gathers ha c w
    rw [hns] at hnodup hfree
    have hzip : (ns.zip p.normals).map Prod.fst = ns := List.map_fst_zip hlen.le
    obtain ⟨hplaced, hrest⟩ := hnums.makeNormals c (some (a, g.map Line.index)) (ns.zip p.normals)
      (hzip.symm ▸ (List.nodup_append.1 hnodup).1) fun n hn => hfree n (List.mem_append_left _ (hzip ▸ hn))
    rw [he]
    refine hplaced.makeAssembly ((hrest a fun hm => ?_).trans (hfree a (by simp))) c _ x g
    rw [hzip] at hm
    exact (List.nodup_append.1 hnodup).2.2 a hm a (by simp) rfl

/-! ### VOID tickets (R113 to R116) -/

theorem Work.Placed.makeVoid {w : Work} (h : w.Placed) (hsize : w.kr.tickets.length < 65535) (c : Check)
    (cs : List (StationId × Nat × Line)) (st : StationId) : (w.makeVoid c cs st).Placed :=
  h.queueVoid (Work.takeNumber_free hsize) (fun _ => rfl)
    (fun m hm => (Work.putTicket_ticket? _ _ m).trans (if_neg hm)) ((Work.putTicket_ticket? _ _ _).trans (if_pos rfl))
    rfl rfl

theorem Work.Placed.foldl {α : Type} {f : Work → α → Work} (hf : ∀ (w : Work) x, w.Placed → (f w x).Placed)
    {w : Work} (h : w.Placed) (xs : List α) : (xs.foldl f w).Placed := by
  induction xs generalizing w with
  | nil => exact h
  | cons x xs ih => exact ih (hf w x h)

theorem Work.Placed.makeVoids {w : Work} (h : w.Placed) {n : Nat} (hfits : w.Fits n) (c : Check)
    (cs : List (StationId × Nat × Line)) (sts : List StationId) (hsize : n + sts.length ≤ 1024) :
    (sts.foldl (fun w st => w.makeVoid c cs st) w).Placed := by
  induction sts generalizing n w with
  | nil => exact h
  | cons st sts ih =>
    rw [List.length_cons] at hsize
    have hlen := hfits.size
    exact ih (h.makeVoid (by omega) c cs st) (hfits.makeVoids c cs [st]) (by simp only [List.length_singleton]; omega)

theorem Work.Placed.kitchenVoid {w v : Work} (h : w.Placed) (hfits : w.Fits 1024) {c : Check} {ls : List Line}
    (hv : w.kitchenVoid c ls = some v) : v.Placed := by
  unfold Work.kitchenVoid at hv
  simp only at hv
  split at hv
  · rename_i hroom
    cases hv
    have hvoided := h.foldl (f := fun w l => (w.voidOnNormal c l).voidOnAssembly c l)
      (fun w l hw => (hw.voidOnNormal c l).voidOnAssembly c l) ls
    have hsettled := hvoided.foldl (fun w n hw => hw.settleAssembly none n)
      ((ls.filterMap fun l => (w.assemblyOf c l).map Ticket.number).foldr insertIndex [])
    have hroutes := (Work.Routes.foldl (f := fun w l => (w.voidOnNormal c l).voidOnAssembly c l)
      (fun w l => (w.voidOnNormal_routes c l).trans (Work.voidOnAssembly_routes c l _)) ls w).trans
      (Work.Routes.foldl (fun w n => w.settleAssembly_routes none n)
        ((ls.filterMap fun l => (w.assemblyOf c l).map Ticket.number).foldr insertIndex []) _)
    rcases hroom with hnone | ⟨hlen, -⟩
    · rw [hnone]
      exact hsettled
    · exact hsettled.makeVoids (hroutes.fits hfits.self) c _ _ hlen
  · cases hv

end Sys2Proof.Machine
end

section
/-! PROOFS. A station going down: what reverts, what is freed, what moves to the fallback and what stays (R122,
R128). -/
namespace Sys2Proof.Machine

/-! ### What reverts (R122, step 1) -/

/-- The tickets out at a station, in the order in which they go back to its queue. -/
def Work.held (w : Work) (st : StationId) : List Nat := (w.station st).shown ++ (w.port st).sendingOrder

/-- A ticket of these numbers goes back to the queue. -/
def Ticket.requeue (ns : List Nat) (t : Ticket) : Ticket := if t.number ∈ ns then { t with state := .queued } else t

@[simp] theorem Ticket.requeue_number (ns : List Nat) (t : Ticket) : (t.requeue ns).number = t.number := by
  unfold Ticket.requeue
  split <;> rfl
@[simp] theorem Ticket.requeue_kind (ns : List Nat) (t : Ticket) : (t.requeue ns).kind = t.kind := by
  unfold Ticket.requeue
  split <;> rfl
@[simp] theorem Ticket.requeue_station (ns : List Nat) (t : Ticket) : (t.requeue ns).station = t.station := by
  unfold Ticket.requeue
  split <;> rfl

/-- Tickets go back one by one, and the offers that name them are made void. -/
theorem Work.requeueAll_eq (ns : List Nat) (w : Work) :
    ns.foldl (fun w n => (w.onTicket n fun t => { t with state := .queued }).dropOffers n) w =
      { w with kr := { w.kr with
        tickets := w.kr.tickets.map (Ticket.requeue ns)
        completions := w.kr.completions.filter fun o => decide (o.ticket ∉ ns)
        recalls := w.kr.recalls.filter fun o => decide (o.ticket ∉ ns) } } := by
  induction ns generalizing w with
  | nil =>
    have hid : Ticket.requeue [] = id := funext fun t => if_neg List.not_mem_nil
    simp [hid]
  | cons n ns ih =>
    have hstep : Ticket.requeue ns ∘ (fun t : Ticket => if t.number == n then { t with state := .queued } else t) =
        Ticket.requeue (n :: ns) := by
      funext t
      by_cases h : t.number = n <;> by_cases h' : t.number ∈ ns <;> simp [Ticket.requeue, h, h']
    have hoffer {α : Type} (key : α → Nat) (os : List α) :
        (os.filter fun o => key o != n).filter (fun o => decide (key o ∉ ns)) =
          os.filter fun o => decide (key o ∉ n :: ns) := by
      rw [List.filter_filter]
      congr 1
      funext o
      by_cases h : key o = n <;> simp [h]
    rw [List.foldl_cons, ih]
    simp only [Work.dropOffers, Work.onTicket, mapBy, List.map_map, hstep, hoffer CompletionOffer.ticket,
      hoffer RecallOffer.ticket]

theorem Work.revert_station (st s : StationId) (w : Work) : (w.revert st).station s =
    if s = st then { w.station st with shown := [], normalQ := w.held st ++ (w.station st).normalQ }
    else w.station s := by
  unfold Work.revert
  simp only [Work.requeueAll_eq]
  exact modify_ite _ _ _ _

theorem Work.revert_ports (st : StationId) (w : Work) :
    (w.revert st).ports = modify w.ports st fun p => { p with slotA := none, slotB := none } := by
  unfold Work.revert
  simp only [Work.requeueAll_eq]
  rfl

theorem Work.revert_tickets (st : StationId) (w : Work) :
    (w.revert st).kr.tickets = w.kr.tickets.map (Ticket.requeue (w.held st)) := by
  unfold Work.revert
  simp only [Work.requeueAll_eq]
  rfl

theorem Work.revert_completions (st : StationId) (w : Work) : (w.revert st).kr.completions =
    w.kr.completions.filter fun o => decide (o.ticket ∉ w.held st) := by
  unfold Work.revert
  simp only [Work.requeueAll_eq]
  rfl

theorem Work.revert_recalls (st : StationId) (w : Work) : (w.revert st).kr.recalls =
    w.kr.recalls.filter fun o => decide (o.ticket ∉ w.held st) := by
  unfold Work.revert
  simp only [Work.requeueAll_eq]
  rfl

theorem Work.revert_fx (st : StationId) (w : Work) : (w.revert st).fx = w.fx := by
  unfold Work.revert
  simp only [Work.requeueAll_eq]
  rfl

/-! ### What is freed (R122, steps 2 and 3) -/

/-- Tickets taken out of every place of a station. -/
def Station.withoutAll (ns : List Nat) (x : Station) : Station :=
  { x with voidQ := x.voidQ.filter (· ∉ ns), normalQ := x.normalQ.filter (· ∉ ns), shown := x.shown.filter (· ∉ ns),
           recallL := x.recallL.filter (· ∉ ns) }

theorem Station.withoutAll_cons (n : Nat) (ns : List Nat) (x : Station) :
    x.withoutAll (n :: ns) = (x.without n).withoutAll ns := by
  have hl (l : List Nat) : l.filter (· ∉ n :: ns) = (l.filter (· != n)).filter (· ∉ ns) := by
    rw [List.filter_filter]
    congr 1
    funext m
    by_cases h : m = n <;> simp [h]
  simp only [Station.withoutAll, Station.without, hl]

/-- Tickets of a station whose slots are empty have been freed. -/
structure Work.Freed (ns : List Nat) (st : StationId) (w v : Work) : Prop where
  station     : ∀ s, v.station s = if s = st then (w.station st).withoutAll ns else w.station s
  tickets     : v.kr.tickets = w.kr.tickets.filter fun t => decide (t.number ∉ ns)
  completions : v.kr.completions = w.kr.completions.filter fun o => decide (o.ticket ∉ ns)
  recalls     : v.kr.recalls = w.kr.recalls.filter fun o => decide (o.ticket ∉ ns)
  ports       : v.ports = w.ports
  fx          : v.fx = w.fx

theorem Port.emptySlot_of_empty {p : Port} (h : p.slotA = none ∧ p.slotB = none) (n : Nat) : p.emptySlot n = p := by
  obtain ⟨link, slotA, slotB, mark, hold, holdTimer, probe, lastDown, lastFault, kindMismatch, badFrames⟩ := p
  obtain ⟨rfl, rfl⟩ := h
  rfl

theorem Work.freeRaw_freed {n : Nat} {t : Ticket} {w : Work} (ht : w.ticket? n = some t)
    (hempty : (w.port t.station).slotA = none ∧ (w.port t.station).slotB = none) :
    Work.Freed [n] t.station w (w.freeRaw n) := by
  have hcut : (w.port t.station).sendingTicket n = false := by simp [Port.sendingTicket, hempty]
  obtain ⟨c, hc⟩ := Work.freeRaw_frame ht
  have hone {α : Type} (key : α → Nat) (os : List α) :
      (os.filter fun o => key o != n) = os.filter fun o => decide (key o ∉ [n]) := by
    congr 1
    funext o
    by_cases h : key o = n <;> simp [h]
  refine ⟨fun s => ?_, ?_, ?_, ?_, ?_, ?_⟩
  · rw [Work.freeRaw_station ht]
    split
    · rw [Station.withoutAll_cons]
      simp [Station.withoutAll, Station.without]
    · rfl
  · rw [Work.freeRaw_tickets]
    exact hone Ticket.number _
  · rw [hc]
    exact hone CompletionOffer.ticket _
  · rw [hc]
    exact hone RecallOffer.ticket _
  · rw [hc, Work.unplace_eq]
    change modify w.ports t.station (Port.emptySlot n) = w.ports
    rw [modify_eq_set, show w.ports[t.station] = w.port t.station from rfl, Port.emptySlot_of_empty hempty]
    exact set_get_self _ _
  · rw [hc, Work.unplace_eq, hcut]
    exact List.append_nil _

theorem Work.Freed.trans {ns ms : List Nat} {st : StationId} {u v w : Work} (h : Work.Freed ns st u v)
    (h' : Work.Freed ms st v w) : Work.Freed (ns ++ ms) st u w := by
  have hboth {α : Type} (key : α → Nat) (os : List α) :
      (os.filter fun o => decide (key o ∉ ns)).filter (fun o => decide (key o ∉ ms)) =
        os.filter fun o => decide (key o ∉ ns ++ ms) := by
    rw [List.filter_filter]
    congr 1
    funext o
    by_cases hn : key o ∈ ns <;> by_cases hm : key o ∈ ms <;> simp [hn, hm]
  refine ⟨fun s => ?_, ?_, ?_, ?_, h'.ports.trans h.ports, h'.fx.trans h.fx⟩
  · rw [h'.station, h.station, h.station]
    by_cases hs : s = st
    · simp only [hs, if_true, Station.withoutAll, hboth (fun n => n)]
    · simp only [hs, if_false]
  · rw [h'.tickets, h.tickets, hboth Ticket.number]
  · rw [h'.completions, h.completions, hboth CompletionOffer.ticket]
  · rw [h'.recalls, h.recalls, hboth RecallOffer.ticket]

theorem Work.freeAll_freed {st : StationId} {ns : List Nat} {w : Work} (hnodup : ns.Nodup)
    (hlive : ∀ n ∈ ns, ∃ t, w.ticket? n = some t ∧ t.station = st)
    (hempty : (w.port st).slotA = none ∧ (w.port st).slotB = none) :
    Work.Freed ns st w (ns.foldl (fun w n => w.freeRaw n) w) := by
  induction ns generalizing w with
  | nil => exact ⟨fun s => by split <;> simp_all [Station.withoutAll], by simp, by simp, by simp, rfl, rfl⟩
  | cons n ns ih =>
    rw [List.nodup_cons] at hnodup
    obtain ⟨t, ht, rfl⟩ := hlive n List.mem_cons_self
    have hone := Work.freeRaw_freed ht hempty
    refine hone.trans (ih hnodup.2 (fun m hm => ?_) ?_)
    · rw [Work.freeRaw_ticket?, if_neg fun e : m = n => hnodup.1 (e ▸ hm)]
      exact hlive m (List.mem_cons_of_mem _ hm)
    · rwa [Work.port, hone.ports]

/-! ### Which tickets go and which stay (R122) -/

/-- The ticket of this number is a VOID ticket. -/
def Work.isVoid (w : Work) (n : Nat) : Bool := (w.ticket? n).any fun t => decide (t.kind = .void)

/-- The tickets that go to the queue of a station that goes down, before any of them moves. -/
def Work.returned (w : Work) (st : StationId) : List Nat :=
  (w.held st ++ (w.station st).normalQ).filter fun n => !w.isVoid n

/-- The tickets freed when a station goes down. -/
def Work.gone (w : Work) (st : StationId) : List Nat :=
  (w.station st).recallL ++ (w.held st ++ (w.station st).normalQ).filter w.isVoid ++ (w.station st).voidQ

/-- All tickets that stand at a station. -/
def Work.stood (w : Work) (st : StationId) : List Nat :=
  w.held st ++ (w.station st).normalQ ++ (w.station st).voidQ ++ (w.station st).recallL

theorem Port.sendingOrder_perm (p : Port) : p.sendingOrder.Perm p.holds := by
  have hmap (o : Option OutSlot) : (o.map OutSlot.ticket).toList = o.toList.map OutSlot.ticket := by cases o <;> rfl
  unfold Port.sendingOrder
  cases p.mark with
  | a => simp [Port.slot, Port.holds, hmap]
  | b =>
    simp only [Port.slot, Port.holds, hmap, List.map_append]
    exact List.perm_append_comm

theorem Work.stood_perm (w : Work) (st : StationId) : (w.stood st).Perm ((w.spot st).entries.map Prod.fst) := by
  rw [Spot.map_fst_entries]
  have horder := (w.port st).sendingOrder_perm
  refine List.perm_iff_count.2 fun n => ?_
  have := horder.count_eq n
  simp only [Work.stood, Work.held, Work.spot, Spot.of, List.count_append]
  omega

theorem Work.gone_perm (w : Work) (st : StationId) : (w.gone st ++ w.returned st).Perm (w.stood st) := by
  have hparts := List.filter_append_perm w.isVoid (w.held st ++ (w.station st).normalQ)
  refine List.perm_iff_count.2 fun n => ?_
  have := hparts.count_eq n
  simp only [Work.gone, Work.returned, Work.stood, List.count_append] at this ⊢
  omega

section
variable {w : Work} (h : w.Placed) {st : StationId} {n : Nat}
include h

theorem Work.Placed.stood_nodup (st : StationId) : (w.stood st).Nodup := (w.stood_perm st).nodup_iff.2 (h.nodup st)

theorem Work.Placed.gone_nodup (st : StationId) : (w.gone st).Nodup :=
  (List.nodup_append.1 ((w.gone_perm st).nodup_iff.2 (h.stood_nodup st))).1

theorem Work.Placed.returned_nodup (st : StationId) : (w.returned st).Nodup :=
  (List.nodup_append.1 ((w.gone_perm st).nodup_iff.2 (h.stood_nodup st))).2.1

theorem Work.Placed.returned_not_gone (hn : n ∈ w.returned st) : n ∉ w.gone st := fun hg =>
  (List.nodup_append.1 ((w.gone_perm st).nodup_iff.2 (h.stood_nodup st))).2.2 n hg n hn rfl

theorem Work.Placed.stood_live (hn : n ∈ w.stood st) : ∃ t, w.ticket? n = some t ∧ t.station = st := by
  obtain ⟨⟨m, y⟩, hm, rfl⟩ := List.mem_map.1 ((w.stood_perm st).mem_iff.1 hn)
  obtain ⟨t, ht, hst, -⟩ := h.found hm
  exact ⟨t, ht, hst⟩

theorem Work.Placed.queued_not_held (hn : n ∈ (w.station st).normalQ) : n ∉ w.held st := fun hh =>
  (List.nodup_append.1 (List.nodup_append.1 (List.nodup_append.1 (h.stood_nodup st)).1).1).2.2 n hh n hn rfl

end

theorem Work.mem_stood_iff {w : Work} {st : StationId} {n : Nat} :
    n ∈ w.stood st ↔ n ∈ w.gone st ∨ n ∈ w.returned st := by
  rw [← (w.gone_perm st).mem_iff, List.mem_append]

theorem Work.Placed.not_gone_iff {w : Work} (h : w.Placed) {st : StationId} {n : Nat} :
    n ∉ w.gone st ↔ n ∉ w.stood st ∨ n ∈ w.returned st := by
  rw [Work.mem_stood_iff]
  constructor
  · intro hg
    by_cases hr : n ∈ w.returned st
    · exact .inr hr
    · exact .inl (not_or.2 ⟨hg, hr⟩)
  · rintro (hs | hr)
    · exact fun hg => hs (.inl hg)
    · exact h.returned_not_gone hr

end Sys2Proof.Machine
end

section
/-! PROOFS. What the Router's part in a station's going down leaves (R122). -/
namespace Sys2Proof.Machine

/-! ### The station cleared (R122, steps 1 to 3) -/

theorem Work.revert_ticket? (st : StationId) (w : Work) (n : Nat) :
    (w.revert st).ticket? n = (w.ticket? n).map (Ticket.requeue (w.held st)) := by
  rw [Work.ticket?, Work.revert_tickets, lookupBy_map (Ticket.requeue_number _)]
  rfl

theorem Work.revert_isVoid (st : StationId) (w : Work) (n : Nat) : (w.revert st).isVoid n = w.isVoid n := by
  simp [Work.isVoid, Work.revert_ticket?, Option.any_map]

theorem Work.clearDown_revert (st : StationId) (w : Work) : (w.revert st).clearDown st =
    (w.gone st).foldl (fun w n => w.freeRaw n) (w.revert st) := by
  have hvoid : (fun n => ((w.revert st).ticket? n).any fun t => decide (t.kind = .void)) = w.isVoid :=
    funext (w.revert_isVoid st)
  unfold Work.clearDown
  simp only [hvoid]
  rw [Work.revert_station, if_pos rfl]
  rfl

/-- Of the tickets that stand at a station that goes down, those whose offers remain. -/
def Work.keepsOffers (w : Work) (st : StationId) (n : Nat) : Bool :=
  decide (n ∉ w.stood st) || decide (n ∈ (w.station st).normalQ) && !w.isVoid n

/-- A station that goes down has its tickets in its queue alone, and no VOID ticket and no recall list. -/
structure Work.Cleared (st : StationId) (w v : Work) : Prop where
  station     : ∀ s, v.station s = if s = st then
    { w.station st with voidQ := [], normalQ := w.returned st, shown := [], recallL := [] } else w.station s
  tickets     : v.kr.tickets = (w.kr.tickets.filter fun t => decide (t.number ∉ w.gone st)).map (.requeue (w.held st))
  completions : v.kr.completions = w.kr.completions.filter fun o => w.keepsOffers st o.ticket
  recalls     : v.kr.recalls = w.kr.recalls.filter fun o => w.keepsOffers st o.ticket
  ports       : v.ports = modify w.ports st fun p => { p with slotA := none, slotB := none }
  fx          : v.fx = w.fx

theorem Work.Placed.keepsOffers_iff {w : Work} (h : w.Placed) {st : StationId} {n : Nat} :
    w.keepsOffers st n = true ↔ n ∉ w.held st ∧ n ∉ w.gone st := by
  rw [Work.keepsOffers, Bool.or_eq_true, Bool.and_eq_true, decide_eq_true_iff, decide_eq_true_iff, h.not_gone_iff]
  constructor
  · rintro (hs | ⟨hn, hv⟩)
    · exact ⟨fun hh => hs (by simp [Work.stood, hh]), .inl hs⟩
    · exact ⟨h.queued_not_held hn, .inr (List.mem_filter.2 ⟨List.mem_append_right _ hn, hv⟩)⟩
  · rintro ⟨hh, hs | hr⟩
    · exact .inl hs
    · obtain ⟨hn, hv⟩ := List.mem_filter.1 hr
      exact .inr ⟨(List.mem_append.1 hn).resolve_left hh, hv⟩

theorem Work.Placed.cleared {w : Work} (h : w.Placed) (st : StationId) :
    Work.Cleared st w ((w.revert st).clearDown st) := by
  have hport : ((w.revert st).port st).slotA = none ∧ ((w.revert st).port st).slotB = none := by
    rw [Work.port, Work.revert_ports, modify_self]
    exact ⟨rfl, rfl⟩
  have hlive (n : Nat) (hn : n ∈ w.gone st) : ∃ t, (w.revert st).ticket? n = some t ∧ t.station = st := by
    obtain ⟨t, ht, hst⟩ := h.stood_live (Work.mem_stood_iff.2 (.inl hn))
    exact ⟨t.requeue (w.held st), by rw [Work.revert_ticket?, ht]; rfl, by simpa using hst⟩
  have hfreed := Work.freeAll_freed (h.gone_nodup st) hlive hport
  have hoffer {α : Type} (key : α → Nat) (os : List α) :
      (os.filter fun o => decide (key o ∉ w.held st)).filter (fun o => decide (key o ∉ w.gone st)) =
        os.filter fun o => w.keepsOffers st (key o) := by
    rw [List.filter_filter]
    congr 1
    funext o
    rw [Bool.eq_iff_iff, h.keepsOffers_iff, Bool.and_eq_true, decide_eq_true_iff, decide_eq_true_iff, and_comm]
  rw [Work.clearDown_revert]
  refine ⟨fun s => ?_, ?_, ?_, ?_, hfreed.ports.trans (w.revert_ports st), hfreed.fx.trans (w.revert_fx st)⟩
  · rw [hfreed.station, Work.revert_station, Work.revert_station, if_pos rfl]
    split
    · have hvoid : (w.station st).voidQ.filter (· ∉ w.gone st) = [] :=
        List.filter_eq_nil_iff.2 fun n hn => by simp [Work.gone, hn]
      have hlist : (w.station st).recallL.filter (· ∉ w.gone st) = [] :=
        List.filter_eq_nil_iff.2 fun n hn => by simp [Work.gone, hn]
      have hqueue : (w.held st ++ (w.station st).normalQ).filter (· ∉ w.gone st) = w.returned st := by
        refine List.filter_congr fun n hn => ?_
        cases hv : w.isVoid n with
        | false => simpa using h.returned_not_gone (List.mem_filter.2 ⟨hn, by simp [hv]⟩)
        | true =>
          have : n ∈ w.gone st :=
            List.mem_append_left _ (List.mem_append_right _ (List.mem_filter.2 ⟨hn, hv⟩))
          simpa using this
      simp only [Station.withoutAll, hvoid, hlist, hqueue, List.filter_nil]
    · rfl
  · rw [hfreed.tickets, Work.revert_tickets, List.filter_map]
    simp [Function.comp_def]
  · rw [hfreed.completions, Work.revert_completions, hoffer CompletionOffer.ticket]
  · rw [hfreed.recalls, Work.revert_recalls, hoffer RecallOffer.ticket]

/-! ### What moves to the fallback (R122, step 4) -/

/-- A ticket of these numbers moves to another station. -/
def Ticket.relocate (ns : List Nat) (f : StationId) (t : Ticket) : Ticket :=
  if t.number ∈ ns then { t with station := f } else t

@[simp] theorem Ticket.relocate_number (ns : List Nat) (f : StationId) (t : Ticket) :
    (t.relocate ns f).number = t.number := by
  unfold Ticket.relocate
  split <;> rfl

theorem Ticket.relocate_nil (f : StationId) : Ticket.relocate [] f = id := funext fun _ => if_neg List.not_mem_nil

/-- How many tickets the fallback of a station takes when the station goes down. -/
def Work.fitting (w : Work) (st : StationId) : Nat :=
  match (w.station st).cfg.fallback with
  | none => 0
  | some f => if (w.port f).link = .up then min (w.returned st).length (128 - w.load f) else 0

def Work.moved (w : Work) (st : StationId) : List Nat := (w.returned st).take (w.fitting st)
def Work.left (w : Work) (st : StationId) : List Nat := (w.returned st).drop (w.fitting st)

/-- A station that goes down has handed the front of its queue to its fallback, as far as it fits there. -/
structure Work.HandedOver (st : StationId) (w v : Work) : Prop where
  here        : v.station st =
    { w.station st with voidQ := [], normalQ := w.left st, shown := [], recallL := [] }
  fallback    : ∀ f, (w.station st).cfg.fallback = some f → v.station f =
    { w.station f with normalQ := (w.station f).normalQ ++ w.moved st }
  elsewhere   : ∀ s, s ≠ st → (w.station st).cfg.fallback ≠ some s → v.station s = w.station s
  tickets     : v.kr.tickets = ((w.kr.tickets.filter fun t => decide (t.number ∉ w.gone st)).map
    (.requeue (w.held st))).map (.relocate (w.moved st) ((w.station st).cfg.fallback.getD st))
  completions : v.kr.completions = w.kr.completions.filter fun o => w.keepsOffers st o.ticket
  recalls     : v.kr.recalls = w.kr.recalls.filter fun o => w.keepsOffers st o.ticket
  ports       : v.ports = modify w.ports st fun p => { p with slotA := none, slotB := none }
  fx          : v.fx = w.fx

theorem Work.HandedOver.offered {st : StationId} {w v : Work} (h : Work.HandedOver st w v) (c : Prop) [Decidable c] :
    Work.HandedOver st w (if c then v else v.offerTry) := by
  split
  · exact h
  · exact ⟨h.here, h.fallback, h.elsewhere, h.tickets, h.completions, h.recalls, h.ports, h.fx⟩

theorem Work.Cleared.load {st : StationId} {w v : Work} (hv : Work.Cleared st w v) (h : w.Placed)
    (hrise : Rising Ticket.number w.kr.tickets) {f : StationId} (hf : f ≠ st) : v.load f = w.load f := by
  have hst {t : Ticket} (ht : t ∈ w.kr.tickets) (hn : t.number ∈ w.stood st) : t.station = st := by
    obtain ⟨k, hk, hs⟩ := h.stood_live hn
    rw [Work.ticket?, lookupBy_of_mem hrise ht] at hk
    cases hk
    exact hs
  have hheld {t : Ticket} (hn : t.number ∈ w.held st) : t.number ∈ w.stood st := by simp [Work.stood, hn]
  simp only [Work.load, ← List.countP_eq_length_filter, hv.tickets, List.countP_map, List.countP_filter]
  refine List.countP_congr fun t ht => ?_
  by_cases hstood : t.number ∈ w.stood st
  · have hs := hst ht hstood
    simp [Ticket.requeue_station, hs, hf.symm]
  · have hgone : t.number ∉ w.gone st := fun hg => hstood (Work.mem_stood_iff.2 (.inl hg))
    have hkeep : t.requeue (w.held st) = t := if_neg fun hn => hstood (hheld hn)
    simp [hgone, hkeep]

theorem Work.Cleared.handedOver {st : StationId} {w v : Work} (hv : Work.Cleared st w v) (h : w.Placed)
    (hrise : Rising Ticket.number w.kr.tickets) :
    Work.HandedOver st w (v.moveToFallback st).2 ∧ (v.moveToFallback st).1 = (w.moved st).length := by
  have hhere : v.station st = { w.station st with
      voidQ := [], normalQ := w.returned st, shown := [], recallL := [] } := (hv.station st).trans (if_pos rfl)
  have hother {s : StationId} (hs : s ≠ st) : v.station s = w.station s := (hv.station s).trans (if_neg hs)
  have hnoself : (w.station st).cfg.fallback ≠ some st := h.fallback st
  have hcfg : (v.station st).cfg = (w.station st).cfg := by rw [hhere]
  unfold Work.moveToFallback
  rw [hcfg]
  cases hfb : (w.station st).cfg.fallback with
  | none =>
    have hfit : w.fitting st = 0 := by simp [Work.fitting, hfb]
    have hmoved : w.moved st = [] := by simp [Work.moved, hfit]
    have hleft : w.left st = w.returned st := by simp [Work.left, hfit]
    refine ⟨⟨by rw [hhere, hleft], fun f hf => by simp [hfb] at hf, fun s hs _ => hother hs, ?_, hv.completions,
      hv.recalls, hv.ports, hv.fx⟩, by simp [hmoved]⟩
    rw [hmoved, Ticket.relocate_nil, List.map_id]
    exact hv.tickets
  | some f =>
    have hne : f ≠ st := fun e => hnoself (by rw [hfb, e])
    have hlink : (v.port f).link = (w.port f).link := by
      rw [Work.port, hv.ports, modify_other _ _ _ _ hne]
      rfl
    simp only [hlink]
    by_cases hup : (w.port f).link = .up
    · have hmoved : (v.station st).normalQ.take (loadSize - v.load f) = w.moved st := by
        rw [hhere, hv.load h hrise hne, Work.moved, Work.fitting, hfb]
        simp only [hup, if_true]
        rw [List.take_eq_take_iff]
        simp only [loadSize]
        omega
      have hleft : (v.station st).normalQ.drop (w.moved st).length = w.left st := by
        have hle : w.fitting st ≤ (w.returned st).length := by
          simp only [Work.fitting, hfb, hup, if_true]
          exact Nat.min_le_left _ _
        rw [hhere, Work.moved, List.length_take, Nat.min_eq_left hle]
        rfl
      rw [if_pos hup, hmoved]
      refine ⟨?_, rfl⟩
      refine Work.HandedOver.offered ?_ _
      refine ⟨?_, fun g hg => ?_, fun s hs hg => ?_, ?_, hv.completions, hv.recalls, hv.ports, hv.fx⟩
      · refine (Work.onStation_station f st _ _).trans ?_
        rw [if_neg hne.symm, Work.onStation_station, if_pos rfl, hleft, hhere]
      · rw [hfb] at hg
        cases hg
        refine (Work.onStation_station f f _ _).trans ?_
        rw [if_pos rfl, Work.onStation_station, if_neg hne, hother hne]
      · rw [hfb] at hg
        refine (Work.onStation_station f s _ _).trans ?_
        rw [if_neg fun e : s = f => hg (by rw [e]), Work.onStation_station, if_neg hs, hother hs]
      · rw [← hv.tickets, hfb]
        rfl
    · have hfit : w.fitting st = 0 := by simp [Work.fitting, hfb, hup]
      have hmoved : w.moved st = [] := by simp [Work.moved, hfit]
      have hleft : w.left st = w.returned st := by simp [Work.left, hfit]
      rw [if_neg hup, hmoved]
      refine ⟨⟨by rw [hhere, hleft], fun g hg => ?_, fun s hs _ => hother hs, ?_, hv.completions, hv.recalls, hv.ports,
        hv.fx⟩, rfl⟩
      · rw [hfb] at hg
        cases hg
        rw [hother hne, hmoved, List.append_nil]
      · rw [hmoved, Ticket.relocate_nil, List.map_id]
        exact hv.tickets

/-! ### The divert states judged anew (R119, R122, step 5) -/

theorem Station.turns_eq (x : Station) (b : Nat) : x.turns b = x.divertsAt b := by
  unfold Station.turns Station.divertsAt
  split <;> simp

theorem Work.divertTest_fx (st : StationId) (w : Work) :
    (w.divertTest st).fx = w.fx ++ ((w.station st).turnEvents st (w.backlog st)).map .event := by
  rw [Work.divertTest_eq]
  simp only [Station.turnEvents, Station.turns_eq]
  split <;> rfl

/-- The divert events of a station that goes down and of its fallback. -/
def Work.downTurns (w : Work) (st : StationId) : List Event :=
  (w.station st).turnEvents st (w.left st).length ++
    match (w.station st).cfg.fallback with
    | some f => (w.station f).turnEvents f (w.backlog f + (w.moved st).length)
    | none => []

/-- What a station's going down leaves of the kitchen: its queue, its fallback, the tickets and the offers (R122). -/
structure Work.Downed (st : StationId) (w v : Work) : Prop where
  here        : v.station st = { w.station st with
    diverting := (w.station st).turns (w.left st).length, voidQ := [], normalQ := w.left st, shown := [],
    recallL := [] }
  fallback    : ∀ f, (w.station st).cfg.fallback = some f → v.station f = { w.station f with
    normalQ := (w.station f).normalQ ++ w.moved st
    diverting := (w.station f).turns (w.backlog f + (w.moved st).length) }
  elsewhere   : ∀ s, s ≠ st → (w.station st).cfg.fallback ≠ some s → v.station s = w.station s
  tickets     : v.kr.tickets = ((w.kr.tickets.filter fun t => decide (t.number ∉ w.gone st)).map
    (.requeue (w.held st))).map (.relocate (w.moved st) ((w.station st).cfg.fallback.getD st))
  completions : v.kr.completions = w.kr.completions.filter fun o => w.keepsOffers st o.ticket
  recalls     : v.kr.recalls = w.kr.recalls.filter fun o => w.keepsOffers st o.ticket

@[simp] theorem Work.divertTest_completions (st : StationId) (w : Work) :
    (w.divertTest st).kr.completions = w.kr.completions := by
  rw [Work.divertTest_eq]
  rfl
@[simp] theorem Work.divertTest_recalls (st : StationId) (w : Work) :
    (w.divertTest st).kr.recalls = w.kr.recalls := by
  rw [Work.divertTest_eq]
  rfl

theorem Work.HandedOver.backlog_here {st : StationId} {w v : Work} (hv : Work.HandedOver st w v) :
    v.backlog st = (w.left st).length := by
  have hport : v.port st = { w.port st with slotA := none, slotB := none } := by
    rw [Work.port, hv.ports, modify_self]
    rfl
  simp [Work.backlog, hv.here, hport, Port.occupied]

theorem Work.HandedOver.backlog_fallback {st f : StationId} {w v : Work} (hv : Work.HandedOver st w v)
    (hf : (w.station st).cfg.fallback = some f) (hne : f ≠ st) :
    v.backlog f = w.backlog f + (w.moved st).length := by
  have hport : v.port f = w.port f := by
    rw [Work.port, hv.ports, modify_other _ _ _ _ hne]
    rfl
  simp only [Work.backlog, hv.fallback f hf, hport, List.length_append]
  omega

theorem Work.Placed.routerDown {w : Work} (h : w.Placed) (hrise : Rising Ticket.number w.kr.tickets) (st : StationId) :
    Work.Downed st w (w.routerDown st).2 ∧
      (w.routerDown st).2.ports = modify w.ports st (fun p => { p with slotA := none, slotB := none }) ∧
      (w.routerDown st).2.fx = w.fx ++ (w.downTurns st).map .event ∧
      (w.routerDown st).1 = (w.moved st).length := by
  obtain ⟨hv, hk⟩ := (h.cleared st).handedOver h hrise
  have hhere := hv.here
  have hbacklog := hv.backlog_here
  unfold Work.routerDown
  simp only
  generalize ((w.revert st).clearDown st).moveToFallback st = r at hv hk hhere hbacklog ⊢
  obtain ⟨k, v⟩ := r
  simp only at hv hk hhere hbacklog ⊢
  have hcfg : ((v.divertTest st).station st).cfg.fallback = (w.station st).cfg.fallback := by
    rw [Work.divertTest_station, if_pos rfl, hhere]
  have hst : (v.divertTest st).station st = { w.station st with
      diverting := (w.station st).turns (w.left st).length, voidQ := [], normalQ := w.left st, shown := [],
      recallL := [] } := by
    rw [Work.divertTest_station, if_pos rfl, hbacklog, hhere, Station.turns_eq]
    rfl
  have hfx : (v.divertTest st).fx = w.fx ++ ((w.station st).turnEvents st (w.left st).length).map .event := by
    rw [Work.divertTest_fx, hv.fx, hbacklog, hhere]
    rfl
  rw [hcfg]
  cases hfb : (w.station st).cfg.fallback with
  | none =>
    refine ⟨⟨hst, fun f hf => by simp [hfb] at hf, fun s hs hne => ?_, ?_, ?_, ?_⟩, ?_, ?_, hk⟩
    · rw [Work.divertTest_station, if_neg hs]
      exact hv.elsewhere s hs hne
    · rw [Work.divertTest_tickets, hv.tickets]
    · rw [Work.divertTest_completions, hv.completions]
    · rw [Work.divertTest_recalls, hv.recalls]
    · rw [Work.divertTest_ports, hv.ports]
    · rw [hfx, Work.downTurns, hfb, List.append_nil]
  | some f =>
    have hne : f ≠ st := fun e => h.fallback st (e ▸ hfb)
    have hf : (v.divertTest st).station f = { w.station f with normalQ := (w.station f).normalQ ++ w.moved st } := by
      rw [Work.divertTest_station, if_neg hne, hv.fallback f hfb]
    have hfbacklog : (v.divertTest st).backlog f = w.backlog f + (w.moved st).length := by
      rw [← hv.backlog_fallback hfb hne, Work.backlog, Work.backlog, Work.divertTest_station, if_neg hne,
        Work.divertTest_port]
    refine ⟨⟨?_, fun g hg => ?_, fun s hs hg => ?_, ?_, ?_, ?_⟩, ?_, ?_, hk⟩
    · rw [Work.divertTest_station, if_neg hne.symm, hst]
    · cases hfb.symm.trans hg
      rw [Work.divertTest_station, if_pos rfl, hfbacklog, hf, Station.turns_eq]
      rfl
    · rw [Work.divertTest_station, if_neg fun e : s = f => hg (e ▸ hfb), Work.divertTest_station, if_neg hs]
      exact hv.elsewhere s hs hg
    · rw [Work.divertTest_tickets, Work.divertTest_tickets, hv.tickets]
    · rw [Work.divertTest_completions, Work.divertTest_completions, hv.completions]
    · rw [Work.divertTest_recalls, Work.divertTest_recalls, hv.recalls]
    · rw [Work.divertTest_ports, Work.divertTest_ports, hv.ports]
    · rw [Work.divertTest_fx, hfx, hfbacklog, hf, Work.downTurns, hfb, List.map_append, List.append_assoc]
      rfl

end Sys2Proof.Machine
end

section
/-! PROOFS. A station going down, whole, and what of it keeps every ticket in its place (R103, R122, R128). -/
namespace Sys2Proof.Machine

/-! ### The steps of R128 -/

/-- The frame in progress is cut off, and the hold flag clears. -/
def Work.cutOff (st : StationId) (w : Work) : Work :=
  (if (w.port st).sending then w.emit (.output (.ticketCut st)) else w).onPort st Port.release

theorem Work.cutOff_eq (st : StationId) (w : Work) : w.cutOff st =
    { w.onPort st Port.release with
      fx := w.fx ++ if (w.port st).sending then [.output (.ticketCut st)] else [] } := by
  unfold Work.cutOff
  cases (w.port st).sending with
  | true => rfl
  | false =>
    simp only [Bool.false_eq_true, if_false, List.append_nil]
    rfl

/-- The port of a station that has gone down. -/
def Port.fallen (cause : DownCause) (p : Port) : Port :=
  { p with link := if cause = .off then .off else .down, slotA := none, slotB := none, hold := false, holdTimer := none,
           lastDown := some cause, probe := if cause = .off then none else some 0 }

/-- What a station that goes down sends: the cut of a frame in progress, the events, and the probe of a restart. -/
def Work.downEffects (w : Work) (st : StationId) (cause : DownCause) : List Effect :=
  (if (w.port st).sending then [.output (.ticketCut st)] else []) ++ (w.downTurns st).map .event ++
    [.event (.stationDown st cause (if cause = .fault then (w.port st).lastFault else none)
      (w.station st).cfg.fallback (w.moved st).length (w.left st).length)] ++
    if cause = .restart then [.output (.probe st (probeFrame st))] else []

section
variable (st : StationId) (w : Work)

theorem Work.cutOff_port (s : StationId) : (w.cutOff st).port s =
    if s = st then (w.port st).release else w.port s := by
  rw [Work.cutOff_eq]
  exact modify_ite _ _ _ _

theorem Work.cutOff_kr : (w.cutOff st).kr = w.kr := by
  rw [Work.cutOff_eq]
  rfl

theorem Work.cutOff_held : (w.cutOff st).held st = w.held st := by
  rw [Work.held, Work.cutOff_port, if_pos rfl, Work.station, Work.cutOff_kr]
  rfl

theorem Work.cutOff_backlog (s : StationId) : (w.cutOff st).backlog s = w.backlog s := by
  rw [Work.backlog, Work.station, Work.cutOff_kr, Work.cutOff_port]
  split
  · rename_i h
    rw [h]
    rfl
  · rfl

theorem Work.cutOff_link (s : StationId) : ((w.cutOff st).port s).link = (w.port s).link := by
  rw [Work.cutOff_port]
  split
  · rename_i h
    rw [h]
    rfl
  · rfl

theorem Work.cutOff_isVoid : (w.cutOff st).isVoid = w.isVoid := by
  unfold Work.isVoid Work.ticket?
  rw [Work.cutOff_kr]

theorem Work.cutOff_returned : (w.cutOff st).returned st = w.returned st := by
  rw [Work.returned, Work.cutOff_held, Work.cutOff_isVoid, Work.station, Work.cutOff_kr]
  rfl

theorem Work.cutOff_gone : (w.cutOff st).gone st = w.gone st := by
  rw [Work.gone, Work.cutOff_held, Work.cutOff_isVoid, Work.station, Work.cutOff_kr]
  rfl

theorem Work.cutOff_keepsOffers : (w.cutOff st).keepsOffers st = w.keepsOffers st := by
  funext n
  rw [Work.keepsOffers, Work.stood, Work.cutOff_held, Work.cutOff_isVoid, Work.station, Work.cutOff_kr]
  rfl

theorem Work.cutOff_fitting : (w.cutOff st).fitting st = w.fitting st := by
  simp only [Work.fitting, Work.cutOff_link, Work.cutOff_returned, Work.station, Work.cutOff_kr, Work.load]

theorem Work.cutOff_moved : (w.cutOff st).moved st = w.moved st := by
  rw [Work.moved, Work.cutOff_returned, Work.cutOff_fitting]
  rfl

theorem Work.cutOff_left : (w.cutOff st).left st = w.left st := by
  rw [Work.left, Work.cutOff_returned, Work.cutOff_fitting]
  rfl

theorem Work.cutOff_downTurns : (w.cutOff st).downTurns st = w.downTurns st := by
  simp only [Work.downTurns, Work.cutOff_left, Work.cutOff_moved, Work.cutOff_backlog, Work.station, Work.cutOff_kr]

theorem Work.Downed.of_cutOff {v : Work} (h : Work.Downed st (w.cutOff st) v) : Work.Downed st w v := by
  obtain ⟨here, fallback, elsewhere, tickets, completions, recalls⟩ := h
  simp only [Work.cutOff_left, Work.cutOff_moved, Work.cutOff_gone, Work.cutOff_held, Work.cutOff_keepsOffers,
    Work.cutOff_backlog, Work.station, Work.cutOff_kr] at here fallback elsewhere tickets completions recalls
  exact ⟨here, fallback, elsewhere, tickets, completions, recalls⟩

theorem Work.cutOff_placing : (w.cutOff st).placing = w.placing := by
  rw [Work.cutOff_eq]
  exact Work.onPort_placing (f := Port.release) (st := st) (w := w) fun _ => rfl

end

/-- The link, the cause and the probe of a station that goes down (R128). -/
def Port.lowered (cause : DownCause) (p : Port) : Port :=
  { p with link := if decide (cause = .off) then .off else .down, lastDown := some cause,
           probe := if decide (cause = .off) then none else some 0 }

/-- The port of a station that goes down is lowered, and it is said that the station went down (R128). -/
def Work.announceDown (st : StationId) (cause : DownCause) (k : Nat) (w : Work) : Work :=
  let u := w.onPort st (Port.lowered cause)
  let v := u.raise (.stationDown st cause (if cause = .fault then (u.port st).lastFault else none)
    (u.station st).cfg.fallback k ((u.station st).voidQ.length + (u.station st).normalQ.length))
  if cause = .restart then v.emit (.output (.probe st (probeFrame st))) else v

theorem Work.goDown_eq (st : StationId) (cause : DownCause) (w : Work) : w.goDown st cause =
    ((w.cutOff st).routerDown st).2.announceDown st cause ((w.cutOff st).routerDown st).1 := by
  have hrelease : (fun p : Port => { p with hold := false, holdTimer := none }) = Port.release := rfl
  unfold Work.goDown Work.cutOff
  simp only [hrelease]
  generalize Work.routerDown st _ = r
  rfl

theorem Work.announceDown_eq (st : StationId) (cause : DownCause) (k : Nat) (w : Work) : w.announceDown st cause k =
    { w.onPort st (Port.lowered cause) with
      fx := w.fx ++ ([.event (.stationDown st cause (if cause = .fault then (w.port st).lastFault else none)
        (w.station st).cfg.fallback k ((w.station st).voidQ.length + (w.station st).normalQ.length))] ++
        if cause = .restart then [.output (.probe st (probeFrame st))] else []) } := by
  have hlast : ((w.onPort st (Port.lowered cause)).port st).lastFault = (w.port st).lastFault := by
    rw [Work.onPort_port, if_pos rfl]
    rfl
  unfold Work.announceDown
  simp only [hlast, Work.onPort_station]
  split
  · simp only [Work.raise, Work.emit, List.append_assoc]
    rfl
  · rfl

theorem Work.Downed.congr {st : StationId} {w v u : Work} (h : Work.Downed st w v) (hu : u.kr = v.kr) :
    Work.Downed st w u := by
  obtain ⟨here, fallback, elsewhere, tickets, completions, recalls⟩ := h
  unfold Work.station at here fallback elsewhere
  rw [← hu] at here fallback elsewhere tickets completions recalls
  exact ⟨here, fallback, elsewhere, tickets, completions, recalls⟩

/-- What a station's going down leaves (R122, R128, R138). -/
theorem Work.Placed.goDown {w : Work} (h : w.Placed) (hrise : Rising Ticket.number w.kr.tickets) (st : StationId)
    (cause : DownCause) :
    Work.Downed st w (w.goDown st cause) ∧ (w.goDown st cause).ports = modify w.ports st (Port.fallen cause) ∧
      (w.goDown st cause).fx = w.fx ++ w.downEffects st cause := by
  have hplaced : (w.cutOff st).Placed := h.congr (w.cutOff_placing st)
  obtain ⟨hdown, hports, hfx, hk⟩ := hplaced.routerDown (by rwa [Work.cutOff_kr]) st
  replace hdown := hdown.of_cutOff
  rw [Work.cutOff_downTurns] at hfx
  rw [Work.cutOff_moved] at hk
  rw [Work.goDown_eq]
  generalize (w.cutOff st).routerDown st = r at hdown hports hfx hk
  obtain ⟨k, v⟩ := r
  simp only at hdown hports hfx hk ⊢
  subst hk
  have hlast : (v.port st).lastFault = (w.port st).lastFault := by
    rw [Work.port, hports, modify_self]
    change ((w.cutOff st).port st).lastFault = _
    rw [Work.cutOff_port, if_pos rfl]
    rfl
  have hfallen : modify v.ports st (Port.lowered cause) = modify w.ports st (Port.fallen cause) := by
    rw [hports, Work.cutOff_eq]
    change modify (modify (modify w.ports st _) st _) st _ = _
    rw [modify_comp, modify_comp]
    unfold Port.lowered Port.fallen
    simp only [decide_eq_true_eq]
    rfl
  rw [Work.announceDown_eq]
  refine ⟨hdown.congr rfl, ?_, ?_⟩
  · exact hfallen
  · simp only [Work.downEffects]
    rw [hfx, hlast, hdown.here, Work.cutOff_eq]
    simp only [List.length_nil, Nat.zero_add, List.append_assoc]

/-! ### Every ticket in its place (R103) -/

theorem lookupBy_filter {α : Type} (key : α → Nat) (p : Nat → Bool) (k : Nat) (l : List α) :
    lookupBy key k (l.filter fun x => p (key x)) = if p k then lookupBy key k l else none := by
  unfold lookupBy
  rw [List.find?_filter]
  cases hp : p k with
  | true =>
    rw [if_pos rfl]
    congr 1
    funext x
    by_cases hx : key x = k <;> simp [hx, hp]
  | false =>
    rw [if_neg Bool.false_ne_true]
    refine List.find?_eq_none.2 fun x _ => ?_
    by_cases hx : key x = k <;> simp [hx, hp]

section
variable {st : StationId} {w v : Work} (hv : Work.Downed st w v)
include hv

theorem Work.Downed.ticket? (n : Nat) : v.ticket? n = if n ∈ w.gone st then none else (w.ticket? n).map fun t =>
    (t.requeue (w.held st)).relocate (w.moved st) ((w.station st).cfg.fallback.getD st) := by
  rw [Work.ticket?, hv.tickets, lookupBy_map (Ticket.relocate_number _ _), lookupBy_map (Ticket.requeue_number _),
    lookupBy_filter Ticket.number (fun m => decide (m ∉ w.gone st))]
  by_cases hg : n ∈ w.gone st
  · simp [hg]
  · simp [hg, Work.ticket?, Function.comp_def]

end

theorem Work.moved_append_left (w : Work) (st : StationId) : w.moved st ++ w.left st = w.returned st :=
  List.take_append_drop _ _

/-- A ticket that goes back to the queue of its station is no VOID ticket, and it is out or queued there. -/
theorem Work.Placed.returned_live {w : Work} (h : w.Placed) {st : StationId} {n : Nat} (hn : n ∈ w.returned st) :
    ∃ t, w.ticket? n = some t ∧ t.station = st ∧ t.kind ≠ .void ∧ (t.requeue (w.held st)).state = .queued := by
  obtain ⟨hmem, hvoid⟩ := List.mem_filter.1 hn
  obtain ⟨t, ht, hst⟩ := h.stood_live (Work.mem_stood_iff.2 (.inr hn))
  have hnum : t.number = n := (lookupBy_some ht).2
  refine ⟨t, ht, hst, fun hk => by simp [Work.isVoid, ht, hk] at hvoid, ?_⟩
  unfold Ticket.requeue
  split
  · rfl
  · rename_i hheld
    have hq := (List.mem_append.1 hmem).resolve_left (hnum ▸ hheld)
    obtain ⟨k, hk, -, hp⟩ := h.found (st := st) (y := .normalQ) (Spot.mem_entries.2 hq)
    cases ht.symm.trans hk
    exact (Stub.place_eq_some.1 hp).1

end Sys2Proof.Machine
end

section
/-! PROOFS. A station going down keeps every ticket in its place (R103, R122). -/
namespace Sys2Proof.Machine

theorem Port.fallen_link (cause : DownCause) (p : Port) : (p.fallen cause).link ≠ .up := by
  unfold Port.fallen
  simp only
  split <;> decide

/-- The tickets that the fallback of a station that goes down gets, at each station. -/
def Work.movedTo (w : Work) (st s : StationId) : List Nat :=
  if (w.station st).cfg.fallback = some s then w.moved st else []

section
variable {st : StationId} {cause : DownCause} {w v : Work} (hv : Work.Downed st w v)
  (hp : v.ports = modify w.ports st (Port.fallen cause))
include hv hp

theorem Work.Downed.spot_here : v.spot st = { w.spot st with
    voidQ := [], normalQ := w.left st, slots := [], shown := [], recallL := [], closed := true } := by
  have hport : v.port st = (w.port st).fallen cause := by
    rw [Work.port, hp, modify_self]
    rfl
  rw [Work.spot, hport, hv.here]
  simp only [Spot.of, decide_eq_true (Port.fallen_link cause (w.port st)), Bool.true_or]
  rfl

theorem Work.Downed.spot_elsewhere {s : StationId} (hs : s ≠ st) : v.spot s = { w.spot s with
    normalQ := (w.spot s).normalQ ++ w.movedTo st s } := by
  have hport : v.port s = w.port s := by
    rw [Work.port, hp, modify_other _ _ _ _ hs]
    rfl
  unfold Work.movedTo
  split
  · rename_i hf
    rw [Work.spot, hport, hv.fallback s hf]
    rfl
  · rename_i hf
    rw [Work.spot, hport, hv.elsewhere s hs hf, List.append_nil]
    rfl

theorem Work.Downed.mem_entries (s : StationId) (n : Nat) (y : Place) : (n, y) ∈ (v.spot s).entries ↔
    (s ≠ st ∧ (n, y) ∈ (w.spot s).entries) ∨
      y = .normalQ ∧ (s = st ∧ n ∈ w.left st ∨ s ≠ st ∧ n ∈ w.movedTo st s) := by
  by_cases hs : s = st
  · subst hs
    rw [Work.Downed.spot_here hv hp, Spot.mem_entries]
    cases y <;> simp
  · rw [Work.Downed.spot_elsewhere hv hp hs, Spot.mem_entries, Spot.mem_entries]
    cases y <;> simp [hs]

end

theorem Work.mem_returned {w : Work} {st : StationId} {n : Nat} :
    n ∈ w.returned st ↔ n ∈ w.moved st ∨ n ∈ w.left st := by
  rw [← w.moved_append_left st, List.mem_append]

/-- Tickets move to a station only when it is the fallback. -/
theorem Work.moved_fallback {w : Work} {st : StationId} {n : Nat} (hn : n ∈ w.moved st) :
    ∃ f, (w.station st).cfg.fallback = some f := by
  cases hf : (w.station st).cfg.fallback with
  | none => simp [Work.moved, Work.fitting, hf] at hn
  | some f => exact ⟨f, rfl⟩

theorem Work.Placed.left_not_moved {w : Work} (h : w.Placed) {st : StationId} {n : Nat} (hn : n ∈ w.left st) :
    n ∉ w.moved st := fun hm =>
  (List.nodup_append.1 (w.moved_append_left st ▸ h.returned_nodup st)).2.2 n hm n hn rfl

theorem Ticket.relocate_state (ns : List Nat) (f : StationId) (t : Ticket) : (t.relocate ns f).state = t.state := by
  unfold Ticket.relocate
  split <;> rfl

theorem Ticket.relocate_kind (ns : List Nat) (f : StationId) (t : Ticket) : (t.relocate ns f).kind = t.kind := by
  unfold Ticket.relocate
  split <;> rfl

section
variable {st : StationId} {w v : Work} (hv : Work.Downed st w v) {n : Nat}
include hv

/-- A ticket that goes back to the queue is QUEUED, here or at the fallback. -/
theorem Work.Downed.stub_returned (h : w.Placed) (hn : n ∈ w.returned st) : ∃ k, v.stub n = some k ∧ k.state = .queued ∧
    k.kind ≠ .void ∧ k.station = if n ∈ w.moved st then (w.station st).cfg.fallback.getD st else st := by
  obtain ⟨t, ht, hst, hkind, hstate⟩ := h.returned_live hn
  have hnum : t.number = n := (lookupBy_some ht).2
  refine ⟨_, by rw [Work.stub, hv.ticket?, if_neg (h.returned_not_gone hn), ht]; rfl, ?_, ?_, ?_⟩
  · exact (Ticket.relocate_state _ _ _).trans hstate
  · exact ((Ticket.relocate_kind _ _ _).trans (Ticket.requeue_kind _ _)).trans_ne hkind
  · simp only [Ticket.relocate, Ticket.requeue_number, hnum]
    split
    · rfl
    · simpa [Ticket.stub] using hst

/-- A ticket that stands elsewhere, or waits, is as it was. -/
theorem Work.Downed.stub_kept (hn : n ∉ w.stood st) : v.stub n = w.stub n := by
  have hgone : n ∉ w.gone st := fun hg => hn (Work.mem_stood_iff.2 (.inl hg))
  have hmoved : n ∉ w.moved st := fun hm => hn (Work.mem_stood_iff.2 (.inr (Work.mem_returned.2 (.inl hm))))
  have hheld : n ∉ w.held st := fun hh => hn (by simp [Work.stood, hh])
  rw [Work.stub, hv.ticket?, if_neg hgone]
  cases ht : w.ticket? n with
  | none => simp [Work.stub, ht]
  | some t =>
    have hnum : t.number = n := (lookupBy_some ht).2
    simp [Work.stub, ht, Ticket.requeue, Ticket.relocate, hnum, hheld, hmoved]

theorem Work.Downed.stub_gone (hn : n ∈ w.gone st) : v.stub n = none := by
  rw [Work.stub, hv.ticket?, if_pos hn]
  rfl

end

theorem Work.mem_stood_entries {w : Work} {st : StationId} {n : Nat} :
    n ∈ w.stood st ↔ ∃ y, (n, y) ∈ (w.spot st).entries := by
  rw [(w.stood_perm st).mem_iff, List.mem_map]
  constructor
  · rintro ⟨⟨m, y⟩, hm, rfl⟩
    exact ⟨y, hm⟩
  · rintro ⟨y, hm⟩
    exact ⟨_, hm, rfl⟩

theorem Work.Placed.elsewhere {w : Work} (h : w.Placed) {st s : StationId} {n : Nat} (hn : n ∈ w.stood st) (hs : s ≠ st)
    (y : Place) : (n, y) ∉ (w.spot s).entries := fun hm => by
  obtain ⟨t, ht, hst⟩ := h.stood_live hn
  obtain ⟨k, hk, hks, -⟩ := h.found hm
  cases ht.symm.trans hk
  exact hs (hks.symm.trans hst)

/-- What is in the places after a station has gone down is what their tickets say. -/
theorem Work.Downed.live {st : StationId} {cause : DownCause} {w v : Work} (hv : Work.Downed st w v)
    (hp : v.ports = modify w.ports st (Port.fallen cause)) (h : w.Placed) (s : StationId) (n : Nat) (y : Place) :
    (n, y) ∈ (v.spot s).entries ↔ ∃ k, v.stub n = some k ∧ k.station = s ∧ k.place = some y := by
  rw [hv.mem_entries hp]
  by_cases hstood : n ∈ w.stood st
  · have hold : ¬ (s ≠ st ∧ (n, y) ∈ (w.spot s).entries) := fun ⟨hs, hm⟩ => h.elsewhere hstood hs y hm
    rw [or_iff_right hold]
    rcases Work.mem_stood_iff.1 hstood with hgone | hret
    · have hnot : n ∉ w.returned st := fun hr => h.returned_not_gone hr hgone
      rw [Work.mem_returned, not_or] at hnot
      simp [hv.stub_gone hgone, hnot, Work.movedTo]
    · obtain ⟨k, hk, hstate, hkind, hst⟩ := hv.stub_returned h hret
      have hplace : k.place = some .normalQ := Stub.place_eq_some.2 ⟨hstate, hkind⟩
      simp only [hk, Option.some.injEq, exists_eq_left', hplace, eq_comm (b := y), hst]
      rw [and_comm]
      refine and_congr_left fun _ => ?_
      by_cases hm : n ∈ w.moved st
      · obtain ⟨f, hf⟩ := Work.moved_fallback hm
        have hleft : n ∉ w.left st := fun hl => h.left_not_moved hl hm
        have hne : f ≠ st := fun e => h.fallback st (e ▸ hf)
        simp only [hleft, and_false, false_or, hm, if_true, hf, Option.getD_some, Work.movedTo, Option.some.injEq]
        constructor
        · rintro ⟨-, hs⟩
          by_contra hfs
          simp [hfs] at hs
        · rintro rfl
          exact ⟨hne, by simp [hm]⟩
      · have hl : n ∈ w.left st := (Work.mem_returned.1 hret).resolve_left hm
        simp [hm, hl, Work.movedTo, eq_comm]
  · have hnot : n ∉ w.returned st := fun hr => hstood (Work.mem_stood_iff.2 (.inr hr))
    rw [Work.mem_returned, not_or] at hnot
    rw [hv.stub_kept hstood]
    have hnew : ¬ (y = .normalQ ∧ (s = st ∧ n ∈ w.left st ∨ s ≠ st ∧ n ∈ w.movedTo st s)) := by
      simp [hnot, Work.movedTo]
    rw [or_iff_left hnew]
    refine Iff.trans ?_ (h.live s n y)
    refine ⟨And.right, fun hm => ⟨fun hs => ?_, hm⟩⟩
    subst hs
    exact hstood (Work.mem_stood_entries.2 ⟨y, hm⟩)

theorem Work.Downed.placed {st : StationId} {cause : DownCause} {w v : Work} (hv : Work.Downed st w v)
    (hp : v.ports = modify w.ports st (Port.fallen cause)) (h : w.Placed) : v.Placed where
  nodup := fun s => by
    by_cases hs : s = st
    · subst hs
      change ((v.spot s).entries.map Prod.fst).Nodup
      rw [Spot.map_fst_entries, hv.spot_here hp]
      have : (w.left s).Nodup := (h.returned_nodup s).sublist (List.drop_sublist _ _)
      simpa using this
    · have hperm : ((v.spot s).entries.map Prod.fst).Perm ((w.spot s).entries.map Prod.fst ++ w.movedTo st s) := by
        rw [Spot.map_fst_entries, Spot.map_fst_entries, hv.spot_elsewhere hp hs]
        refine List.perm_iff_count.2 fun n => ?_
        simp only [List.count_append]
        omega
      refine hperm.nodup_iff.2 (List.nodup_append.2 ⟨h.nodup s, ?_, fun n hn m hm e => ?_⟩)
      · unfold Work.movedTo
        split
        · exact (h.returned_nodup st).sublist (List.take_sublist _ _)
        · exact List.nodup_nil
      · subst e
        obtain ⟨⟨m, y⟩, hy, rfl⟩ := List.mem_map.1 hn
        have hmoved : m ∈ w.moved st := by
          unfold Work.movedTo at hm
          split at hm
          · exact hm
          · cases hm
        exact h.elsewhere (Work.mem_stood_iff.2 (.inr (Work.mem_returned.2 (.inl hmoved)))) hs y hy
  live := hv.live hp h
  waits := fun n k hk hw => by
    by_cases hstood : n ∈ w.stood st
    · rcases Work.mem_stood_iff.1 hstood with hgone | hret
      · have := (hv.stub_gone hgone).symm.trans hk
        cases this
      · obtain ⟨k', hk', hstate, -⟩ := hv.stub_returned h hret
        cases hk'.symm.trans hk
        rw [hw] at hstate
        cases hstate
    · exact h.waits n k ((hv.stub_kept hstood).symm.trans hk) hw
  closed := fun s => by
    by_cases hs : s = st
    · subst hs
      intro _
      exact congrArg Spot.slots (hv.spot_here hp)
    · change (v.spot s).closed = true → (v.spot s).slots = []
      rw [hv.spot_elsewhere hp hs]
      exact h.closed s
  fallback := fun s => by
    by_cases hs : s = st
    · subst hs
      exact congrArg Spot.fallback (hv.spot_here hp) ▸ h.fallback s
    · exact congrArg Spot.fallback (hv.spot_elsewhere hp hs) ▸ h.fallback s

/-- A station going down keeps every ticket in its place. -/
theorem Work.Placed.goDown_placed {w : Work} (h : w.Placed) (hrise : Rising Ticket.number w.kr.tickets) (st : StationId)
    (cause : DownCause) : (w.goDown st cause).Placed := by
  obtain ⟨hdown, hports, -⟩ := h.goDown hrise st cause
  exact hdown.placed hports h

end Sys2Proof.Machine
end

section
/-! PROOFS. Every piece of work keeps every ticket in its place (R103). -/
namespace Sys2Proof.Machine

/-! ### What every piece of work keeps -/

/-- The kitchen within its sizes, every ticket in its place. -/
structure Work.Tidy (w : Work) : Prop where
  fits   : w.Fits 1024
  placed : w.Placed

/-- A piece of work that keeps every ticket in its place. -/
def Work.Tidies (w v : Work) : Prop := w.Tidy → v.Tidy

theorem Work.Tidies.refl (w : Work) : w.Tidies w := id

theorem Work.Tidies.trans {u v w : Work} (h : u.Tidies v) (h' : v.Tidies w) : u.Tidies w := fun x => h' (h x)

theorem Work.Tidies.ite {c : Prop} [Decidable c] {w u v : Work} (hu : w.Tidies u) (hv : w.Tidies v) :
    w.Tidies (if c then u else v) := by
  split
  · exact hu
  · exact hv

theorem Work.Tidies.foldl {α : Type} {f : Work → α → Work} (hf : ∀ (w : Work) x, w.Tidies (f w x)) (xs : List α)
    (w : Work) : w.Tidies (xs.foldl f w) := by
  induction xs generalizing w with
  | nil => exact .refl w
  | cons x xs ih => exact (hf w x).trans (ih _)

/-- Work that leaves the kitchen and the ports alone. -/
theorem Work.Tidies.same {w v : Work} (hk : v.kr = w.kr) (hp : v.ports = w.ports) : w.Tidies v :=
  fun h => ⟨h.fits.congr hk hp, h.placed.congr (Work.placing_congr hk hp)⟩

/-- The Router's own work, with what it does to the places. -/
theorem Work.Routes.tidies {w v : Work} (h : w.Routes v) (hp : w.Tidy → v.Placed) : w.Tidies v :=
  fun x => ⟨h.fits x.fits, hp x⟩

theorem Work.Within.tidies {w v : Work} (h : w.Within v) (hp : w.Tidy → v.Placed) : w.Tidies v :=
  fun x => ⟨h.kitchen x.fits, hp x⟩

/-! ### The Router's operations -/

theorem Work.onCheck_tidies (n : Nat) (f : Check → Check) (w : Work) : w.Tidies (w.onCheck n f) := .same rfl rfl

theorem Work.emit_tidies (e : Effect) (w : Work) : w.Tidies (w.emit e) := .same rfl rfl

theorem Work.raise_tidies (e : Event) (w : Work) : w.Tidies (w.raise e) := .same rfl rfl

theorem Work.emitAll_tidies (es : List Effect) (w : Work) : w.Tidies (es.foldl (fun w e => w.emit e) w) :=
  .foldl (fun w e => w.emit_tidies e) es w

theorem Work.divertTest_tidies (st : StationId) (w : Work) : w.Tidies (w.divertTest st) :=
  (w.divertTest_routes st).tidies fun h => h.placed.congr (Work.divertTest_placing st w)

theorem Work.freeRaw_tidies (n : Nat) (w : Work) : w.Tidies (w.freeRaw n) :=
  (w.freeRaw_routes n).tidies fun h => h.placed.freeRaw n

theorem Work.freeTicket_tidies (n : Nat) (w : Work) : w.Tidies (w.freeTicket n) :=
  (w.freeTicket_routes n).tidies fun h => h.placed.freeTicket n

theorem Work.settleAssembly_tidies (completing : Option Nat) (n : Nat) (w : Work) :
    w.Tidies (w.settleAssembly completing n) :=
  (w.settleAssembly_routes completing n).tidies fun h => h.placed.settleAssembly completing n

theorem Work.goDown_tidies (st : StationId) (cause : DownCause) (w : Work) : w.Tidies (w.goDown st cause) :=
  (w.goDown_routes st cause).tidies fun h => h.placed.goDown_placed h.fits.rising st cause

theorem Work.kitchenVoid_tidies {c : Check} {ls : List Line} {w v : Work} (h : w.kitchenVoid c ls = some v) :
    w.Tidies v :=
  (Work.kitchenVoid_within h).tidies fun x => x.placed.kitchenVoid x.fits h

theorem Work.request_tidies (sd : StandId) (b : Bool) (w : Work) : w.Tidies (w.request sd b) :=
  (w.request_routes sd b).tidies fun h => h.placed.congr rfl

/-! ### Firings and the Fire Backlog (R45, R49, R105 to R108) -/

/-- A firing makes at most one NORMAL ticket for each station, and one ASSEMBLY. -/
theorem Work.plan_size_le (w : Work) (c : Check) (ls : List Line) : (w.plan c ls).size ≤ 9 := by
  have hnormals : (w.plan c ls).normals.length ≤ 8 := List.length_filterMap_le _ _
  have hassembly : (w.plan c ls).assembly.toList.length ≤ 1 := by cases (w.plan c ls).assembly <;> simp
  unfold Plan.size
  omega

theorem Work.makeTickets_tidies {c : Check} {p : Plan} {w : Work} (h : w.hasRoom p = true) (hp : p.size ≤ 9) :
    w.Tidies (w.makeTickets c p) := by
  have hroom : w.kr.tickets.length + p.size ≤ 992 := of_decide_eq_true (Bool.and_eq_true_iff.1 h).1
  refine (Work.makeTickets_within h).tidies fun x => x.placed.makeTickets c p ?_ (by omega)
  exact (Nat.mul_le_mul hp (show w.kr.tickets.length + 1 ≤ 993 by omega)).trans (by decide)

theorem Work.fire_tidies (n : Nat) (ls : List Nat) (w : Work) : w.Tidies (w.fire n ls) := by
  refine .ite (.refl w) ((w.onCheck_tidies n (Check.onLines (fun l => decide (l.index ∈ ls)) fun l =>
    { l with state := .firing })).trans ?_)
  simp only
  split
  · exact .refl _
  · split
    · rename_i h
      exact Work.makeTickets_tidies h.2 (Work.plan_size_le _ _ _)
    · exact .same rfl rfl

theorem Work.tryBacklogFor_tidies (k : Nat) (w : Work) : w.Tidies (w.tryBacklogFor k) := by
  induction k generalizing w with
  | zero => exact .refl w
  | succ k ih =>
    unfold Work.tryBacklogFor
    split
    · exact .refl w
    · rename_i f rest hback
      split
      · exact .refl w
      · rename_i c hc
        simp only
        split
        · rename_i h
          exact Work.Tidies.trans (v := { w with ce := { w.ce with backlog := rest } }) (.same rfl rfl)
            ((Work.makeTickets_tidies (w := { w with ce := { w.ce with backlog := rest } }) h
              (Work.plan_size_le _ _ _)).trans (ih _))
        · exact .refl w

theorem Work.tryBacklog_tidies (w : Work) : w.Tidies w.tryBacklog := w.tryBacklogFor_tidies _

theorem Work.dropFromBacklog_tidies (n : Nat) (out : Nat → Bool) (w : Work) : w.Tidies (w.dropFromBacklog n out) := by
  unfold Work.dropFromBacklog
  exact .ite (Work.Tidies.trans (v := { w with ce := { w.ce with backlog := _ } })
    (.same (by rfl) (by rfl)) (Work.tryBacklog_tidies _))
    (.same rfl rfl)

/-! ### Stock, READY, closure and payment (R8, R54, R55, R64, R165) -/

theorem Work.ItemsOnly.tidies {w v : Work} (h : w.ItemsOnly v) : w.Tidies v := by
  rw [h]
  exact .same rfl rfl

theorem Work.leaveTable_tidies (n : Nat) (w : Work) : w.Tidies (w.leaveTable n) :=
  (w.leaveTable_within n).tidies fun h => h.placed.congr
    (Work.mapTickets_placing (f := fun t => if t.check = some n then { t with check := none } else t)
      (fun t => by split <;> rfl) (fun t => by split <;> rfl) w)

theorem Work.shut_tidies (sd : StandId) (e : Event) (w : Work) : w.Tidies ((w.onStand sd Stand.shut).raise e) :=
  .same rfl rfl

theorem Work.freeAll_tidies (ns : List Nat) (w : Work) : w.Tidies (ns.foldl (fun w n => w.freeRaw n) w) :=
  .foldl (fun w n => w.freeRaw_tidies n) ns w

theorem Work.closeTest_tidies (sd : StandId) (w : Work) : w.Tidies (w.closeTest sd) :=
  .ite ((w.freeAll_tidies _).trans ((Work.request_tidies sd false _).trans (Work.shut_tidies sd _ _))) (.refl w)

theorem Work.closeCheck_tidies (c : Check) (w : Work) : w.Tidies (w.closeCheck c) :=
  Work.Tidies.trans (v := w.append _) (.same rfl rfl) ((Work.leaveTable_tidies _ _).trans (Work.closeTest_tidies _ _))

theorem Work.readyTest_tidies (n : Nat) (w : Work) : w.Tidies (w.readyTest n) := by
  unfold Work.readyTest
  split
  · exact .ite ((w.onCheck_tidies n _).trans (Work.emitAll_tidies _ _)) (.refl w)
  · exact .refl w

theorem Work.closureTest_tidies (n : Nat) (w : Work) : w.Tidies (w.closureTest n) := by
  unfold Work.closureTest
  split
  · exact .ite (w.closeCheck_tidies _) (.refl w)
  · exact .refl w

theorem Work.lineTests_tidies (n : Nat) (w : Work) : w.Tidies (w.lineTests n) :=
  (w.readyTest_tidies n).trans (Work.closureTest_tidies n _)

theorem Work.payments_tidies (n : Nat) (w : Work) : w.Tidies (w.payments n) := by
  refine (w.onCheck_tidies n fun c => { c with state := c.payState }).trans ?_
  unfold Work.payments
  simp only
  split
  · exact Work.Tidies.trans (.ite (Work.fire_tidies n _ _) (.refl _)) (Work.lineTests_tidies n _)
  · exact .refl _

theorem Work.fireAccepted_tidies (c : Check) (new : List Nat) (w : Work) : w.Tidies (w.fireAccepted c new) := by
  unfold Work.fireAccepted
  split
  · exact (w.fire_tidies _ new).trans (Work.lineTests_tidies _ _)
  · exact w.payments_tidies _

theorem Work.openCheck_tidies (sd : StandId) (o : Origin) (notify : Bool) (ls : List SlipLine) (prepaid : Bool)
    (w : Work) : w.Tidies (w.openCheck sd o notify ls prepaid).2 := by
  rw [Work.openCheck_eq]
  exact (w.takeStock_spec ls).1.tidies.trans (.trans (.same (by rfl) (by rfl)) (Work.fireAccepted_tidies _ _ _))

/-! ### A check voided (R50, R51) -/

theorem Work.voidCheckRest_tidies (n : Nat) (why : VoidReason) (w : Work) : w.Tidies (w.voidCheckRest n why).2 := by
  refine (w.dropFromBacklog_tidies n fun _ => true).trans ?_
  unfold Work.voidCheckRest
  simp only
  split
  · exact .refl _
  · rename_i c hc
    have hvoid := (Work.onCheck_tidies n (Check.onLines (fun l => decide (l.state ≠ .done)) fun l =>
      { l with state := .voided }) (w.dropFromBacklog n fun _ => true)).trans
      ((Work.Tidies.foldl (fun w l => (w.returnStock_spec l).1.tidies) c.voidable _).trans
        (Work.Tidies.trans (v := Work.orphan c.pendingTags _) (.same rfl rfl)
          (Work.onCheck_tidies n (fun c => { c with total := lineTotal c.lines }) _)))
    split
    · exact hvoid
    · exact hvoid.trans (Work.Tidies.trans (v := Work.append _ _) (.same (by rfl) (by rfl))
        (Work.leaveTable_tidies _ _))

theorem Work.voidCheck_tidies {c : Check} {why : VoidReason} {w v : Work} {r : Nat × Nat}
    (h : w.voidCheck c why = some (r, v)) : w.Tidies v := by
  unfold Work.voidCheck at h
  split at h
  · cases h
  · rename_i u hu
    cases h
    exact (Work.kitchenVoid_tidies hu).trans ((Work.voidCheckRest_tidies _ why u).trans (Work.closeTest_tidies _ _))

/-! ### Authorizations (R90 to R99) -/

theorem Work.applyOutcome_tidies (e : AuthEntry) (o : AuthOutcome) (f : Share → Share) (w : Work) :
    w.Tidies (w.applyOutcome e o f) :=
  (w.onCheck_tidies _ _).trans ((Work.payments_tidies _ _).trans (Work.emitAll_tidies _ _))

theorem Work.settleLate_tidies (e : AuthEntry) (o : ExpiryOutcome) (v : Verdict) (w : Work) :
    w.Tidies (w.settleLate e o v) := .ite (.same rfl rfl) (.same rfl rfl)

theorem Work.answerNotLive_tidies (tag : Nat) (v : Verdict) (w : Work) : w.Tidies (w.answerNotLive tag v) := by
  unfold Work.answerNotLive
  split
  · exact Work.Tidies.trans (v := { w with tu := { w.tu with expired := _ } })
      (.same (by rfl) (by rfl)) (Work.settleLate_tidies _ _ v _)
  · exact w.raise_tidies _

theorem Work.answerLive_tidies (e : AuthEntry) (v : Verdict) (w : Work) : w.Tidies (w.answerLive e v) := by
  have hend (u : Work) : u.Tidies (u.freeEntry e.tag).release := .same rfl rfl
  cases v with
  | approve => exact (w.applyOutcome_tidies e _ _).trans (hend _)
  | decline => exact (w.applyOutcome_tidies e _ _).trans (hend _)

theorem Work.answerTaken_tidies (tag : Nat) (v : Verdict) (w : Work) : w.Tidies (w.answerTaken tag v) := by
  unfold Work.answerTaken
  split
  · exact .ite (Work.Tidies.trans (v := w.freeEntry tag) (.same rfl rfl) (Work.settleLate_tidies _ _ v _))
      (w.answerLive_tidies _ v)
  · exact w.answerNotLive_tidies tag v

theorem Work.answerArrives_tidies (tag : Nat) (v : Verdict) (w : Work) : w.Tidies (w.answerArrives tag v) :=
  .ite (.same rfl rfl) (w.answerNotLive_tidies tag v)

theorem Work.dropOldest_tidies (w : Work) : w.Tidies w.dropOldest := by
  unfold Work.dropOldest
  split
  · exact .refl w
  · exact .same rfl rfl

theorem Work.joinExpired_tidies (e : AuthEntry) (o : ExpiryOutcome) (w : Work) : w.Tidies (w.joinExpired e o) :=
  Work.Tidies.trans (v := if expiredSize ≤ w.tu.expired.length then w.dropOldest else w)
    (.ite w.dropOldest_tidies (.refl w)) (.same rfl rfl)

theorem Work.expire_tidies (e : AuthEntry) (w : Work) : w.Tidies (w.expire e) := by
  have hend (u : Work) (o : ExpiryOutcome) : u.Tidies ((u.freeEntry e.tag).joinExpired e o) :=
    Work.Tidies.trans (v := u.freeEntry e.tag) (.same rfl rfl) (Work.joinExpired_tidies e o _)
  unfold Work.expire
  cases w.outcomeOf e with
  | voided => exact hend w _
  | deferred => exact (w.applyOutcome_tidies e _ _).trans (hend _ _)
  | removed => exact (w.applyOutcome_tidies e _ _).trans (hend _ _)

theorem Work.dropLate_tidies (n : Nat) (w : Work) : w.Tidies (w.dropLate n) := by
  induction n generalizing w with
  | zero => exact .refl w
  | succ n ih =>
    unfold Work.dropLate
    split
    · exact .ite (w.dropOldest_tidies.trans (ih _)) (.refl w)
    · exact .refl w

/-! ### Completions and recalls (R110 to R112, R118) -/

theorem Work.queueNormal_stub_other {n m : Nat} (h : m ≠ n) (st : StationId) (w : Work) :
    (w.queueNormal n st).stub m = w.stub m :=
  congrArg (Option.map Ticket.stub) (Work.queueNormal_ticket?_other h st w)

/-- Settling an ASSEMBLY leaves a ticket that is neither WAITING nor QUEUED as it is, but for its reference. -/
theorem Work.settleAssembly_stub {w : Work} {m : Nat} {k : Stub} (hk : w.stub m = some k)
    (hs : k.state ≠ .waiting ∧ k.state ≠ .queued) (completing : Option Nat) (n : Nat) :
    (w.settleAssembly completing n).stub m = some k := by
  unfold Work.settleAssembly
  split
  · rename_i a ha
    split
    · rename_i hopen
      have hne : m ≠ n := by
        rintro rfl
        rw [Work.stub, ha] at hk
        cases hk
        exact hopen.2.elim hs.1 hs.2
      split
      · rw [Work.stub, Work.freeTicket_ticket?, if_neg hne, Work.ticket?, lookupBy_map (Ticket.forget_number a),
          Option.map_map, show Ticket.stub ∘ Ticket.forget a = Ticket.stub from funext (Ticket.forget_stub a)]
        exact hk
      · have hwait : (w.onTicket n fun t => { t with wait := w.waitOf completing a }).stub m = some k := by
          rw [Work.stub, Work.onTicket_ticket? (f := fun t => { t with wait := w.waitOf completing a }) fun _ => rfl,
            if_neg hne]
          exact hk
        simp only
        split
        · rw [Work.queueNormal_stub_other hne]
          exact hwait
        · exact hwait
    · exact hk
  · exact hk

/-- The ASSEMBLY of a completing ticket is settled. -/
def Work.settles (t : Ticket) (w : Work) : Work :=
  match t.assembly with
  | some a => w.settleAssembly (some t.number) a
  | none => w

/-- A completing ticket leaves its place: its slot is emptied, or its station's recall list entered. -/
def Work.leaves (t : Ticket) (via : Via) (w : Work) : Work :=
  match via with
  | .slot _ => w.freeTicket t.number
  | .bump => w.enterRecall t.number t

theorem Work.complete_unlinked {t : Ticket} {w : Work} (h : w.checkOf t = none) (via : Via) :
    w.complete t via = (w.settles t).leaves t via := by
  unfold Work.complete
  simp only [h]
  rfl

theorem Work.complete_linked {t : Ticket} {c : Check} {w : Work} (h : w.checkOf t = some c) (via : Via) :
    w.complete t via = (((w.onCheck c.number fun d => { d with lines := d.lines.map (w.completeLine t c) }).settles
      t).leaves t via).lineTests c.number := by
  unfold Work.complete
  simp only [h]
  rfl

theorem Work.leaves_tidies {t : Ticket} {w : Work} {k : Stub} (hk : w.stub t.number = some k)
    (hst : k.station = t.station) (hs : k.state ≠ .bumped) (via : Via) : w.Tidies (w.leaves t via) := by
  cases via with
  | slot x => exact w.freeTicket_tidies _
  | bump =>
    obtain ⟨x, hx, rfl⟩ := Option.map_eq_some_iff.1 hk
    exact (w.enterRecall_routes _ t).tidies fun h => h.placed.enterRecall (h.fits.recalls t.station) hx hst hs

theorem Work.complete_tidies {t : Ticket} {w : Work} (ht : w.ticket? t.number = some t)
    (hs : t.state = .sending ∨ t.state = .shown) (via : Via) : w.Tidies (w.complete t via) := by
  have hopen : (t.stub.state ≠ .waiting ∧ t.stub.state ≠ .queued) ∧ t.stub.state ≠ .bumped := by
    rcases hs with hs | hs <;> simp [Ticket.stub, hs]
  have hleft (u : Work) (hu : u.kr = w.kr) : u.Tidies ((u.settles t).leaves t via) := by
    have hstub : u.stub t.number = some t.stub := by
      rw [Work.stub, Work.ticket?, hu]
      exact congrArg (Option.map Ticket.stub) ht
    unfold Work.settles
    split
    · rename_i a _
      exact (u.settleAssembly_tidies _ a).trans
        (Work.leaves_tidies (Work.settleAssembly_stub hstub hopen.1 _ a) rfl hopen.2 via)
    · exact Work.leaves_tidies hstub rfl hopen.2 via
  cases hc : w.checkOf t with
  | some c =>
    rw [Work.complete_linked hc]
    refine (w.onCheck_tidies _ _).trans (Work.Tidies.trans (hleft _ ?_) (Work.lineTests_tidies _ _))
    rfl
  | none =>
    rw [Work.complete_unlinked hc]
    exact hleft w rfl

theorem Work.completionTaken_tidies (o : CompletionOffer) (w : Work) : w.Tidies (w.completionTaken o) := by
  unfold Work.completionTaken
  split
  · rename_i t ht
    have hnum : t.number = o.ticket := (lookupBy_some ht).2
    split
    · rename_i hthere
      intro h
      refine Work.complete_tidies (hnum ▸ ht) ?_ o.via h
      unfold Work.stillThere at hthere
      split at hthere
      · obtain ⟨x, hx, hawaits⟩ := (Option.any_eq_true _ _).1 hthere
        obtain ⟨k, hk, -, hs⟩ := h.placed.slotted hx
        have hname : x.ticket = o.ticket := by simpa [OutSlot.awaits] using (Bool.and_eq_true_iff.1
          (Bool.and_eq_true_iff.1 hawaits).1).1
        rw [hname, ht] at hk
        cases hk
        exact .inl hs
      · obtain ⟨k, hk, -, hs⟩ := h.placed.onScreen (List.contains_iff_mem.1 hthere)
        cases ht.symm.trans hk
        exact .inr hs
    · exact .refl w
  · exact .refl w

theorem Work.remake_tidies {t : Ticket} {w : Work} {n : Nat} {st : StationId} (ht : w.ticket? n = some t)
    (hst : t.station = st) : w.Tidies (w.remake n st) :=
  (w.remake_routes n st).tidies fun h => h.placed.remake ht hst

theorem Work.reopen_tidies {t : Ticket} {w : Work} (ht : w.ticket? t.number = some t) (c : Check) :
    w.Tidies (w.reopen t c) := by
  have hsettled (u : Work) : u.Tidies (match t.assembly with
      | some a => u.settleAssembly none a
      | none => u) := by
    split
    · exact u.settleAssembly_tidies _ _
    · exact .refl u
  exact ((w.show_routes _ _).tidies fun h => h.placed.show ht rfl).trans ((Work.onCheck_tidies _ _ _).trans
    ((hsettled _).trans (Work.lineTests_tidies _ _)))

theorem Work.recallTaken_tidies (o : RecallOffer) (w : Work) : w.Tidies (w.recallTaken o) := by
  unfold Work.recallTaken
  split
  · rename_i t ht
    have hnum : t.number = o.ticket := (lookupBy_some ht).2
    split
    · rename_i hcan
      intro h
      obtain ⟨k, hk, hst, -⟩ := h.placed.onList (List.contains_iff_mem.1 (Bool.and_eq_true_iff.1 hcan).1)
      cases ht.symm.trans hk
      have hremade : w.Tidies (w.remake o.ticket o.station) := Work.remake_tidies ht hst
      revert h
      change w.Tidies _
      split
      · exact .ite (Work.reopen_tidies (hnum ▸ ht) _) hremade
      · exact hremade
    · exact .refl w
  · exact .refl w

/-! ### Closing stands (R164 to R167) -/

theorem Work.closeTimeout_tidies (sd : StandId) (w : Work) : w.Tidies (w.closeTimeout sd) := .same rfl rfl

theorem Work.forceShut_tidies (sd : StandId) (w : Work) : w.Tidies (w.forceShut sd) := by
  refine (Work.Tidies.foldl (f := fun w n => (w.voidCheckRest n .forced).2)
    (fun w n => w.voidCheckRest_tidies n .forced) (w.checksOf sd) w).trans ?_
  exact (Work.freeAll_tidies _ _).trans ((Work.Tidies.foldl (fun w st => w.divertTest_tidies st) _ _).trans
    ((Work.request_tidies sd false _).trans (Work.shut_tidies sd _ _)))

end Sys2Proof.Machine
end

section
/-! PROOFS. The work of a station port, slips and control blocks keep every ticket in its place (R103, chapters 1 to 8
and 10). -/
namespace Sys2Proof.Machine

/-! ### The port's link and its settings (R14, R125, R127, R136) -/

/-- What must be empty of a port, and where a station falls back to, have changed; the places have not. -/
theorem Work.Placed.relinked {w v : Work} (h : w.Placed) (hstub : ∀ n, v.stub n = w.stub n)
    (hspot : ∀ s, ∃ b f, v.spot s = { w.spot s with closed := b, fallback := f } ∧
      (b = true → (w.spot s).slots = []) ∧ f ≠ some s) : v.Placed where
  nodup := fun s => by
    obtain ⟨b, f, hs, -⟩ := hspot s
    change ((v.spot s).entries.map Prod.fst).Nodup
    rw [hs]
    exact h.nodup s
  live := fun s n y => by
    obtain ⟨b, f, hs, -⟩ := hspot s
    change (n, y) ∈ (v.spot s).entries ↔ ∃ k, v.stub n = some k ∧ k.station = s ∧ k.place = some y
    rw [hs, hstub]
    exact h.live s n y
  waits := fun n k hk => h.waits n k ((hstub n).symm.trans hk)
  closed := fun s hc => by
    obtain ⟨b, f, hs, hb, -⟩ := hspot s
    change (v.spot s).slots = []
    rw [hs]
    exact hb ((congrArg Spot.closed hs).symm.trans hc)
  fallback := fun s => by
    obtain ⟨b, f, hs, -, hf⟩ := hspot s
    exact (congrArg Spot.fallback hs).trans_ne hf

/-- A port that is not UP holds no ticket, so the port that comes UP holds none either. -/
theorem Work.Placed.comeUp {w : Work} (h : w.Placed) {st : StationId} (hl : (w.port st).link ≠ .up) :
    (w.onPort st Port.comeUp).Placed := by
  have hempty : (w.port st).holds = [] := h.closed st (Spot.closed_of.2 (.inl hl))
  refine h.relinked (fun _ => rfl) fun s => ?_
  by_cases hs : s = st
  · subst hs
    refine ⟨!(w.station s).cfg.loaded, _, ?_, fun _ => hempty, h.fallback s⟩
    simp only [Work.spot, Work.onPort_station, Work.onPort_port, if_true, Spot.of, hempty]
    simp [Port.comeUp, Port.holds, Work.placing, Work.spot, Spot.of]
  · refine ⟨_, _, ?_, h.closed s, h.fallback s⟩
    simp only [Work.spot, Work.onPort_station, Work.onPort_port, if_neg hs]
    rfl

/-- New settings of a station: it is loaded, and it is not its own fallback. -/
theorem Work.Placed.configured {w : Work} (h : w.Placed) {st : StationId} {c : StationCfg} (hl : c.loaded = true)
    (hf : c.fallback ≠ some st) : (w.onStation st fun s => { s with cfg := c }).Placed := by
  refine h.relinked (fun _ => rfl) fun s => ?_
  by_cases hs : s = st
  · subst hs
    refine ⟨decide ((w.port s).link ≠ .up), c.fallback, ?_, fun hb => ?_, hf⟩
    · simp only [Work.spot, Work.onStation_station, Work.onStation_port, if_true, Spot.of, hl, Bool.not_true,
        Bool.or_false]
      rfl
    · exact h.closed s (Spot.closed_of.2 (.inl (of_decide_eq_true hb)))
  · refine ⟨_, _, ?_, h.closed s, h.fallback s⟩
    simp only [Work.spot, Work.onStation_station, Work.onStation_port, if_neg hs]
    rfl

theorem Work.onPort_tidies {st : StationId} {f : Port → Port} {w : Work}
    (hf : ∀ x, Spot.of x (f (w.port st)) = Spot.of x (w.port st))
    (hbad : (w.port st).badFrames ≤ 65535 → (f (w.port st)).badFrames ≤ 65535) :
    w.Tidies (w.onPort st f) :=
  (Work.onPort_routes hbad).tidies fun h => h.placed.congr (Work.onPort_placing hf)

theorem Work.stationSettings_ok {w : Work} {st : StationId} {o : StationOperand} {c : StationCfg}
    (h : w.stationSettings st o = .ok c) : c.loaded = true ∧ c.fallback ≠ some st := by
  unfold Work.stationSettings at h
  repeat' split at h
  all_goals cases h
  rename_i hfit
  exact ⟨rfl, fun e => hfit ⟨st, e, .inl rfl⟩⟩

theorem Work.applyStation_tidies {st : StationId} {c : StationCfg} (hl : c.loaded = true) (hf : c.fallback ≠ some st)
    (w : Work) : w.Tidies (w.applyStation st c) := by
  have hconf : w.Tidies (w.onStation st fun s => { s with cfg := c }) :=
    (Work.onStation_routes).tidies fun h => h.placed.configured hl hf
  refine hconf.trans (.ite ?_ (Work.divertTest_tidies st _))
  exact Work.Tidies.trans (Work.onPort_tidies (fun _ => rfl) id) (Work.emit_tidies _ _)

/-! ### What a port receives and sends (chapter 7) -/

theorem Work.goAny_tidies (st : StationId) (w : Work) : w.Tidies (w.goAny st) :=
  .ite (Work.onPort_tidies (fun _ => rfl) id) (.refl w)

theorem Work.sendHead_tidies {st : StationId} {w : Work} (hl : (w.station st).cfg.loaded = true) :
    w.Tidies (w.sendHead st) :=
  (w.sendHead_routes st).tidies fun h => h.placed.sendHead hl

theorem Work.taken_tidies (st : StationId) (x : Slot) (w : Work) : w.Tidies (w.taken st x) :=
  (w.taken_routes st x).tidies fun h => h.placed.taken st x

theorem Work.bump_tidies (st : StationId) (n : Nat) (w : Work) : w.Tidies (w.bump st n) :=
  (w.bump_routes st n).tidies fun h => h.placed.bump st n (h.fits.recalls st)

theorem Work.recallArrives_tidies (st : StationId) (n : Nat) (w : Work) : w.Tidies (w.recallArrives st n) :=
  (w.recallArrives_routes st n).tidies fun h => h.placed.recallArrives st n

theorem Work.recordFault_tidies (st : StationId) (code : Nat) (w : Work) : w.Tidies (w.recordFault st code) :=
  Work.onPort_tidies (fun _ => rfl) id

theorem Work.helloDown_tidies {st : StationId} {w : Work} (hl : (w.port st).link = .down) (k : StationKind) :
    w.Tidies (w.helloDown st k) := by
  refine .ite (Work.Tidies.trans ?_ (Work.raise_tidies _ _)) (Work.onPort_tidies (fun _ => rfl) id)
  exact (Work.onPort_routes).tidies fun h => h.placed.comeUp (by simp [hl])

theorem Port.holdOn_holds (limit : Nat) (p : Port) :
    (p.holdOn limit).holds = p.holds ∧ (p.holdOn limit).link = p.link := by
  unfold Port.holdOn
  split <;> exact ⟨rfl, rfl⟩

theorem Spot.of_congr {p q : Port} (h : q.holds = p.holds ∧ q.link = p.link) (x : Station) :
    Spot.of x q = Spot.of x p := by
  unfold Spot.of
  rw [h.1, h.2]

theorem Work.holdArrives_tidies (st : StationId) (w : Work) : w.Tidies (w.holdArrives st) :=
  (w.goAny_tidies st).trans (Work.onPort_tidies (Spot.of_congr (Port.holdOn_holds _ _)) fun h => by
    rwa [Port.holdOn_badFrames])

theorem Work.countBad_tidies (st : StationId) (k : Nat) (w : Work) : w.Tidies (w.countBad st k) :=
  Work.onPort_tidies (fun _ => rfl) fun _ => Nat.min_le_left _ _

/-- A change of the slots of a port that leaves their tickets. -/
theorem Port.mapSlots_holds {f : OutSlot → OutSlot} (hf : ∀ x, (f x).ticket = x.ticket) (p : Port) :
    ({ p with slotA := p.slotA.map f, slotB := p.slotB.map f } : Port).holds = p.holds := by
  have hslot (o : Option OutSlot) : (o.map f).toList.map OutSlot.ticket = o.toList.map OutSlot.ticket := by
    cases o with
    | none => rfl
    | some x => simp [hf]
  simp only [Port.holds, List.map_append, hslot]

theorem OutSlot.finish_ticket (limit : Nat) (x : OutSlot) : (x.finish limit).ticket = x.ticket := by
  unfold OutSlot.finish
  split <;> rfl

theorem Work.act_tidies (st : StationId) (a : StationAction) (w : Work) : w.Tidies (w.act st a) := by
  unfold Work.act
  split
  case h_1 => exact w.goDown_tidies st .off
  case h_2 hl => exact Work.onPort_tidies (fun x => by simp [Spot.of, hl, Port.holds]) id
  case h_4 hl =>
    refine Work.Tidies.trans (Work.onPort_tidies (fun x => ?_) id) (Work.emit_tidies _ _)
    simp [Spot.of, hl, Port.holds]
  case h_7 => exact Work.onPort_tidies (fun _ => rfl) id
  all_goals exact .refl w

/-! ### Slips (R41 to R59, R66 to R87) -/

theorem Work.reserve_tidies {w v : Work} (h : w.reserve = some v) : w.Tidies v := by
  unfold Work.reserve at h
  split at h
  · cases h
    exact Work.Tidies.trans (v := { w with sj := _ }) (.same (by rfl) (by rfl)) (.ite (.same rfl rfl) (.refl _))
  · cases h

theorem orderSlip_tidies (t : TillId) (till : Till) (content : List Byte) (w : Work) :
    w.Tidies (orderSlip t till content w).2 := by
  unfold orderSlip
  split
  · exact .refl w
  · split
    · exact .refl w
    · split
      · exact .refl w
      · split
        · exact .refl w
        · rename_i v hv
          exact (Work.reserve_tidies hv).trans (Work.openCheck_tidies _ _ _ _ _ v)

theorem Work.addLines_tidies (c : Check) (ls : List SlipLine) (w : Work) : w.Tidies (w.addLines c ls) :=
  (w.takeStock_spec ls).1.tidies.trans ((Work.onCheck_tidies _ _ _).trans (Work.fireAccepted_tidies _ _ _))

theorem addSlip_tidies (t : TillId) (till : Till) (content : List Byte) (w : Work) :
    w.Tidies (addSlip t till content w).2 := by
  unfold addSlip
  split
  · exact .refl w
  · split
    · exact .refl w
    · split
      · exact .refl w
      · exact w.addLines_tidies _ _

theorem splitSlip_tidies (t : TillId) (till : Till) (content : List Byte) (w : Work) :
    w.Tidies (splitSlip t till content w).2 := by
  unfold splitSlip
  split
  · exact .refl w
  · split
    · exact .refl w
    · split
      · exact .refl w
      · exact (w.onCheck_tidies _ _).trans (Work.payments_tidies _ _)

theorem Work.takeTender_tidies (c : Check) (s : Share) (t : Tender) (change : Nat) (f : Share → Share) (w : Work) :
    w.Tidies (w.takeTender c s t change f).2 :=
  (w.onCheck_tidies _ _).trans (Work.payments_tidies _ _)

theorem Work.cardTender_tidies (t : TillId) (c : Check) (s : Share) (amount : Nat) (w : Work) :
    w.Tidies (w.cardTender t c s amount).2 := by
  unfold Work.cardTender
  split
  · split
    · exact .refl w
    · split
      · exact .refl w
      · rename_i v hv
        exact (Work.reserve_tidies hv).trans (.same rfl rfl)
  · split
    · exact .refl w
    · exact Work.Tidies.trans (v := w.takeTag.2) (.same rfl rfl) (Work.takeTender_tidies _ _ _ _ _ _)

theorem tenderSlip_tidies (t : TillId) (till : Till) (content : List Byte) (w : Work) :
    w.Tidies (tenderSlip t till content w).2 := by
  unfold tenderSlip
  split
  · exact .refl w
  · split
    · exact .refl w
    · split
      · exact .refl w
      · split
        · exact .refl w
        · split
          · exact w.cardTender_tidies _ _ _ _
          · exact w.takeTender_tidies _ _ _ _ _

theorem Work.voidLine_tidies (c : Check) (l : Line) (w : Work) : w.Tidies (w.voidLine c l) := by
  have hback : w.Tidies (if l.state = .firing then w.dropFromBacklog c.number (fun i => i == l.index) else w) :=
    .ite (w.dropFromBacklog_tidies _ _) (.refl w)
  exact hback.trans ((Work.onCheck_tidies _ _ _).trans ((Work.returnStock_spec l _).1.tidies.trans
    ((Work.onCheck_tidies _ _ _).trans (Work.payments_tidies _ _))))

theorem Work.voidStart_tidies {c : Check} {l : Line} {w v : Work} (h : w.voidStart c l = some v) : w.Tidies v := by
  unfold Work.voidStart at h
  split at h
  · exact Work.kitchenVoid_tidies h
  · cases h
    exact .refl w

theorem voidLineSlip_tidies (t : TillId) (till : Till) (content : List Byte) (w : Work) :
    w.Tidies (voidLineSlip t till content w).2 := by
  unfold voidLineSlip
  split
  · exact .refl w
  · split
    · exact .refl w
    · split
      · exact .refl w
      · split
        · exact .refl w
        · split
          · exact .refl w
          · split
            · exact .refl w
            · split
              · exact .refl w
              · rename_i v hv
                exact (Work.voidStart_tidies hv).trans (v.voidLine_tidies _ _)

theorem voidCheckSlip_tidies (t : TillId) (till : Till) (content : List Byte) (w : Work) :
    w.Tidies (voidCheckSlip t till content w).2 := by
  unfold voidCheckSlip
  split
  · exact .refl w
  · split
    · exact .refl w
    · split
      · exact .refl w
      · split
        · exact .refl w
        · rename_i r v hv
          exact Work.voidCheck_tidies hv

theorem querySlip_tidies (t : TillId) (till : Till) (content : List Byte) (w : Work) :
    w.Tidies (querySlip t till content w).2 := by
  unfold querySlip
  split
  · exact .refl w
  · split <;> exact .refl w

theorem remoteOrder_tidies (ref : Nat) (content : List Byte) (w : Work) :
    w.Tidies (remoteOrder ref content w).2 := by
  unfold remoteOrder
  split
  · exact .refl w
  · split
    · exact .refl w
    · split
      · exact .refl w
      · split
        · exact .refl w
        · split
          · exact .refl w
          · rename_i v hv
            exact (Work.reserve_tidies hv).trans (Work.openCheck_tidies _ _ _ _ _ v)

/-! ### Control blocks that are one piece of work -/

theorem Work.raiseAll_tidies (es : List Event) (w : Work) : w.Tidies (w.raiseAll es) :=
  .foldl (fun w e => w.raise_tidies e) es w

theorem Work.putItem_tidies {i : Item} {w v : Work} (h : w.putItem i = some v) : w.Tidies v := by
  unfold Work.putItem at h
  split at h
  · cases h
    exact Work.Tidies.trans (v := { w with ce := { w.ce with items := _ } }) (.same (by rfl) (by rfl))
      (Work.raiseAll_tidies _ _)
  · split at h
    · cases h
      exact .same rfl rfl
    · cases h

theorem loadItemsFrom_tidies (applied : Nat) (os : List ItemOperand) (w : Work) :
    w.Tidies (loadItemsFrom applied os w).2 := by
  induction os generalizing applied w with
  | nil => exact .refl w
  | cons o os ih =>
    unfold loadItemsFrom
    split
    · exact .refl w
    · split
      · exact .refl w
      · rename_i v hv
        exact (Work.putItem_tidies hv).trans (ih _ v)

theorem loadItems_tidies (os : List ItemOperand) (w : Work) : w.Tidies (loadItems os w).2 := by
  unfold loadItems
  split
  · exact .refl w
  · exact loadItemsFrom_tidies 0 os w

theorem deleteItems_tidies (cs : List Nat) (w : Work) : w.Tidies (deleteItems cs w).2 := by
  unfold deleteItems
  split
  · exact .refl w
  · change w.Tidies (deleteFrom 1 cs (0, 0, none) w).2
    rw [(deleteFrom_eq cs 1 0 0 none w).1]
    exact .same rfl rfl

theorem readItem_tidies (code : Nat) (w : Work) : w.Tidies (readItem code w).2 := by
  unfold readItem
  split
  · exact .refl w
  · split <;> exact .refl w

theorem setStock_tidies (code value : Nat) (w : Work) : w.Tidies (setStock code value w).2 := by
  unfold setStock
  split
  · exact .refl w
  · split
    · exact .refl w
    · split
      · exact .refl w
      · exact (w.setStock_itemsOnly _ _).tidies

theorem loadStand_tidies (sd policy expo floor : Nat) (w : Work) : w.Tidies (loadStand sd policy expo floor w).2 := by
  unfold loadStand
  split
  · split
    · exact .refl w
    · split
      · exact .refl w
      · split
        · exact .refl w
        · exact .same rfl rfl
  · exact .refl w

theorem loadStation_tidies (o : StationOperand) (w : Work) : w.Tidies (loadStation o w).2 := by
  unfold loadStation
  split
  · exact .refl w
  · split
    · exact .refl w
    · rename_i c hc
      obtain ⟨hl, hf⟩ := Work.stationSettings_ok hc
      split
      · exact .refl w
      · exact Work.applyStation_tidies hl hf w

theorem queryCheck_tidies (n : Nat) (w : Work) : w.Tidies (queryCheck n w).2 := by
  unfold queryCheck
  split
  · exact .refl w
  · split <;> exact .refl w

theorem voidCheckBlock_tidies (n : Nat) (w : Work) : w.Tidies (voidCheckBlock n w).2 := by
  unfold voidCheckBlock
  split
  · exact .refl w
  · split
    · exact .refl w
    · split
      · exact .refl w
      · rename_i r v hv
        exact Work.voidCheck_tidies hv

theorem setAuthTimes_tidies (wait window : Nat) (w : Work) : w.Tidies (setAuthTimes wait window w).2 := by
  unfold setAuthTimes
  split
  · exact .refl w
  · split
    · exact .refl w
    · exact Work.Tidies.trans (v := { w with tu := { w.tu with authWait := wait, lateWindow := window } })
        (.same rfl rfl)
        (Work.dropLate_tidies _ _)

theorem stationControl_tidies (station action : Nat) (w : Work) : w.Tidies (stationControl station action w).2 := by
  unfold stationControl
  split
  · split
    · exact w.act_tidies _ _
    · exact .refl w
  · exact .refl w

theorem setJournalWarning_tidies (level : Nat) (w : Work) : w.Tidies (setJournalWarning level w).2 := by
  unfold setJournalWarning
  split
  · exact .refl w
  · exact Work.Tidies.trans (v := { w with sj := { w.sj with warnLevel := level } }) (.same rfl rfl)
      (Work.Tidies.trans (v := Work.lowTest _) (.ite (.same (by rfl) (by rfl)) (.refl _)) (.same (by rfl) (by rfl)))

theorem openStand_tidies (n : Nat) (w : Work) : w.Tidies (openStand n w).2 := by
  unfold openStand
  split
  · exact .refl w
  · split
    · exact Work.Tidies.trans (v := w.onStand _ _) (.same rfl rfl) (Work.request_tidies _ false _)
    · exact .refl w

theorem closeStand_tidies (n deadline force : Nat) (w : Work) : w.Tidies (closeStand n deadline force w).2 := by
  unfold closeStand
  split
  · split
    · exact .refl w
    · split
      · exact Work.Tidies.trans (v := w.onStand _ _) (.same rfl rfl) ((Work.request_tidies _ true _).trans
          (Work.closeTest_tidies _ _))
      · exact .same rfl rfl
      · exact .refl w
      · exact .refl w
  · exact .refl w

end Sys2Proof.Machine
end

section
/-! PROOFS. Every command keeps every ticket in its place, and so every step does (R103). -/
namespace Sys2Proof.Machine

/-! ### One state after another -/

/-- What leads from one state to another keeps every ticket in its place. -/
def State.Tidies (s t : State) : Prop := s.work.Tidies t.work

theorem State.Tidies.refl (s : State) : s.Tidies s := id

theorem State.Tidies.trans {s t u : State} (h : s.Tidies t) (h' : t.Tidies u) : s.Tidies u := fun x => h' (h x)

theorem State.Tidies.ite {c : Prop} [Decidable c] {s t u : State} (ht : s.Tidies t) (hu : s.Tidies u) :
    s.Tidies (if c then t else u) := by
  split
  · exact ht
  · exact hu

/-- What leaves the kitchen and the ports alone. -/
theorem State.Tidies.same {s t : State} (hk : t.kr = s.kr) (hp : t.ports = s.ports) : s.Tidies t :=
  Work.Tidies.same hk hp

theorem State.commit_tidies {s : State} {w : Work} (h : s.work.Tidies w) : s.Tidies (s.commit w) :=
  Work.Tidies.trans h (.same (State.commit_kr w s) (State.commit_ports w s))

theorem State.doWork_tidies {s : State} {f : Work → Work} (h : s.work.Tidies (f s.work)) : s.Tidies (s.doWork f) :=
  State.commit_tidies h

/-! ### Sending, and the intake (R32, R151, R171) -/

theorem State.handOver_tidies (b : OutBody) (s : State) : s.Tidies (s.handOver b) :=
  .same (State.handOver_kr b s) (State.handOver_ports b s)

theorem State.raise_tidies (e : Event) (s : State) : s.Tidies (s.raise e) :=
  .same (State.raise_kr e s) (State.raise_ports e s)

theorem State.hello_tidies (k : ResetKind) (s : State) : s.Tidies (s.hello k) :=
  .ite (s.handOver_tidies _) (.same rfl rfl)

theorem State.onlineTest_tidies (s : State) : s.Tidies s.onlineTest := by
  obtain ⟨x, q, h⟩ := s.onlineTest_frame
  rw [h]
  exact .same rfl rfl

theorem State.countEnvelope_tidies (s : State) : s.Tidies s.countEnvelope := by
  obtain ⟨x, p, q, h⟩ := s.countEnvelope_frame
  rw [h]
  exact .same rfl rfl

theorem State.setPaused_tidies (b : Bool) (s : State) : s.Tidies (s.setPaused b) :=
  .same (State.setPaused_kr b s) (State.setPaused_ports b s)

theorem State.takeSlip_tidies {want : Slip → Bool} {f : Slip → State → State}
    (hf : ∀ (x : Slip) (s : State), s.Tidies (f x s)) (s : State) : s.Tidies (s.takeSlip want f) := by
  cases h : s.intake.slips with
  | nil => simpa only [State.takeSlip, h] using State.Tidies.refl s
  | cons x rest =>
    cases hw : want x with
    | false => simpa only [State.takeSlip, h, hw, Bool.false_eq_true, if_false] using State.Tidies.refl s
    | true =>
      rw [State.takeSlip_head h hw]
      exact State.Tidies.trans (t := s.afterTaking rest) (.same rfl rfl) (hf x _)

theorem State.offerSlip_tidies {x : Slip} {s t : State} (h : s.offerSlip x = some t) : s.Tidies t := by
  rw [State.offerSlip_room (State.offerSlip_some x s t h).2] at h
  obtain rfl := Option.some.inj h
  exact .same rfl rfl

/-! ### A service reset, and the control queue (R125, R155 to R158, R168) -/

/-- A part with no ticket and no ticket in a place. -/
theorem Work.Placed.of_empty {w : Work} (htickets : w.kr.tickets = [])
    (hstation : ∀ st, w.station st = { w.station st with voidQ := [], normalQ := [], shown := [], recallL := [] })
    (hports : ∀ st, (w.port st).holds = []) (hfallback : ∀ st, (w.station st).cfg.fallback ≠ some st) : w.Placed := by
  have hentries (st : StationId) : (w.spot st).entries = [] := by
    rw [Work.spot, hstation, Spot.of, hports]
    rfl
  have hstub (n : Nat) : w.stub n = none := by
    rw [Work.stub, Work.ticket?, htickets]
    rfl
  refine ⟨fun st => ?_, fun st n y => ?_, fun n k hk => ?_, fun st _ => hports st, hfallback⟩
  · change ((w.spot st).entries.map Prod.fst).Nodup
    rw [hentries]
    exact List.nodup_nil
  · change (n, y) ∈ (w.spot st).entries ↔ ∃ k, w.stub n = some k ∧ _
    simp [hentries, hstub]
  · cases (hstub n).symm.trans hk

theorem Port.serviceReset_holds (p : Port) : p.serviceReset.holds = [] := by
  unfold Port.serviceReset
  split <;> rfl

theorem State.serviceReset_tidies (force : Bool) (s : State) : s.Tidies (s.serviceReset force) := fun h => by
  have hstation (st : StationId) : (s.serviceReset force).work.station st = (s.work.station st).serviceReset := by
    simp [State.serviceReset, Work.station]
  refine ⟨State.serviceReset_fits force h.fits, Work.Placed.of_empty rfl (fun st => ?_) (fun st => ?_) fun st => ?_⟩
  · rw [hstation]
    rfl
  · rw [Work.port, State.work_ports, State.serviceReset_ports]
    split
    · exact Port.serviceReset_holds _
    · rename_i hl
      exact h.placed.closed st (Spot.closed_of.2 (.inr (Bool.eq_false_iff.2 hl)))
  · rw [hstation]
    exact h.placed.fallback st

theorem State.endEnvelope_tidies (r : Run) (s : State) : s.Tidies (s.endEnvelope r) := by
  have hreplied : s.Tidies (({ s with upc := { s.upc with run := none } } : State).reply .ok r.replies) :=
    State.Tidies.trans (t := { s with upc := { s.upc with run := none } }) (.same rfl rfl) (State.handOver_tidies _ _)
  unfold State.endEnvelope
  simp only
  split
  · exact hreplied
  · exact hreplied.trans ((State.serviceReset_tidies _ _).trans (State.hello_tidies _ _))

theorem State.settleStep_tidies {s t : State} (h : s.settleStep = some t) : s.Tidies t := by
  unfold State.settleStep at h
  split at h
  · split at h
    · cases h
    · cases h
      exact .same rfl rfl
  · split at h
    · cases h
      exact State.endEnvelope_tidies _ s
    · cases h
      exact .same rfl rfl
    · split at h
      · cases h
        exact .same rfl rfl
      · cases h

theorem State.settle_tidies (s : State) : s.Tidies s.settle := by
  unfold State.settle
  generalize s.settleFuel = n
  induction n generalizing s with
  | zero => exact .refl s
  | succ n ih =>
    unfold State.settleFor
    split
    · exact .refl s
    · rename_i t ht
      exact (State.settleStep_tidies ht).trans (ih t)

theorem State.finishBlock_tidies (b : BlockReply) (s : State) : s.Tidies (s.finishBlock b) := by
  unfold State.finishBlock
  split
  · split
    · exact State.Tidies.trans (t := { s with upc := { s.upc with run := _ } }) (.same (by rfl) (by rfl))
        (State.settle_tidies _)
    · exact .refl s
  · exact .refl s

theorem State.block_tidies {run : ControlOp → Option (State → BlockReply × State)} {s : State}
    (h : ∀ op f, run op = some f → s.Tidies (f s).2) : s.Tidies (s.block run) := by
  unfold State.block
  split
  · split
    · rename_i f hf
      exact (h _ f hf).trans (State.finishBlock_tidies _ _)
    · exact .refl s
  · exact .refl s

theorem State.queueControl_tidies (bs : List Block) (s : State) : s.Tidies (s.queueControl bs) :=
  .ite (State.Tidies.trans (t := { s with upc := { s.upc with run := _ } }) (.same (by rfl) (by rfl))
    (State.settle_tidies _))
    (.ite (.same rfl rfl) (s.handOver_tidies _))

theorem State.endBurst_tidies (s : State) : s.Tidies s.endBurst := by
  unfold State.endBurst
  split
  · exact .refl s
  · exact State.Tidies.trans (t := { s with sj := { s.sj with burst := none } }) (.same rfl rfl)
      (State.finishBlock_tidies _ _)

theorem State.drainRecord_tidies (b : Burst) (r : Record) (rest : List Record) (s : State) :
    s.Tidies (s.drainRecord b r rest) :=
  (s.handOver_tidies _).trans (.same rfl rfl)

theorem State.burstStep_tidies (s : State) : s.Tidies s.burstStep := by
  unfold State.burstStep
  split
  · exact .refl s
  · refine .ite s.endBurst_tidies ?_
    split
    · exact s.endBurst_tidies
    · exact .ite (.ite ((s.drainRecord_tidies _ _ _).trans (State.endBurst_tidies _)) (s.drainRecord_tidies _ _ _))
        (.same rfl rfl)

theorem State.resumeBurst_tidies (s : State) : s.Tidies s.resumeBurst := by
  unfold State.resumeBurst
  split
  · exact .ite s.burstStep_tidies (.refl s)
  · exact .refl s

theorem State.drainBlock_tidies (s : State) : s.Tidies s.drainBlock := by
  unfold State.drainBlock
  split
  · refine .ite (State.finishBlock_tidies _ s) (.ite ?_ (.same rfl rfl))
    exact State.Tidies.trans (t := { s with sj := { s.sj with burst := _ } }) (.same (by rfl) (by rfl))
      (State.endBurst_tidies _)
  · exact .refl s

/-! ### Station ports (chapter 7) -/

/-- A command that ends in a next state and keeps every ticket in its place. -/
def Tidying (e : State → Step) : Prop := ∀ s : State, ∃ t, e s = .next t ∧ s.Tidies t

theorem State.atPort_tidies {st : StationId} {want : Link → Bool} {f : Work → Work}
    (h : ∀ w : Work, (w.station st).cfg.loaded = true → w.Tidies (f w)) (s : State) :
    s.Tidies (s.atPort st want f) := by
  unfold State.atPort
  split
  · rename_i hworks
    exact State.doWork_tidies (h _ (Bool.and_eq_true_iff.1 hworks.1).2)
  · exact .refl s

theorem State.onFrame_tidies {st : StationId} {cs : List PortChar} {up down : PortFrame → Option (Work → Work)}
    (hup : ∀ f g, up f = some g → ∀ w : Work, w.Tidies (g w))
    (hdown : ∀ f g, down f = some g → ∀ w : Work, (w.port st).link = .down → w.Tidies (g w)) (s : State) :
    s.Tidies (s.onFrame st cs up down) := by
  unfold State.onFrame
  split
  · split
    · split
      · split
        · rename_i g hg
          exact State.doWork_tidies ((Work.goAny_tidies st _).trans (hup _ g hg _))
        · exact .refl s
      · rename_i hl
        split
        · rename_i g hg
          exact State.doWork_tidies (hdown _ g hg _ hl)
        · exact .refl s
      · exact .refl s
    · exact .refl s
  · exact .refl s

theorem noFrame_tidies {st : StationId} (f : PortFrame) (g : Work → Work) (h : noFrame f = some g) (w : Work)
    (_ : (w.port st).link = .down) : w.Tidies (g w) :=
  nomatch h

theorem execTaken_tidying (st : StationId) (cs : List PortChar) : Tidying (execTaken st cs) := fun s => by
  refine ⟨_, rfl, State.onFrame_tidies (fun f g hg => ?_) noFrame_tidies s⟩
  cases f <;> cases hg
  exact Work.taken_tidies st _

theorem execBump_tidying (st : StationId) (cs : List PortChar) : Tidying (execBump st cs) := fun s => by
  refine ⟨_, rfl, State.onFrame_tidies (fun f g hg => ?_) noFrame_tidies s⟩
  cases f <;> cases hg
  exact Work.bump_tidies st _

theorem execRecallFrame_tidying (st : StationId) (cs : List PortChar) : Tidying (execRecallFrame st cs) := fun s => by
  refine ⟨_, rfl, State.onFrame_tidies (fun f g hg => ?_) noFrame_tidies s⟩
  cases f <;> cases hg
  exact Work.recallArrives_tidies st _

theorem execFault_tidying (st : StationId) (cs : List PortChar) : Tidying (execFault st cs) := fun s => by
  refine ⟨_, rfl, State.onFrame_tidies (fun f g hg => ?_) (fun f g hg => ?_) s⟩
  · cases f with
    | fault code =>
      obtain rfl := Option.some.inj hg
      exact fun w => (w.recordFault_tidies st code).trans (Work.goDown_tidies st .fault _)
    | _ => cases hg
  · cases f with
    | fault code =>
      obtain rfl := Option.some.inj hg
      exact fun w _ => w.recordFault_tidies st code
    | _ => cases hg

theorem execHelloFrame_tidying (st : StationId) (cs : List PortChar) : Tidying (execHelloFrame st cs) := fun s => by
  refine ⟨_, rfl, State.onFrame_tidies (fun f g hg => ?_) (fun f g hg => ?_) s⟩
  · cases f with
    | hello k =>
      obtain rfl := Option.some.inj hg
      exact Work.goDown_tidies st .restart
    | _ => cases hg
  · cases f with
    | hello k =>
      obtain rfl := Option.some.inj hg
      exact fun w hl => Work.helloDown_tidies hl k
    | _ => cases hg

theorem execTicketFrameEnd_tidying (st : StationId) : Tidying (execTicketFrameEnd st) := fun s => by
  refine ⟨_, rfl, State.atPort_tidies (fun w _ => .ite (Work.Tidies.trans ?_ (Work.emit_tidies _ _)) (.refl w)) s⟩
  exact Work.onPort_tidies (Spot.of_congr ⟨Port.mapSlots_holds (OutSlot.finish_ticket _) _, rfl⟩) id

theorem execProbeTimerExpiry_tidying (st : StationId) : Tidying (execProbeTimerExpiry st) := fun s => by
  refine ⟨_, rfl, State.atPort_tidies (fun w _ => .ite (Work.Tidies.trans ?_ (Work.emit_tidies _ _)) (.refl w)) s⟩
  exact Work.onPort_tidies (fun _ => rfl) id

theorem execGo_tidying (st : StationId) (c : PortChar) : Tidying (execGo st c) := fun s => by
  refine ⟨_, rfl, State.atPort_tidies (fun w _ => .ite ?_ (.ite (w.holdArrives_tidies st) (w.goAny_tidies st))) s⟩
  exact Work.onPort_tidies (fun _ => rfl) id

theorem execStationFrameDiscard_tidying (st : StationId) (cs : List PortChar) :
    Tidying (execStationFrameDiscard st cs) := fun s => by
  refine ⟨_, rfl, .ite ?_ (.refl s)⟩
  exact State.atPort_tidies (fun w _ => (w.goAny_tidies st).trans (Work.countBad_tidies st _ _)) s

theorem exec_station_tidying {c : Instr} (hc : isStationCommand c = true) : Tidying (exec c) := by
  cases c with
  | ticket st => exact fun s => ⟨_, rfl, State.atPort_tidies (fun _ => Work.sendHead_tidies) s⟩
  | ticketFrameEnd st => exact execTicketFrameEnd_tidying st
  | probeTimerExpiry st => exact execProbeTimerExpiry_tidying st
  | taken st cs => exact execTaken_tidying st cs
  | bump st cs => exact execBump_tidying st cs
  | recallFrame st cs => exact execRecallFrame_tidying st cs
  | fault st cs => exact execFault_tidying st cs
  | helloFrame st cs => exact execHelloFrame_tidying st cs
  | hold st => exact fun s => ⟨_, rfl, State.atPort_tidies (fun w _ => w.holdArrives_tidies st) s⟩
  | go st x => exact execGo_tidying st x
  | stationFrameDiscard st cs => exact execStationFrameDiscard_tidying st cs
  | stationFrameGapTimeout st => exact fun s => ⟨_, rfl, State.atPort_tidies (fun w _ => w.countBad_tidies st 1) s⟩
  | takenTimeout st x =>
    exact fun s => ⟨_, rfl, State.atPort_tidies (fun w _ => .ite (w.goDown_tidies st .takenTimeout) (.refl w)) s⟩
  | holdLimit st =>
    exact fun s => ⟨_, rfl, State.atPort_tidies (fun w _ => .ite (w.goDown_tidies st .holdLimit) (.refl w)) s⟩
  | _ => cases hc

/-! ### Offers, timers and slips (R32, R41) -/

theorem State.doWork_tidies_of {f : Work → Work} (h : ∀ w : Work, w.Tidies (f w)) (s : State) : s.Tidies (s.doWork f) :=
  State.doWork_tidies (h _)

/-- What the Router offers and reports stands in no place. -/
theorem State.offers_tidies {s : State} {o : List CompletionOffer} {r : List RecallOffer} {c : Vector Clearance 16} :
    s.Tidies { s with kr := { s.kr with completions := o, recalls := r, clearance := c } } :=
  fun h => ⟨(State.offers_keeps (o := o) (r := r) (c := c)).kitchen h.fits, h.placed.congr rfl⟩

theorem exec_work_tidying {c : Instr} (hc : isWorkCommand c = true) : Tidying (exec c) := by
  intro s
  cases c with
  | fireBacklogTry =>
    refine ⟨_, rfl, .ite ?_ (.refl s)⟩
    exact State.Tidies.trans (t := { s with ce := { s.ce with tryOffered := false } }) (.same rfl rfl)
      (State.doWork_tidies_of Work.tryBacklog_tidies _)
  | authAnswerTaken tag v =>
    refine ⟨_, rfl, ?_⟩
    split
    · exact State.Tidies.trans (t := { s with ce := { s.ce with answers := _ } }) (.same (by rfl) (by rfl))
        (State.doWork_tidies_of (Work.answerTaken_tidies tag v) _)
    · exact .refl s
  | authWaitExpiry tag =>
    refine ⟨_, rfl, ?_⟩
    split
    · exact .ite (State.doWork_tidies_of (Work.expire_tidies _) s) (.refl s)
    · exact .refl s
  | lateWindowExpiry =>
    refine ⟨_, rfl, ?_⟩
    split
    · exact .ite (State.doWork_tidies_of Work.dropOldest_tidies s) (.refl s)
    · exact .refl s
  | completion n =>
    refine ⟨_, rfl, ?_⟩
    split
    · rename_i o rest _
      exact State.Tidies.trans (t := { s with kr := { s.kr with completions := rest } }) State.offers_tidies
        (State.doWork_tidies_of (Work.completionTaken_tidies o) _)
    · exact .refl s
  | recallOffer n =>
    refine ⟨_, rfl, ?_⟩
    split
    · rename_i o rest _
      exact State.Tidies.trans (t := { s with kr := { s.kr with recalls := rest } }) State.offers_tidies
        (State.doWork_tidies_of (Work.recallTaken_tidies o) _)
    · exact .refl s
  | clearanceReport sd =>
    refine ⟨_, rfl, .ite ?_ (.refl s)⟩
    exact State.Tidies.trans State.offers_tidies (State.doWork_tidies_of (Work.closeTest_tidies sd) _)
  | closeDeadlineExpiry sd =>
    refine ⟨_, rfl, ?_⟩
    split
    · refine .ite (State.doWork_tidies_of (fun w => ?_) s) (.refl s)
      split
      · exact Work.forceShut_tidies sd w
      · exact Work.closeTimeout_tidies sd w
    · exact .refl s
  | _ => cases hc

theorem processTill_tidies {f : TillId → Till → List Byte → Work → SlipAnswer × Work}
    (hf : ∀ t till content (w : Work), w.Tidies (f t till content w).2) (x : Slip) (s : State) :
    s.Tidies (processTill f x s) := by
  unfold processTill
  split
  · exact State.doWork_tidies ((hf _ _ _ _).trans (Work.emit_tidies _ _))
  · exact .refl s

theorem processRemote_tidies (x : Slip) (s : State) : s.Tidies (processRemote x s) := by
  unfold processRemote
  split
  · exact State.doWork_tidies ((remoteOrder_tidies _ _ _).trans (Work.raise_tidies _ _))
  · exact .refl s

theorem exec_slip_tidying {c : Instr} (hc : isSlipCommand c = true) : Tidying (exec c) := by
  intro s
  cases c with
  | order => exact ⟨_, rfl, s.takeSlip_tidies (processTill_tidies orderSlip_tidies)⟩
  | add => exact ⟨_, rfl, s.takeSlip_tidies (processTill_tidies addSlip_tidies)⟩
  | split => exact ⟨_, rfl, s.takeSlip_tidies (processTill_tidies splitSlip_tidies)⟩
  | tender => exact ⟨_, rfl, s.takeSlip_tidies (processTill_tidies tenderSlip_tidies)⟩
  | voidLine => exact ⟨_, rfl, s.takeSlip_tidies (processTill_tidies voidLineSlip_tidies)⟩
  | voidCheck => exact ⟨_, rfl, s.takeSlip_tidies (processTill_tidies voidCheckSlip_tidies)⟩
  | query => exact ⟨_, rfl, s.takeSlip_tidies (processTill_tidies querySlip_tidies)⟩
  | remoteOrderProcess => exact ⟨_, rfl, s.takeSlip_tidies processRemote_tidies⟩
  | unknownSlipKind => exact ⟨_, rfl, s.takeSlip_tidies (processTill_tidies fun _ _ _ w => .refl w)⟩
  | _ => cases hc

/-! ### Control blocks -/

/-- A block command whose blocks are all one piece of work that keeps every ticket in its place. -/
theorem block_tidying {run : ControlOp → Option (State → BlockReply × State)}
    (h : ∀ op f, run op = some f → ∃ g, f = asWork g ∧ ∀ w : Work, w.Tidies (g w).2) :
    Tidying fun s => .next (s.block run) := fun s => by
  refine ⟨_, rfl, State.block_tidies fun op f hf => ?_⟩
  obtain ⟨g, rfl, hg⟩ := h op f hf
  exact State.commit_tidies (hg _)

/-- A block command whose blocks leave the kitchen and the ports alone. -/
theorem block_tidying_same {run : ControlOp → Option (State → BlockReply × State)}
    (h : ∀ op f, run op = some f → ∀ s : State, s.Tidies (f s).2) : Tidying fun s => .next (s.block run) :=
  fun s => ⟨_, rfl, State.block_tidies fun op f hf => h op f hf s⟩

theorem setIntakeMarks_tidies (high low : Nat) (s : State) : s.Tidies (setIntakeMarks high low s).2 := by
  unfold setIntakeMarks
  split
  · exact .refl s
  · split
    · exact .refl s
    · exact State.Tidies.trans (t := s.withMarks high low) (.same rfl rfl) (State.setPaused_tidies _ _)

theorem loadLine_tidies (line enabled rate window turn : Nat) (s : State) :
    s.Tidies (loadLine line enabled rate window turn s).2 := by
  unfold loadLine
  repeat' split
  all_goals exact .same rfl rfl

theorem loadTillFrom_tidies (applied : Nat) (os : List TillOperand) (s : State) :
    s.Tidies (loadTillFrom applied os s).2 := by
  induction os generalizing applied s with
  | nil => exact .refl s
  | cons o os ih =>
    unfold loadTillFrom
    split
    · exact State.Tidies.trans (t := s.onLine _ _) (.same rfl rfl) (ih _ _)
    · exact .refl s

theorem loadTill_tidies (os : List TillOperand) (s : State) : s.Tidies (loadTill os s).2 := by
  unfold loadTill
  split
  · exact .refl s
  · exact loadTillFrom_tidies 0 os s

theorem readTills_tidies (line : Nat) (s : State) : s.Tidies (readTills line s).2 := by
  unfold readTills
  split <;> exact .refl s

theorem setEvents_tidies (mask : Nat) (s : State) : s.Tidies (setEvents mask s).2 := by
  unfold setEvents
  split
  · exact .refl s
  · exact .same rfl rfl

theorem setUplinkTimes_tidies (limit count : Nat) (s : State) : s.Tidies (setUplinkTimes limit count s).2 := by
  unfold setUplinkTimes
  split
  · exact .refl s
  · split
    · exact .refl s
    · exact State.Tidies.trans (t := { s with upc := { s.upc with limit := limit, needed := count } }) (.same rfl rfl)
        (State.onlineTest_tidies _)

theorem serviceReset_tidies (force : Nat) (s : State) : s.Tidies (serviceReset force s).2 := by
  unfold serviceReset
  split
  · exact .refl s
  · exact .same rfl rfl
  · split
    · exact .refl s
    · exact .same rfl rfl

theorem setClock_tidies (value : Nat) (s : State) : s.Tidies (setClock value s).2 := by
  unfold setClock
  split
  · exact .refl s
  · exact .same rfl rfl

/-- The control blocks. -/
def isBlockCommand : Instr → Bool
  | .loadItems | .deleteItems | .readItem | .setStock | .loadStand | .loadStation | .loadLine | .loadTill | .readTills
  | .setIntakeMarks | .queryCheck | .voidCheckBlock | .setAuthTimes | .stationControl | .readStations
  | .setJournalWarning | .setUplinkTimes | .setEvents | .readStatus | .openStand | .closeStand | .serviceReset
  | .setClock => true
  | _ => false

theorem exec_block_tidying {c : Instr} (hc : isBlockCommand c = true) : Tidying (exec c) := by
  cases c with
  | loadItems => exact block_tidying fun op f hf => by cases op <;> cases hf; exact ⟨_, rfl, loadItems_tidies _⟩
  | deleteItems => exact block_tidying fun op f hf => by cases op <;> cases hf; exact ⟨_, rfl, deleteItems_tidies _⟩
  | readItem => exact block_tidying fun op f hf => by cases op <;> cases hf; exact ⟨_, rfl, readItem_tidies _⟩
  | setStock => exact block_tidying fun op f hf => by cases op <;> cases hf; exact ⟨_, rfl, setStock_tidies _ _⟩
  | loadStand => exact block_tidying fun op f hf => by cases op <;> cases hf; exact ⟨_, rfl, loadStand_tidies _ _ _ _⟩
  | loadStation => exact block_tidying fun op f hf => by cases op <;> cases hf; exact ⟨_, rfl, loadStation_tidies _⟩
  | queryCheck => exact block_tidying fun op f hf => by cases op <;> cases hf; exact ⟨_, rfl, queryCheck_tidies _⟩
  | voidCheckBlock =>
    exact block_tidying fun op f hf => by cases op <;> cases hf; exact ⟨_, rfl, voidCheckBlock_tidies _⟩
  | setAuthTimes =>
    exact block_tidying fun op f hf => by cases op <;> cases hf; exact ⟨_, rfl, setAuthTimes_tidies _ _⟩
  | stationControl =>
    exact block_tidying fun op f hf => by cases op <;> cases hf; exact ⟨_, rfl, stationControl_tidies _ _⟩
  | readStations => exact block_tidying fun op f hf => by cases op <;> cases hf; exact ⟨_, rfl, fun w => .refl w⟩
  | setJournalWarning =>
    exact block_tidying fun op f hf => by cases op <;> cases hf; exact ⟨_, rfl, setJournalWarning_tidies _⟩
  | openStand => exact block_tidying fun op f hf => by cases op <;> cases hf; exact ⟨_, rfl, openStand_tidies _⟩
  | closeStand => exact block_tidying fun op f hf => by cases op <;> cases hf; exact ⟨_, rfl, closeStand_tidies _ _ _⟩
  | loadLine => exact block_tidying_same fun op f hf => by cases op <;> cases hf; exact loadLine_tidies _ _ _ _ _
  | loadTill => exact block_tidying_same fun op f hf => by cases op <;> cases hf; exact loadTill_tidies _
  | readTills => exact block_tidying_same fun op f hf => by cases op <;> cases hf; exact readTills_tidies _
  | setIntakeMarks => exact block_tidying_same fun op f hf => by cases op <;> cases hf; exact setIntakeMarks_tidies _ _
  | setUplinkTimes => exact block_tidying_same fun op f hf => by cases op <;> cases hf; exact setUplinkTimes_tidies _ _
  | setEvents => exact block_tidying_same fun op f hf => by cases op <;> cases hf; exact setEvents_tidies _
  | readStatus => exact block_tidying_same fun op f hf => by cases op <;> cases hf; exact State.Tidies.refl
  | serviceReset => exact block_tidying_same fun op f hf => by cases op <;> cases hf; exact serviceReset_tidies _
  | setClock => exact block_tidying_same fun op f hf => by cases op <;> cases hf; exact setClock_tidies _
  | _ => cases hc

/-! ### Power-on, the clock, the uplink (R149 to R152, R169 to R172) -/

theorem execPowerOn_tidying : Tidying execPowerOn := fun s => ⟨_, rfl, fun _ => by
  refine ⟨reset_kitchen_fits.congr rfl rfl, Work.Placed.of_empty rfl (fun st => ?_) (fun st => ?_) fun st => ?_⟩
  · change State.reset.kr.stations[st] = { State.reset.kr.stations[st] with
      voidQ := [], normalQ := [], shown := [], recallL := [] }
    rw [reset_stations]
    rfl
  · change State.reset.ports[st].holds = []
    rw [reset_ports]
    rfl
  · change State.reset.kr.stations[st].cfg.fallback ≠ some st
    rw [reset_stations]
    exact nofun⟩

theorem execSelfTestDone_tidying (failed : List Memory) : Tidying (execSelfTestDone failed) := fun s =>
  ⟨_, rfl, .ite (State.Tidies.trans (t := { s with upc := { s.upc with part := _, selfTest := _ } })
    (.same (by rfl) (by rfl)) (State.hello_tidies _ _)) (.refl s)⟩

theorem Port.tick_holds (p : Port) : p.tick.holds = p.holds :=
  Port.mapSlots_holds (f := fun x => if p.hold then x else { x with timer := x.timer.map Timer.next })
    (fun x => by split <;> rfl) p

theorem execVenueClockTick_tidying : Tidying execVenueClockTick := fun s => by
  obtain ⟨t, ht, hkeeps⟩ := execVenueClockTick_keeping s
  refine ⟨t, ht, fun h => ⟨hkeeps.kitchen h.fits, h.placed.congr ?_⟩⟩
  obtain rfl := Host.Outcome.next.inj ht
  refine Work.placing_eq (fun st => ?_) fun _ => rfl
  refine Spot.of_congr (p := s.ports[st]) (q := (mapAll Port.tick s.ports)[st]) ?_ _
  rw [Fin.getElem_fin, mapAll_get]
  exact ⟨Port.tick_holds _, rfl⟩

theorem execEthernetLinkLost_tidying : Tidying execEthernetLinkLost := fun s =>
  ⟨_, rfl, State.Tidies.trans
    (t := ({ s with upc := { s.upc with linkUp := false, sendQueue := [] } } : State).loseUplink)
    (.same rfl rfl) (State.endBurst_tidies _)⟩

theorem execEthernetLinkUp_tidying : Tidying execEthernetLinkUp := fun s => by
  have hup : s.Tidies { s with upc := { s.upc with linkUp := true, sendQueue := [], heldHello := none } } :=
    .same rfl rfl
  refine ⟨_, rfl, .ite (.refl s) ?_⟩
  split
  · exact hup.trans (State.handOver_tidies _ _)
  · exact hup

theorem execEnvelopeSent_tidying : Tidying execEnvelopeSent := fun s => by
  refine ⟨_, rfl, ?_⟩
  split
  · exact .refl s
  · exact State.Tidies.trans (t := ({ s with upc := { s.upc with sendQueue := _ } } : State).send _) (.same rfl rfl)
      (State.resumeBurst_tidies _)

theorem State.takeEnvelope_tidies {want : Byte → Bool} {f : List Byte → State → State}
    (hf : ∀ content (s : State), s.Tidies (f content s)) (fr : EthFrame) (s : State) :
    s.Tidies (s.takeEnvelope want f fr) := by
  unfold State.takeEnvelope
  split
  · exact .refl s
  · split
    · exact .ite (s.countEnvelope_tidies.trans (hf _ _)) (.refl s)
    · exact .refl s

theorem execControl_tidying (fr : EthFrame) : Tidying (execControl fr) := fun s =>
  ⟨_, rfl, s.takeEnvelope_tidies (fun _content s => State.Tidies.trans
    (t := { s with upc := { s.upc with replyAddr := fr.src } }) (.same rfl rfl) (State.queueControl_tidies _ _)) fr⟩

theorem offerRemote_tidies (content : List Byte) (s : State) : s.Tidies (offerRemote content s) := by
  unfold offerRemote
  split
  · split
    · rename_i t ht
      exact State.offerSlip_tidies ht
    · exact State.raise_tidies _ s
  · exact .refl s

theorem execRemoteOrder_tidying (fr : EthFrame) : Tidying (execRemoteOrder fr) := fun s =>
  ⟨_, rfl, s.takeEnvelope_tidies (fun content s => .ite (offerRemote_tidies content s) (.refl s)) fr⟩

theorem execAuthAnswer_tidying (fr : EthFrame) : Tidying (execAuthAnswer fr) := fun s => by
  refine ⟨_, rfl, s.takeEnvelope_tidies (fun content s => ?_) fr⟩
  split
  · exact .ite (State.doWork_tidies_of (Work.answerArrives_tidies _ _) s) (.refl s)
  · exact .refl s

/-! ### Calls on the till lines (R25 to R31) -/

theorem State.closeCall_tidies (l : LineId) (c : Call) (chars : List Byte) (s : State) :
    s.Tidies (s.closeCall l c chars) := by
  refine State.Tidies.trans (.ite (.refl s) ?_) (.same rfl rfl)
  change s.Tidies (s.talk l c.turn c.turn (State.sayAnswer l c.drop chars))
  rw [State.talk_sayAnswer rfl]
  exact .same rfl rfl

theorem State.answered_tidies (l : LineId) (d : DropId) (s : State) : s.Tidies (s.answered l d) := by
  have hheard : s.Tidies (s.onLine l (TillLine.onTill d Till.heard)) := .same rfl rfl
  exact .ite hheard (hheard.trans (State.raise_tidies _ _))

theorem State.takeFrame_tidies (l : LineId) (c : Call) (kind : Byte) (content : List Byte) (s : State) :
    s.Tidies (s.takeFrame l c kind content) := by
  unfold State.takeFrame
  split
  · rename_i t ht
    exact (State.offerSlip_tidies ht).trans (State.closeCall_tidies l c _ t)
  · exact State.closeCall_tidies l c _ s

theorem execSlipCall_tidying (l : LineId) : Tidying (exec (.slipCall l)) := fun s => by
  by_cases hfree : s.lineFree l = true ∧ s.intake.paused = false
  · cases hdue : s.lines[l].closeRound.nextDue with
    | none => exact ⟨s, by simp only [exec, execSlipCall, hdue, ite_self], .refl s⟩
    | some d => exact ⟨_, exec_slipCall_calls hfree.1 hfree.2 rfl hdue, .same rfl rfl⟩
  · exact ⟨s, congrArg Host.Outcome.next (if_neg hfree), .refl s⟩

theorem execDeliverCall_tidying (l : LineId) : Tidying (exec (.deliverCall l)) := fun s => by
  by_cases hfree : s.lineFree l = true ∧ s.intake.paused = true
  · cases hwalk : s.lines[l].nextWalk with
    | none => exact ⟨s, exec_deliverCall_none hwalk, .refl s⟩
    | some d =>
      obtain ⟨n, more, hn⟩ := List.exists_cons_of_ne_nil (TillLine.nextWalk_waits hwalk)
      exact ⟨_, exec_deliverCall_sends hfree.1 hfree.2 hwalk hn, .same rfl rfl⟩
  · exact ⟨s, congrArg Host.Outcome.next (if_neg hfree), .refl s⟩

theorem execMiss_tidying (l : LineId) : Tidying (execMiss l) := fun s => by
  refine ⟨_, rfl, ?_⟩
  split
  · have hended (t : State) : t.Tidies (t.endCall l) := .same rfl rfl
    have hmissed (d : DropId) (f : Till → Till) : s.Tidies (s.onLine l (TillLine.onTill d f)) := .same rfl rfl
    refine .ite (.refl s) (State.Tidies.trans (.ite ?_ (hmissed _ _)) (hended _))
    exact (hmissed _ _).trans (State.raise_tidies _ _)
  · exact .refl s

theorem execIdle_tidying (l : LineId) : Tidying (execIdle l) := fun s => by
  refine ⟨_, rfl, ?_⟩
  split
  · exact .ite (.refl s) ((State.answered_tidies _ _ s).trans (State.closeCall_tidies _ _ _ _))
  · exact .refl s

theorem execSlipFrame_tidying (l : LineId) (cs : List TillChar) : Tidying (execSlipFrame l cs) := fun s => by
  refine ⟨_, rfl, ?_⟩
  split
  · rename_i c hcall
    have hanswered := State.answered_tidies l c.drop s
    refine .ite (.refl s) ?_
    split
    · exact hanswered.trans (State.takeFrame_tidies _ _ _ _ _)
    · exact hanswered.trans (State.closeCall_tidies _ _ _ _)
    · exact .same rfl rfl
    all_goals exact .refl s
  · exact .refl s

theorem execFrameGapTimeout_tidying (l : LineId) (cs : List TillChar) :
    Tidying (execFrameGapTimeout l cs) := fun s => by
  refine ⟨_, rfl, ?_⟩
  split
  · exact .ite (.same rfl rfl) (.refl s)
  · exact .refl s

theorem execMalformedAnswer_tidying (l : LineId) (cs : List TillChar) :
    Tidying (execMalformedAnswer l cs) := fun s => by
  refine ⟨_, rfl, ?_⟩
  split
  · exact .ite ((State.answered_tidies _ _ s).trans (State.closeCall_tidies _ _ _ _)) (.refl s)
  · exact .refl s

/-! ### Every command, every step -/

theorem exec_tidying (c : Instr) : Tidying (exec c) := by
  by_cases hstation : isStationCommand c = true
  · exact exec_station_tidying hstation
  by_cases hwork : isWorkCommand c = true
  · exact exec_work_tidying hwork
  by_cases hslip : isSlipCommand c = true
  · exact exec_slip_tidying hslip
  by_cases hblock : isBlockCommand c = true
  · exact exec_block_tidying hblock
  cases c with
  | powerOn => exact execPowerOn_tidying
  | selfTestDone failed => exact execSelfTestDone_tidying failed
  | venueClockTick => exact execVenueClockTick_tidying
  | ethernetLinkLost => exact execEthernetLinkLost_tidying
  | ethernetLinkUp => exact execEthernetLinkUp_tidying
  | silenceTimeout => exact fun s => ⟨_, rfl, .ite (.same rfl rfl) (.refl s)⟩
  | envelopeSent => exact execEnvelopeSent_tidying
  | control fr => exact execControl_tidying fr
  | remoteOrder fr => exact execRemoteOrder_tidying fr
  | authAnswer fr => exact execAuthAnswer_tidying fr
  | keepalive fr => exact fun s => ⟨_, rfl, s.takeEnvelope_tidies (fun _ s => .refl s) fr⟩
  | otherEnvelopeKind fr => exact fun s => ⟨_, rfl, s.takeEnvelope_tidies (fun _ s => .refl s) fr⟩
  | drainJournal => exact fun s => ⟨_, rfl, s.drainBlock_tidies⟩
  | drainBurstRecord => exact fun s => ⟨_, rfl, s.burstStep_tidies⟩
  | emptyRound l => exact fun s => ⟨_, rfl, .ite (.ite (.same rfl rfl) (.refl s)) (.refl s)⟩
  | slipCall l => exact execSlipCall_tidying l
  | miss l => exact execMiss_tidying l
  | idle l => exact execIdle_tidying l
  | slipFrame l cs => exact execSlipFrame_tidying l cs
  | frameGapTimeout l cs => exact execFrameGapTimeout_tidying l cs
  | malformedAnswer l cs => exact execMalformedAnswer_tidying l cs
  | deliverCall l => exact execDeliverCall_tidying l
  | order | add | split | tender | voidLine | voidCheck | query | remoteOrderProcess | unknownSlipKind =>
    exact absurd rfl hslip
  | fireBacklogTry | authAnswerTaken | authWaitExpiry | lateWindowExpiry | completion | recallOffer | clearanceReport
  | closeDeadlineExpiry => exact absurd rfl hwork
  | ticket | ticketFrameEnd | probeTimerExpiry | taken | bump | recallFrame | fault | helloFrame | hold | go
  | stationFrameDiscard | stationFrameGapTimeout | takenTimeout | holdLimit => exact absurd rfl hstation
  | _ => exact absurd rfl hblock

theorem step_tidies {s t : State} (h : step s = .next t) : s.Tidies t := by
  unfold step at h
  split at h
  · obtain rfl := Host.Outcome.next.inj h
    exact .refl s
  · rename_i c rest _
    exact State.Tidies.trans (t := { s with pending := rest }) (.same rfl rfl) (of_exec_next (exec_tidying c _) h)

/-- A state within its sizes, every ticket in its place, is tidy. -/
theorem State.QueuesBounded.tidy {s : State} (h : s.QueuesBounded) (hs : s.TicketsPlaced) : s.work.Tidy := by
  obtain ⟨-, -, -, -, -, hfits, -⟩ := s.queuesBounded_iff.1 h
  exact ⟨hfits, hs.placed hfits.rising⟩

/-- Settles O8: every command keeps every ticket in its place, so every step does. -/
theorem ticketsStandInOnePlace : Obligations.TicketsStandInOnePlace := fun _ _ hq hs h => by
  have htidy := step_tidies h (hq.tidy hs)
  exact .of_placed htidy.fits.rising htidy.placed

end Sys2Proof.Machine
end

section
/-! PROOFS. TICKET, TICKET_FRAME_END and PROBE_TIMER_EXPIRY (R109, R126, R130, R132, R134). -/
namespace Sys2Proof.Machine

/-! ### Work at a port (R125) -/

section
variable {s : State} {st : StationId} {want : Link → Bool} {f : Work → Work}

theorem State.portWorks_of (hpart : s.upc.part = .running) (hl : s.kr.stations[st].cfg.loaded = true) :
    s.portWorks st = true := by
  simp only [State.portWorks, State.running, hpart, hl, decide_true, Bool.and_self]

theorem State.atPort_works (hw : s.portWorks st = true) (hl : want s.ports[st].link = true) :
    s.atPort st want f = s.doWork f := if_pos ⟨hw, hl⟩

theorem State.atPort_idle (hl : want s.ports[st].link = false) : s.atPort st want f = s :=
  if_neg fun h => Bool.false_ne_true (hl.symm.trans h.2)

/-- Work that finds nothing to do changes nothing. -/
theorem State.doWork_idle (h : f s.work = s.work) : s.doWork f = s := by
  rw [State.doWork, h, State.commit_work]

theorem State.atPort_same (h : f s.work = s.work) : s.atPort st want f = s := by
  unfold State.atPort
  split
  · exact State.doWork_idle h
  · rfl

end

/-- A piece of work that sends one thing on a wire is carried out, and the thing sent. -/
theorem State.commit_output {w : Work} (h : w.fx = []) (o : Output) (s : State) :
    s.commit (w.emit (.output o)) = (s.putWork w).send o := by
  rw [State.commit_emit, State.commit_silent h]
  rfl

/-- A port is changed and something is sent. -/
theorem State.doWork_port {s : State} {st : StationId} {f : Work → Work} {g : Port → Port} {o : Output}
    (h : f s.work = (s.work.onPort st g).emit (.output o)) :
    s.doWork f = { s with ports := s.ports.set st (g s.ports[st]), out := s.out ++ [o] } := by
  rw [State.doWork, h, State.commit_output rfl]
  rfl

/-! ### The head of the queue sent (R130) -/

/-- The head of the queue taken into the slot that the mark names. -/
def Work.fillSlot (n : Nat) (st : StationId) (w : Work) : Work :=
  ((w.onStation st Station.dropHead).onTicket n fun t => { t with state := .sending }).onPort st fun p =>
    { p.setSlot (w.port st).mark (some { ticket := n, ended := false, marked := false, timer := none }) with
      mark := otherSlot (w.port st).mark }

theorem Work.sendHead_sends {st : StationId} {w : Work} {n : Nat} {k : Ticket} (hmay : (w.port st).maySend = true)
    (hn : (w.station st).queue.head? = some n) (hk : w.ticket? n = some k) :
    w.sendHead st = (w.fillSlot n st).emit (.output (.ticketBegin st (ticketFrame (w.port st).mark k))) := by
  have hnum : k.number = n := (lookupBy_some hk).2
  unfold Work.sendHead
  rw [if_pos hmay, hn, Option.bind_some, hk]
  simp only [hnum]
  rfl

theorem Work.sendHead_idle {st : StationId} {w : Work}
    (h : (w.port st).maySend = false ∨ (w.station st).queue = []) : w.sendHead st = w := by
  unfold Work.sendHead
  rcases h with h | h
  · rw [if_neg (by simp [h])]
  · rw [h]
    split <;> rfl

theorem Port.maySend_iff {p : Port} : p.maySend = true ↔
    p.link = .up ∧ p.hold = false ∧ p.sending = false ∧ p.slot p.mark = none := by
  simp [Port.maySend, Link.isUp, and_assoc]

theorem Station.dropHead_queue {x : Station} {n : Nat} {more : List Nat} (h : x.queue = n :: more) :
    x.dropHead.queue = more := by
  unfold Station.dropHead
  unfold Station.queue at h ⊢
  split
  · rename_i v vs hv
    rw [hv, List.cons_append] at h
    exact (List.cons.inj h).2
  · rename_i hv
    rw [hv, List.nil_append] at h ⊢
    rw [h, List.tail_cons]

theorem Port.setSlot_slot_same (x : Slot) (o : Option OutSlot) (p : Port) : (p.setSlot x o).slot x = o := by
  cases x <;> rfl

theorem Port.setSlot_slot_other {x y : Slot} (h : y ≠ x) (o : Option OutSlot) (p : Port) :
    (p.setSlot x o).slot y = p.slot y := by
  cases x <;> cases y
  case a.a => exact absurd rfl h
  case b.b => exact absurd rfl h
  all_goals rfl

theorem otherSlot_of_ne {x y : Slot} (h : y ≠ x) : otherSlot x = y := by
  cases x <;> cases y
  case a.a => exact absurd rfl h
  case b.b => exact absurd rfl h
  all_goals rfl

section
variable {w : Work} {n : Nat} {st : StationId}

theorem Work.fillSlot_port : (w.fillSlot n st).port st =
    { (w.port st).setSlot (w.port st).mark (some { ticket := n, ended := false, marked := false, timer := none }) with
      mark := otherSlot (w.port st).mark } :=
  (Work.onPort_port _ _ _ _).trans (if_pos rfl)

theorem Work.fillSlot_port_other {s : StationId} (h : s ≠ st) : (w.fillSlot n st).port s = w.port s :=
  (Work.onPort_port _ _ _ _).trans (if_neg h)

theorem Work.fillSlot_station : (w.fillSlot n st).station st = (w.station st).dropHead :=
  (Work.onStation_station _ _ _ _).trans (if_pos rfl)

theorem Work.fillSlot_station_other {s : StationId} (h : s ≠ st) : (w.fillSlot n st).station s = w.station s :=
  (Work.onStation_station _ _ _ _).trans (if_neg h)

end

/-! ### The commands -/

section
variable {s : State} {st : StationId}

theorem exec_ticket_idle (h : s.ports[st].maySend = false ∨ s.kr.stations[st].queue = []) :
    exec (.ticket st) s = .next s :=
  congrArg Host.Outcome.next (State.atPort_same (Work.sendHead_idle (w := s.work) h))

theorem exec_ticketFrameEnd_held (h : s.ports[st].hold = true) : exec (.ticketFrameEnd st) s = .next s := by
  refine congrArg Host.Outcome.next (State.atPort_same (if_neg fun hc => ?_))
  have : (s.work.port st).hold = true := h
  simp [this] at hc

variable (hw : s.portWorks st = true)
include hw

theorem exec_ticket_sends {n : Nat} {k : Ticket} (hmay : s.ports[st].maySend = true)
    (hn : s.kr.stations[st].queue.head? = some n) (hk : lookupBy Ticket.number n s.kr.tickets = some k) :
    exec (.ticket st) s = .next ((s.putWork (s.work.fillSlot n st)).send
      (.ticketBegin st (ticketFrame s.ports[st].mark k))) := by
  have hup := (Port.maySend_iff.1 hmay).1
  refine congrArg Host.Outcome.next ((State.atPort_works hw (by rw [hup]; rfl)).trans ?_)
  rw [State.doWork, Work.sendHead_sends (w := s.work) hmay hn hk]
  exact State.commit_output rfl _ s

theorem exec_ticketFrameEnd_ends (hup : s.ports[st].link = .up) (hhold : s.ports[st].hold = false)
    (hsends : s.ports[st].sending = true) : exec (.ticketFrameEnd st) s = .next { s with
      ports := s.ports.set st { s.ports[st] with
        slotA := s.ports[st].slotA.map (OutSlot.finish s.kr.stations[st].cfg.takenTimeout)
        slotB := s.ports[st].slotB.map (OutSlot.finish s.kr.stations[st].cfg.takenTimeout) }
      out := s.out ++ [.ticketEnd st] } := by
  refine congrArg Host.Outcome.next ((State.atPort_works hw (by rw [hup]; rfl)).trans ?_)
  exact State.doWork_port (if_pos ⟨hsends, hhold⟩)

theorem exec_probeTimerExpiry_probes (hdown : s.ports[st].link = .down) {n : Nat} (hn : s.ports[st].probe = some n)
    (hdue : 5 ≤ n) : exec (.probeTimerExpiry st) s = .next { s with
      ports := s.ports.set st { s.ports[st] with probe := some 0 }
      out := s.out ++ [.probe st (probeFrame st)] } := by
  have hprobe : ((s.work.port st).probe.any fun t => decide (probePeriod ≤ t)) = true := by
    rw [Work.port, State.work_ports, hn]
    exact decide_eq_true hdue
  refine congrArg Host.Outcome.next ((State.atPort_works hw (by rw [hdown]; rfl)).trans ?_)
  exact State.doWork_port (if_pos hprobe)

end

/-- Settles O47: each of the three commands is its one piece of work at a port, or nothing. -/
theorem portsSendTicketsAndProbes : Obligations.PortsSendTicketsAndProbes := by
  intro s st hpart hl
  have hw := State.portWorks_of hpart hl
  refine ⟨fun n more k hup hhold hsend hslot hqueue hk => ?_, fun h => exec_ticket_idle ?_,
    fun hup hhold hsends => exec_ticketFrameEnd_ends hw hup hhold hsends, exec_ticketFrameEnd_held,
    fun n hdown hn hdue => exec_probeTimerExpiry_probes hw hdown hn hdue⟩
  · have hhead : s.kr.stations[st].queue.head? = some n := congrArg List.head? hqueue
    refine ⟨_, exec_ticket_sends hw (Port.maySend_iff.2 ⟨hup, hhold, hsend, hslot⟩) hhead hk, ?_, ?_, ?_,
      fun x hx => ?_, rfl, fun x hx => ⟨?_, ?_⟩⟩
    · exact (congrArg Station.queue Work.fillSlot_station).trans (Station.dropHead_queue hqueue)
    · exact List.map_congr_left fun x _ => by simp
    · exact (congrArg (fun p : Port => p.slot s.ports[st].mark) Work.fillSlot_port).trans
        (Port.setSlot_slot_same _ _ _)
    · exact ⟨(congrArg Port.mark Work.fillSlot_port).trans (otherSlot_of_ne hx),
        (congrArg (fun p : Port => p.slot x) Work.fillSlot_port).trans (Port.setSlot_slot_other hx _ _)⟩
    · exact Work.fillSlot_port_other (w := s.work) hx
    · exact Work.fillSlot_station_other (w := s.work) hx
  · by_cases hmay : s.ports[st].maySend = true
    · obtain ⟨hup, hhold, hsend, hslot⟩ := Port.maySend_iff.1 hmay
      rcases h with h | h | h | h | h
      · exact absurd hup h
      · cases hhold.symm.trans h
      · cases hsend.symm.trans h
      · rw [hslot] at h
        cases h
      · exact .inr h
    · exact .inl (Bool.eq_false_iff.2 hmay)

end Sys2Proof.Machine
end

section
/-! PROOFS. TAKEN, BUMP and RECALL at an UP port (R109, R110, R117, R118, R131, R133, R135). -/
namespace Sys2Proof.Machine

/-! ### A frame heard (R135) -/

theorem State.heard_work (s : State) (st : StationId) : (s.heard st).work = s.work.goAny st := by
  unfold State.heard Work.goAny
  by_cases h : s.ports[st].link = .up ∧ s.kr.stations[st].cfg.goAny = true
  · rw [if_pos h]
    exact (if_pos (c := (s.work.port st).link = .up ∧ (s.work.station st).cfg.goAny = true) h).symm
  · rw [if_neg h]
    exact (if_neg (c := (s.work.port st).link = .up ∧ (s.work.station st).cfg.goAny = true) h).symm

theorem State.heard_putWork (s : State) (st : StationId) (w : Work) : (s.heard st).putWork w = s.putWork w := by
  unfold State.heard
  simp only
  split <;> rfl

@[simp] theorem State.heard_kr (s : State) (st : StationId) : (s.heard st).kr = s.kr := by
  unfold State.heard
  simp only
  split <;> rfl

theorem State.heard_port (s : State) (st : StationId) :
    (s.heard st).ports[st] = s.ports[st] ∨ (s.heard st).ports[st] = s.ports[st].release := by
  unfold State.heard
  simp only
  split
  · exact .inr (modify_self s.ports st Port.release)
  · exact .inl rfl

theorem State.heard_slot (s : State) (st : StationId) (x : Slot) :
    ((s.heard st).work.port st).slot x = s.ports[st].slot x := by
  change (s.heard st).ports[st].slot x = _
  rcases s.heard_port st with h | h <;> rw [h]
  cases x <;> rfl

theorem State.heard_ticket? (s : State) (st : StationId) (n : Nat) :
    (s.heard st).work.ticket? n = lookupBy Ticket.number n s.kr.tickets := by
  rw [Work.ticket?, State.work_kr, State.heard_kr]

theorem State.heard_station (s : State) (st x : StationId) : (s.heard st).work.station x = s.kr.stations[x] := by
  rw [Work.station, State.work_kr, State.heard_kr]

theorem State.heard_load (s : State) (st x : StationId) : (s.heard st).work.load x = s.loadOf x := by
  rw [State.work_load, State.loadOf, State.heard_kr]
  rfl

/-- A good frame at an UP port clears the hold flag under GO-any, and acts (R135). -/
theorem State.onFrame_acts {s : State} {st : StationId} {cs : List PortChar} {f : PortFrame} {g : Work → Work}
    {up down : PortFrame → Option (Work → Work)} (hw : s.portWorks st = true) (hl : s.ports[st].link = .up)
    (hcs : readPort cs = [.frame f]) (hg : up f = some g) : s.onFrame st cs up down = (s.heard st).doWork g := by
  unfold State.onFrame
  rw [hcs]
  simp only [hw, if_true, hl, hg]
  rw [State.doWork, State.doWork, State.heard_work, State.commit, State.commit, State.heard_putWork]

/-! ### Places after a ticket has moved -/

theorem Port.emptySlot_slot {p : Port} {x : Slot} {z : OutSlot} (h : p.slot x = some z) :
    (p.emptySlot z.ticket).slot x = none := by
  cases x with
  | a =>
    have : p.slotA = some z := h
    simp [Port.emptySlot, Port.slot, this]
  | b =>
    have : p.slotB = some z := h
    simp [Port.emptySlot, Port.slot, this]

theorem Work.freeTicket_port {n : Nat} {t : Ticket} {w : Work} (ht : w.ticket? n = some t) :
    (w.freeTicket n).port t.station = (w.port t.station).emptySlot n := by
  rw [Work.freeTicket_eq ht, Work.divertTest_port, Work.freeRaw_port ht, if_pos rfl]

theorem Work.freeTicket_shown {n : Nat} {t : Ticket} {w : Work} (ht : w.ticket? n = some t) :
    n ∉ ((w.freeTicket n).station t.station).shown := by
  rw [Work.freeTicket_eq ht, Work.divertTest_station, if_pos rfl, Work.freeRaw_station ht, if_pos rfl]
  simp [Station.without]

theorem Work.noteClear_station (sd : StandId) (before : Nat) (st : StationId) (w : Work) :
    (w.noteClear sd before).station st = w.station st := by
  obtain ⟨c, hc⟩ := w.noteClear_frame sd before
  rw [hc]
  rfl

/-- A ticket enters the recall list at the front and leaves the screen (R117). -/
theorem Work.enterRecall_station (n : Nat) (t : Ticket) (w : Work) :
    ((w.enterRecall n t).station t.station).recallL.head? = some n ∧
      n ∉ ((w.enterRecall n t).station t.station).shown := by
  rw [Work.enterRecall_eq, Work.noteClear_station]
  simp only [Work.offerTry_station, Work.onStation_station, Work.onTicket_station, Work.dropOffers_station,
    Work.unplace_station, if_true]
  exact ⟨rfl, by simp [Station.without]⟩

theorem Work.remake_ticket? {n : Nat} {st : StationId} {t : Ticket} {w : Work} (ht : w.ticket? n = some t) :
    (w.remake n st).ticket? n = some { t with
      state := .shown, remake := true, check := none, entries := t.entries.map fun e => { e with line := none } } := by
  unfold Work.remake
  rw [Work.onTicket_ticket?, if_pos rfl, Work.show_ticket?, if_pos rfl, ht]
  · rfl
  · exact fun _ => rfl

theorem Work.remake_station (n : Nat) (st : StationId) (w : Work) : (w.remake n st).station st =
    { (w.station st).without n with shown := ((w.station st).without n).shown ++ [n] } := by
  unfold Work.remake
  rw [Work.onTicket_station, Work.show_station, if_pos rfl]

/-! ### TAKEN (R109, R110, R131) -/

theorem Ticket.linked_iff {k : Ticket} :
    k.linked = true ↔ k.kind ≠ .void ∧ k.check.isSome = true ∧ k.remake = false := by
  simp [Ticket.linked, and_assoc]

section
variable {w : Work} {st : StationId} {x : Slot} {z : OutSlot} {k : Ticket}

theorem Work.taken_idle (h : (w.port st).slot x = none ∨
    ∃ z, (w.port st).slot x = some z ∧ (z.ended = false ∨ z.marked = true)) : w.taken st x = w := by
  unfold Work.taken
  rcases h with h | ⟨z, h, hz⟩
  · rw [h]
  · rw [h]
    refine if_neg fun hc => ?_
    rcases hz with hz | hz
    · exact Bool.false_ne_true (hz.symm.trans hc.1)
    · exact Bool.false_ne_true (hc.2.symm.trans hz)

variable (hz : (w.port st).slot x = some z) (hended : z.ended = true) (hmarked : z.marked = false)
  (hk : w.ticket? z.ticket = some k)
include hz hended hmarked hk

theorem Work.taken_acts : w.taken st x = if (w.station st).cfg.kind = .print then
      if k.linked then
        (w.onPort st (Port.setSlot x (some { z with marked := true, timer := none }))).offerCompletion k.number st
          (.slot x)
      else w.freeTicket k.number
    else ((w.show k.number st).divertTest st).offerTry := by
  unfold Work.taken
  rw [hz]
  simp only [hended, hmarked, and_self, if_true, Work.takenSlot, hk]

theorem Work.taken_shows (hdisplay : (w.station st).cfg.kind ≠ .print) :
    ((w.taken st x).port st).slot x = none ∧ (w.taken st x).ticket? z.ticket = some { k with state := .shown } ∧
      z.ticket ∈ ((w.taken st x).station st).shown := by
  have hnum : k.number = z.ticket := (lookupBy_some hk).2
  rw [Work.taken_acts hz hended hmarked hk, if_neg hdisplay]
  rw [← hnum] at hk
  rw [← hnum]
  refine ⟨?_, ?_, ?_⟩
  · rw [Work.offerTry_port, Work.divertTest_port, Work.show_port, if_pos rfl, hnum]
    exact Port.emptySlot_slot hz
  · rw [Work.offerTry_ticket?, Work.divertTest_ticket?, Work.show_ticket?, if_pos rfl, hk]
    rfl
  · rw [Work.offerTry_station, Work.divertTest_station, if_pos rfl, Work.show_station, if_pos rfl]
    simp

theorem Work.taken_frees (hst : k.station = st) (hprint : (w.station st).cfg.kind = .print)
    (hlinked : k.linked = false) : ((w.taken st x).port st).slot x = none ∧ (w.taken st x).ticket? z.ticket = none := by
  have hnum : k.number = z.ticket := (lookupBy_some hk).2
  rw [Work.taken_acts hz hended hmarked hk, if_pos hprint, hlinked, if_neg Bool.false_ne_true, hnum]
  subst hst
  exact ⟨by rw [Work.freeTicket_port hk]; exact Port.emptySlot_slot hz, by simp⟩

end

/-! ### BUMP and RECALL (R110, R117, R118) -/

section
variable {w : Work} {st : StationId} {n : Nat} {k : Ticket}

theorem Work.bump_idle (h : n ∉ (w.station st).shown) : w.bump st n = w :=
  if_neg fun hc => h (List.contains_iff_mem.1 hc)

theorem Work.recallArrives_idle (h : n ∉ (w.station st).recallL) : w.recallArrives st n = w :=
  if_neg fun hc => h (List.contains_iff_mem.1 hc)

section
variable (hn : n ∈ (w.station st).shown) (hk : w.ticket? n = some k)
include hn hk

theorem Work.bump_acts : w.bump st n =
    if k.linked then
      if w.kr.completions.any fun o => o.ticket == n then w else w.offerCompletion n st .bump
    else if k.kind = .void ∨ k.remake then w.freeTicket n
    else w.enterRecall n k := by
  unfold Work.bump
  rw [if_pos (List.contains_iff_mem.2 hn), hk]

theorem Work.bump_offers (hlinked : k.linked = true) (hfree : ∀ o ∈ w.kr.completions, o.ticket ≠ n) :
    w.bump st n = w.offerCompletion n st .bump := by
  have hnone : (w.kr.completions.any fun o => o.ticket == n) = false :=
    List.any_eq_false.2 fun o ho => by simpa using hfree o ho
  rw [Work.bump_acts hn hk, if_pos hlinked, hnone, if_neg Bool.false_ne_true]

theorem Work.bump_frees (hst : k.station = st) (hlinked : k.linked = false) (hgone : k.kind = .void ∨ k.remake = true) :
    (w.bump st n).ticket? n = none ∧ n ∉ ((w.bump st n).station st).shown := by
  rw [Work.bump_acts hn hk, hlinked, if_neg Bool.false_ne_true, if_pos hgone, ← hst]
  exact ⟨by simp, Work.freeTicket_shown hk⟩

theorem Work.bump_lists (hst : k.station = st) (hlinked : k.linked = false)
    (hstays : ¬ (k.kind = .void ∨ k.remake = true)) :
    ((w.bump st n).station st).recallL.head? = some n ∧ n ∉ ((w.bump st n).station st).shown := by
  rw [Work.bump_acts hn hk, hlinked, if_neg Bool.false_ne_true, if_neg hstays, ← hst]
  exact Work.enterRecall_station n k w

end

section
variable (hn : n ∈ (w.station st).recallL) (hk : w.ticket? n = some k)
include hn hk

theorem Work.recallArrives_acts : w.recallArrives st n =
    if k.kind = .normal ∧ k.linked then
      { w with kr := { w.kr with recalls := w.kr.recalls ++ [{ ticket := n, station := st }] } }
    else if w.load st < 128 then w.remake n st
    else w := by
  have hcan : w.recallable n st = decide (w.load st < 128) := by
    rw [Work.recallable, List.contains_iff_mem.2 hn, Bool.true_and]
    rfl
  unfold Work.recallArrives
  rw [if_pos (List.contains_iff_mem.2 hn), hk]
  simp only [hcan, decide_eq_true_eq]

theorem Work.recallArrives_remakes (hplain : ¬ (k.kind = .normal ∧ k.linked = true)) (hroom : w.load st < 128) :
    (w.recallArrives st n).ticket? n = some { k with
      state := .shown, remake := true, check := none, entries := k.entries.map fun e => { e with line := none } } ∧
    n ∈ ((w.recallArrives st n).station st).shown ∧ n ∉ ((w.recallArrives st n).station st).recallL := by
  rw [Work.recallArrives_acts hn hk, if_neg hplain, if_pos hroom]
  refine ⟨Work.remake_ticket? hk, ?_, ?_⟩
  · rw [Work.remake_station]
    simp
  · rw [Work.remake_station]
    simp [Station.without]

end

end

/-! ### The commands -/

section
variable {s : State} {st : StationId} {cs : List PortChar} (hw : s.portWorks st = true)
  (hl : s.ports[st].link = .up)
include hw hl

theorem exec_taken_acts {x : Slot} (hcs : readPort cs = [.frame (.taken x)]) :
    exec (.taken st cs) s = .next ((s.heard st).doWork (Work.taken st x)) :=
  congrArg Host.Outcome.next (State.onFrame_acts hw hl hcs rfl)

theorem exec_bump_acts {n : Nat} (hcs : readPort cs = [.frame (.bump n)]) :
    exec (.bump st cs) s = .next ((s.heard st).doWork (Work.bump st n)) :=
  congrArg Host.Outcome.next (State.onFrame_acts hw hl hcs rfl)

theorem exec_recallFrame_acts {n : Nat} (hcs : readPort cs = [.frame (.recallOf n)]) :
    exec (.recallFrame st cs) s = .next ((s.heard st).doWork (Work.recallArrives st n)) :=
  congrArg Host.Outcome.next (State.onFrame_acts hw hl hcs rfl)

end

/-- What a piece of work leaves of the kitchen and the ports is what it made of them. -/
theorem State.doWork_place (f : Work → Work) (s : State) :
    (∀ n, lookupBy Ticket.number n (s.doWork f).kr.tickets = (f s.work).ticket? n) ∧
      (∀ st : StationId, (s.doWork f).kr.stations[st] = (f s.work).station st) ∧
      ∀ st : StationId, (s.doWork f).ports[st] = (f s.work).port st := by
  rw [State.doWork, State.commit_kr, State.commit_ports]
  exact ⟨fun _ => rfl, fun _ => rfl, fun _ => rfl⟩

section
variable {s : State} {st : StationId} {cs : List PortChar} {x : Slot} {z : OutSlot} {k : Ticket}
  (hw : s.portWorks st = true) (hl : s.ports[st].link = .up) (hcs : readPort cs = [.frame (.taken x)])
  (hz : s.ports[st].slot x = some z)
  (hended : z.ended = true) (hmarked : z.marked = false) (hk : lookupBy Ticket.number z.ticket s.kr.tickets = some k)
include hw hl hcs hz hended hmarked hk

theorem exec_taken_display (hdisplay : s.kr.stations[st].cfg.kind ≠ .print) :
    ∃ (t : State) (k' : Ticket), exec (.taken st cs) s = .next t ∧
      t.ports[st].slot x = none ∧ lookupBy Ticket.number z.ticket t.kr.tickets = some k' ∧
      k' = { k with state := .shown } ∧ z.ticket ∈ t.kr.stations[st].shown := by
  obtain ⟨hslot, hticket, hshown⟩ := Work.taken_shows (w := (s.heard st).work) ((s.heard_slot st x).trans hz) hended
    hmarked ((s.heard_ticket? st _).trans hk) (by rwa [State.heard_station])
  obtain ⟨htickets, hstations, hports⟩ := State.doWork_place (Work.taken st x) (s.heard st)
  exact ⟨_, _, exec_taken_acts hw hl hcs, by rwa [hports], by rwa [htickets], rfl, by rwa [hstations]⟩

theorem exec_taken_unlinked (hst : k.station = st) (hprint : s.kr.stations[st].cfg.kind = .print)
    (hlinked : k.linked = false) : ∃ t : State, exec (.taken st cs) s = .next t ∧
      t.ports[st].slot x = none ∧ lookupBy Ticket.number z.ticket t.kr.tickets = none := by
  obtain ⟨hslot, hticket⟩ := Work.taken_frees (w := (s.heard st).work) ((s.heard_slot st x).trans hz) hended
    hmarked ((s.heard_ticket? st _).trans hk) hst (by rwa [State.heard_station]) hlinked
  obtain ⟨htickets, -, hports⟩ := State.doWork_place (Work.taken st x) (s.heard st)
  exact ⟨_, exec_taken_acts hw hl hcs, by rwa [hports], by rwa [htickets]⟩

theorem exec_taken_linked (hprint : s.kr.stations[st].cfg.kind = .print) (hlinked : k.linked = true) :
    exec (.taken st cs) s = .next { s.heard st with
      ports := (s.heard st).ports.set st
        ((s.heard st).ports[st].setSlot x (some { z with marked := true, timer := none }))
      kr := { s.kr with completions :=
        s.kr.completions ++ [{ ticket := k.number, station := st, via := .slot x }] } } := by
  have hacts := Work.taken_acts (w := (s.heard st).work) ((s.heard_slot st x).trans hz) hended hmarked
    ((s.heard_ticket? st _).trans hk)
  rw [if_pos (by rwa [State.heard_station]), if_pos hlinked] at hacts
  rw [exec_taken_acts hw hl hcs, State.doWork, hacts, State.commit_silent rfl, ← State.heard_kr s st]
  rfl

end

section
variable {s : State} {st : StationId} {cs : List PortChar} {n : Nat} {k : Ticket}
  (hw : s.portWorks st = true) (hl : s.ports[st].link = .up) (hk : lookupBy Ticket.number n s.kr.tickets = some k)
include hw hl hk

section
variable (hcs : readPort cs = [.frame (.bump n)]) (hn : n ∈ s.kr.stations[st].shown)
include hcs hn

theorem exec_bump_linked (hlinked : k.linked = true) (hfree : ∀ o ∈ s.kr.completions, o.ticket ≠ n) :
    exec (.bump st cs) s = .next { s.heard st with kr := { s.kr with
      completions := s.kr.completions ++ [{ ticket := n, station := st, via := .bump }] } } := by
  rw [exec_bump_acts hw hl hcs, State.doWork, Work.bump_offers (k := k) (by rwa [State.heard_station])
    ((s.heard_ticket? st n).trans hk) hlinked (by rwa [State.work_kr, State.heard_kr]), State.commit_silent rfl,
    ← State.heard_kr s st]
  rfl

theorem exec_bump_frees (hst : k.station = st) (hlinked : k.linked = false) (hgone : k.kind = .void ∨ k.remake = true) :
    ∃ t : State, exec (.bump st cs) s = .next t ∧
      lookupBy Ticket.number n t.kr.tickets = none ∧ n ∉ t.kr.stations[st].shown := by
  obtain ⟨hticket, hshown⟩ := Work.bump_frees (w := (s.heard st).work) (by rwa [State.heard_station])
    ((s.heard_ticket? st n).trans hk) hst hlinked hgone
  obtain ⟨htickets, hstations, -⟩ := State.doWork_place (Work.bump st n) (s.heard st)
  exact ⟨_, exec_bump_acts hw hl hcs, by rwa [htickets], by rwa [hstations]⟩

theorem exec_bump_lists (hst : k.station = st) (hlinked : k.linked = false)
    (hstays : ¬ (k.kind = .void ∨ k.remake = true)) :
    ∃ t : State, exec (.bump st cs) s = .next t ∧
      t.kr.stations[st].recallL.head? = some n ∧ n ∉ t.kr.stations[st].shown := by
  obtain ⟨hlist, hshown⟩ := Work.bump_lists (w := (s.heard st).work) (by rwa [State.heard_station])
    ((s.heard_ticket? st n).trans hk) hst hlinked hstays
  obtain ⟨-, hstations, -⟩ := State.doWork_place (Work.bump st n) (s.heard st)
  exact ⟨_, exec_bump_acts hw hl hcs, by rwa [hstations], by rwa [hstations]⟩

end

section
variable (hcs : readPort cs = [.frame (.recallOf n)]) (hn : n ∈ s.kr.stations[st].recallL)
include hcs hn

theorem exec_recallFrame_linked (hkind : k.kind = .normal) (hlinked : k.linked = true) :
    exec (.recallFrame st cs) s = .next { s.heard st with kr := { s.kr with
      recalls := s.kr.recalls ++ [{ ticket := n, station := st }] } } := by
  rw [exec_recallFrame_acts hw hl hcs, State.doWork, Work.recallArrives_acts (k := k) (by rwa [State.heard_station])
    ((s.heard_ticket? st n).trans hk), if_pos ⟨hkind, hlinked⟩, State.commit_silent rfl, ← State.heard_kr s st]
  rfl

theorem exec_recallFrame_full (hplain : ¬ (k.kind = .normal ∧ k.linked = true)) (hfull : 128 ≤ s.loadOf st) :
    exec (.recallFrame st cs) s = .next (s.heard st) := by
  refine (exec_recallFrame_acts hw hl hcs).trans (congrArg Host.Outcome.next (State.doWork_idle ?_))
  rw [Work.recallArrives_acts (k := k) (by rwa [State.heard_station]) ((s.heard_ticket? st n).trans hk),
    if_neg hplain, State.heard_load, if_neg (Nat.not_lt.2 hfull)]

theorem exec_recallFrame_remakes (hplain : ¬ (k.kind = .normal ∧ k.linked = true)) (hroom : s.loadOf st < 128) :
    ∃ t : State, exec (.recallFrame st cs) s = .next t ∧
      lookupBy Ticket.number n t.kr.tickets = some { k with
        state := .shown, remake := true, check := none, entries := k.entries.map fun e => { e with line := none } } ∧
      n ∈ t.kr.stations[st].shown ∧ n ∉ t.kr.stations[st].recallL := by
  obtain ⟨hticket, hshown, hlist⟩ := Work.recallArrives_remakes (w := (s.heard st).work) (by rwa [State.heard_station])
    ((s.heard_ticket? st n).trans hk) hplain (by rwa [State.heard_load])
  obtain ⟨htickets, hstations, -⟩ := State.doWork_place (Work.recallArrives st n) (s.heard st)
  exact ⟨_, exec_recallFrame_acts hw hl hcs, by rwa [htickets], by rwa [hstations], by rwa [hstations]⟩

end

end

/-- Settles O48: a frame at an UP port is heard and then acts, case by case on the ticket it names. -/
theorem stationFramesActOnTickets : Obligations.StationFramesActOnTickets := by
  intro s st cs hpart hloaded hl
  have hw := State.portWorks_of hpart hloaded
  have hlinked (k : Ticket) : (k.kind ≠ .void ∧ k.check.isSome ∧ k.remake = false) ↔ k.linked = true :=
    Ticket.linked_iff.symm
  simp only [hlinked, Bool.not_eq_true]
  refine ⟨fun x hcs => ⟨fun hz => ?_, fun z hz hdone => ?_, fun z k hz hended hmarked hk hst =>
      ⟨exec_taken_display hw hl hcs hz hended hmarked hk, fun hprint hlinked => ?_,
        exec_taken_unlinked hw hl hcs hz hended hmarked hk hst⟩⟩,
    fun n hcs => ⟨fun hn => ?_, fun k hn hk hst => ⟨exec_bump_linked hw hl hk hcs hn, fun hgone => ?_,
      fun hkind hremake hcheck => ?_⟩⟩,
    fun n hcs => ⟨fun hn => ?_, fun k hn hk hst => ⟨exec_recallFrame_linked hw hl hk hcs hn,
      fun hplain => ?_⟩⟩⟩
  · exact (exec_taken_acts hw hl hcs).trans (congrArg Host.Outcome.next (State.doWork_idle
      (Work.taken_idle (.inl ((s.heard_slot st x).trans hz)))))
  · exact (exec_taken_acts hw hl hcs).trans (congrArg Host.Outcome.next (State.doWork_idle
      (Work.taken_idle (.inr ⟨z, (s.heard_slot st x).trans hz, hdone⟩))))
  · have h := exec_taken_linked hw hl hcs hz hended hmarked hk hprint hlinked
    cases x <;> exact h
  · exact (exec_bump_acts hw hl hcs).trans (congrArg Host.Outcome.next (State.doWork_idle
      (Work.bump_idle (by rwa [State.heard_station]))))
  · refine exec_bump_frees hw hl hk hcs hn hst ?_ hgone
    rcases hgone with hvoid | hremake
    · simp [Ticket.linked, hvoid]
    · simp [Ticket.linked, hremake]
  · exact exec_bump_lists hw hl hk hcs hn hst (by simp [Ticket.linked, hcheck]) (by simp [hkind, hremake])
  · exact (exec_recallFrame_acts hw hl hcs).trans (congrArg Host.Outcome.next (State.doWork_idle
      (Work.recallArrives_idle (by rwa [State.heard_station]))))
  · have hplain' : ¬ (k.kind = .normal ∧ k.linked = true) := by
      rintro ⟨hkind, hlinked⟩
      simp [hkind, hlinked] at hplain
    exact ⟨exec_recallFrame_full hw hl hk hcs hn hplain', exec_recallFrame_remakes hw hl hk hcs hn hplain'⟩

end Sys2Proof.Machine
end

section
/-! PROOFS. An UP station goes DOWN or OFF (R119, R122, R127 to R129, R132, R135, R136, R138). -/
namespace Sys2Proof.Machine

/-! ### What a piece of work sends, carried out (R41, R159) -/

/-- What an effect puts on a wire. -/
def Effect.wired : Effect → List Output
  | .output o => [o]
  | _ => []

/-- The events of an effect. -/
def Effect.events : Effect → List Event
  | .event e => [e]
  | _ => []

/-- An effect that is an event or goes out on a wire. -/
def Effect.plain : Effect → Bool
  | .event _ | .output _ => true
  | _ => false

theorem State.post_out (t : TillId) (n : Notice) (s : State) : (s.post t n).out = s.out := rfl

theorem State.apply_out_eq (e : Effect) (s : State) : (s.apply e).out = s.out ++ e.wired := by
  cases e with
  | event e => simp [State.apply, Effect.wired]
  | notice t n => simp [State.apply, Effect.wired, State.post_out]
  | authRequest r => simp [State.apply, Effect.wired]
  | output o => rfl

theorem State.applyAll_out (es : List Effect) (s : State) :
    (es.foldl State.apply s).out = s.out ++ es.flatMap Effect.wired := by
  induction es generalizing s with
  | nil => simp
  | cons e es ih => rw [List.foldl_cons, ih, State.apply_out_eq, List.flatMap_cons, List.append_assoc]

/-- Raising an event depends on the uplink and the clock alone. -/
theorem State.raise_upc_congr {s t : State} (hu : s.upc = t.upc) (hc : s.clock = t.clock) (e : Event) :
    (s.raise e).upc = (t.raise e).upc := by
  unfold State.raise State.handOver
  rw [hu, hc]
  split
  · split
    · rfl
    · exact hu
  · exact hu

theorem State.raiseAll_upc_congr {s t : State} (hu : s.upc = t.upc) (hc : s.clock = t.clock) (es : List Event) :
    (es.foldl (fun (u : State) e => u.raise e) s).upc = (es.foldl (fun (u : State) e => u.raise e) t).upc := by
  induction es generalizing s t with
  | nil => exact hu
  | cons e es ih => exact ih (State.raise_upc_congr hu hc e) (by simpa using hc)

theorem State.applyAll_upc {es : List Effect} (h : es.all Effect.plain = true) (s : State) :
    (es.foldl State.apply s).upc = ((es.flatMap Effect.events).foldl (fun (u : State) e => u.raise e) s).upc := by
  induction es generalizing s with
  | nil => rfl
  | cons e es ih =>
    rw [List.all_cons, Bool.and_eq_true] at h
    rw [List.foldl_cons, ih h.2]
    cases e with
    | event e => rfl
    | output o => exact State.raiseAll_upc_congr (s := s.send o) (t := s) rfl rfl _
    | notice t n => cases h.1
    | authRequest r => cases h.1

theorem State.commit_out_eq (w : Work) (s : State) : (s.commit w).out = s.out ++ w.fx.flatMap Effect.wired :=
  State.applyAll_out w.fx (s.putWork w)

theorem State.commit_upc_eq {w : Work} (h : w.fx.all Effect.plain = true) (s : State) :
    (s.commit w).upc = ((w.fx.flatMap Effect.events).foldl (fun (u : State) e => u.raise e) s).upc :=
  (State.applyAll_upc h (s.putWork w)).trans (State.raiseAll_upc_congr (s := s.putWork w) (t := s) rfl rfl _)

/-! ### A piece of work about to take a station down -/

/-- A piece of work on a state, of which no more than the hold flag and the fault code of a port have changed. -/
structure State.Staged (s : State) (st : StationId) (fault : Option Nat) (u : Work) : Prop where
  kr    : u.kr = s.kr
  fx    : u.fx = []
  ports : ∃ h t, u.ports = modify s.ports st fun p =>
    { p with hold := h, holdTimer := t, lastFault := fault.or p.lastFault }

theorem State.Staged.start (s : State) (st : StationId) : s.Staged st none s.work :=
  ⟨rfl, rfl, _, _, (set_get_self s.ports st).symm⟩

theorem State.Staged.heard (s : State) (st : StationId) : s.Staged st none (s.heard st).work := by
  unfold State.heard
  simp only
  split
  · exact ⟨rfl, rfl, _, _, rfl⟩
  · exact .start s st

theorem State.Staged.fault {s : State} {st : StationId} {u : Work} (h : s.Staged st none u) (code : Nat) :
    s.Staged st (some code) (u.recordFault st code) := by
  obtain ⟨hkr, hfx, hold, timer, hports⟩ := h
  refine ⟨hkr, hfx, hold, timer, ?_⟩
  exact (congrArg (fun v => modify v st fun p : Port => { p with lastFault := some code }) hports).trans
    (modify_comp _ _ _ _)

section
variable {s : State} {st : StationId} {fault : Option Nat} {u : Work} (h : s.Staged st fault u)
include h

theorem State.Staged.station (x : StationId) : u.station x = s.kr.stations[x] := by
  rw [Work.station, h.kr]

theorem State.Staged.port (x : StationId) : ∃ hold timer last, u.port x =
    { s.ports[x] with hold := hold, holdTimer := timer, lastFault := last } := by
  obtain ⟨-, -, hold, timer, hports⟩ := h
  unfold Work.port
  rw [hports]
  by_cases hx : x = st
  · subst hx
    exact ⟨_, _, _, modify_self _ _ _⟩
  · exact ⟨_, _, _, modify_other _ _ _ _ hx⟩

theorem State.Staged.backlog (x : StationId) : u.backlog x = s.backlogOf x := by
  obtain ⟨hold, timer, last, hp⟩ := h.port x
  rw [← State.work_backlog, Work.backlog, Work.backlog, h.station, hp]
  rfl

theorem State.Staged.load (x : StationId) : u.load x = s.loadOf x := by
  rw [← State.work_load, Work.load, Work.load, h.kr]
  rfl

theorem State.Staged.link (x : StationId) : (u.port x).link = s.ports[x].link := by
  obtain ⟨hold, timer, last, hp⟩ := h.port x
  rw [hp]

theorem State.Staged.sending : (u.port st).sending = s.ports[st].sending := by
  obtain ⟨hold, timer, last, hp⟩ := h.port st
  rw [hp]
  rfl

theorem State.Staged.lastFault : (u.port st).lastFault = fault.or s.ports[st].lastFault := by
  obtain ⟨-, -, hold, timer, hports⟩ := h
  rw [Work.port, hports, modify_self]

theorem State.Staged.held : u.held st = s.heldAt st := by
  have hmap (o : Option OutSlot) : (o.map OutSlot.ticket).toList = o.toList.map OutSlot.ticket := by cases o <;> rfl
  obtain ⟨hold, timer, last, hp⟩ := h.port st
  rw [Work.held, h.station, hp, State.heldAt]
  unfold Port.sendingOrder
  simp only
  cases s.ports[st].mark <;> simp [Port.slot, hmap]

section
variable (hrise : Rising Ticket.number u.kr.tickets)
include hrise

theorem State.Staged.isVoid (n : Nat) : u.isVoid n = s.isVoid n := by
  rw [Bool.eq_iff_iff, Work.isVoid, State.isVoid, Option.any_eq_true, List.any_eq_true, ← h.kr]
  simp only [Bool.and_eq_true, decide_eq_true_iff, beq_iff_eq]
  constructor
  · rintro ⟨t, ht, hk⟩
    exact ⟨t, (lookupBy_some ht).1, (lookupBy_some ht).2, hk⟩
  · rintro ⟨t, ht, rfl, hk⟩
    exact ⟨t, lookupBy_of_mem hrise ht, hk⟩

theorem State.Staged.returned : u.returned st = s.queueBack st := by
  rw [Work.returned, State.queueBack, h.held, h.station]
  simp only [h.isVoid hrise]

theorem State.Staged.fitting : u.fitting st = s.fits st := by
  unfold Work.fitting State.fits
  rw [h.station]
  cases s.kr.stations[st].cfg.fallback with
  | none => rfl
  | some f => simp only [h.link, h.returned hrise, h.load]

theorem State.Staged.moved : u.moved st = (s.queueBack st).take (s.fits st) := by
  rw [Work.moved, h.returned hrise, h.fitting hrise]

theorem State.Staged.left : u.left st = (s.queueBack st).drop (s.fits st) := by
  rw [Work.left, h.returned hrise, h.fitting hrise]

end

end

/-! ### What a station's going down leaves (R122, R128, R138) -/

theorem Ticket.requeue_of_queued {ns : List Nat} {t : Ticket} (h : (t.requeue ns).state = .queued) :
    t.requeue ns = { t with state := .queued } := by
  unfold Ticket.requeue at h ⊢
  split
  · rfl
  · rename_i hn
    rw [if_neg hn] at h
    rw [← h]

section
variable {w v : Work} {st : StationId} {k : Ticket} (hv : Work.Downed st w v) (h : w.Placed)
  (hrise : Rising Ticket.number w.kr.tickets) (hk : k ∈ w.kr.tickets)
include hv

include h in
theorem Work.Downed.numbers : v.kr.tickets.map Ticket.number = (w.kr.tickets.map Ticket.number).filter
    fun n => decide (n ∉ w.stood st) || decide (n ∈ w.moved st ++ w.left st) := by
  rw [hv.tickets, List.map_map, List.map_map, List.filter_map, w.moved_append_left]
  have hnumber : (Ticket.number ∘ Ticket.relocate (w.moved st) ((w.station st).cfg.fallback.getD st)) ∘
      Ticket.requeue (w.held st) = Ticket.number := by
    funext t
    simp
  rw [hnumber]
  congr 2
  funext t
  rw [Bool.eq_iff_iff, decide_eq_true_iff, h.not_gone_iff]
  simp

include hk

theorem Work.Downed.mem_of_kept (hn : k.number ∉ w.gone st) :
    (k.requeue (w.held st)).relocate (w.moved st) ((w.station st).cfg.fallback.getD st) ∈ v.kr.tickets := by
  rw [hv.tickets]
  exact List.mem_map_of_mem (List.mem_map_of_mem (List.mem_filter.2 ⟨hk, decide_eq_true hn⟩))

theorem Work.Downed.mem_of_elsewhere (hn : k.number ∉ w.stood st) : k ∈ v.kr.tickets := by
  have hmem := hv.mem_of_kept hk fun hg => hn (Work.mem_stood_iff.2 (.inl hg))
  have hheld : k.number ∉ w.held st := fun hh => hn (by simp [Work.stood, hh])
  have hmoved : k.number ∉ w.moved st := fun hm => hn (Work.mem_stood_iff.2 (.inr (List.mem_of_mem_take hm)))
  rwa [Ticket.requeue, if_neg hheld, Ticket.relocate, if_neg hmoved] at hmem

include h hrise

theorem Work.Downed.mem_of_returned (hn : k.number ∈ w.returned st) :
    ({ k with state := .queued } : Ticket).relocate (w.moved st) ((w.station st).cfg.fallback.getD st) ∈
      v.kr.tickets := by
  obtain ⟨t, ht, -, -, hstate⟩ := h.returned_live hn
  cases (lookupBy_of_mem hrise hk).symm.trans ht
  have hmem := hv.mem_of_kept hk (h.returned_not_gone hn)
  rwa [Ticket.requeue_of_queued hstate] at hmem

theorem Work.Downed.mem_of_left (hn : k.number ∈ w.left st) : { k with state := .queued } ∈ v.kr.tickets := by
  have hmem := hv.mem_of_returned h hrise hk (List.mem_of_mem_drop hn)
  have hnodup := h.returned_nodup st
  rw [← w.moved_append_left st] at hnodup
  have hmoved : k.number ∉ w.moved st := fun hm => (List.nodup_append.1 hnodup).2.2 _ hm _ hn rfl
  rwa [Ticket.relocate, if_neg hmoved] at hmem

theorem Work.Downed.mem_of_moved {f : StationId} (hf : (w.station st).cfg.fallback = some f)
    (hn : k.number ∈ w.moved st) : { k with state := .queued, station := f } ∈ v.kr.tickets := by
  have hmem := hv.mem_of_returned h hrise hk (List.mem_of_mem_take hn)
  rw [hf] at hmem
  rwa [Ticket.relocate, if_pos hn] at hmem

end

section
variable (w : Work) (st : StationId) (cause : DownCause)

theorem Work.downEffects_plain : (w.downEffects st cause).all Effect.plain = true := by
  unfold Work.downEffects
  simp only [List.all_append, Bool.and_eq_true]
  refine ⟨⟨⟨?_, ?_⟩, rfl⟩, ?_⟩
  · split <;> rfl
  · exact List.all_eq_true.2 fun e he => by
      obtain ⟨x, -, rfl⟩ := List.mem_map.1 he
      rfl
  · split <;> rfl

theorem flatMap_wired_event (es : List Event) : (es.map Effect.event).flatMap Effect.wired = [] := by
  simp [List.flatMap_map, Effect.wired]

theorem flatMap_events_event (es : List Event) : (es.map Effect.event).flatMap Effect.events = es := by
  simp [List.flatMap_map, Effect.events]

theorem Work.downEffects_wired : (w.downEffects st cause).flatMap Effect.wired =
    (if (w.port st).sending then [.ticketCut st] else []) ++
      if cause = .restart then [.probe st (probeFrame st)] else [] := by
  unfold Work.downEffects
  rw [List.flatMap_append, List.flatMap_append, List.flatMap_append, flatMap_wired_event]
  congr 1
  · split <;> rfl
  · split <;> rfl

theorem Work.downEffects_events : (w.downEffects st cause).flatMap Effect.events =
    w.downTurns st ++ [.stationDown st cause (if cause = .fault then (w.port st).lastFault else none)
      (w.station st).cfg.fallback (w.moved st).length (w.left st).length] := by
  unfold Work.downEffects
  rw [List.flatMap_append, List.flatMap_append, List.flatMap_append, flatMap_events_event]
  have hcut : (if (w.port st).sending then [Effect.output (.ticketCut st)] else []).flatMap Effect.events = [] := by
    split <;> rfl
  have hprobe : (if cause = .restart then [Effect.output (.probe st (probeFrame st))] else []).flatMap
      Effect.events = [] := by
    split <;> rfl
  rw [hcut, hprobe, List.nil_append, List.append_nil]
  rfl

end

/-- A station taken down by a piece of work has gone down as R122 and R128 say. -/
theorem State.Staged.wentDown {s : State} {st : StationId} {fault : Option Nat} {u : Work} (h : s.Staged st fault u)
    (ht : u.Tidy) {cause : DownCause} (hfault : cause = .fault → fault.isSome = true) :
    s.WentDown (s.commit (u.goDown st cause)) st cause fault := by
  have hrise := ht.fits.rising
  obtain ⟨hdown, hports, hfx⟩ := ht.placed.goDown hrise st cause
  obtain ⟨here, fallback, elsewhere, -, completions, recalls⟩ := id hdown
  have hstood : u.stood st = s.heldAt st ++ s.kr.stations[st].normalQ ++ s.kr.stations[st].voidQ ++
      s.kr.stations[st].recallL := by
    rw [Work.stood, h.held, h.station]
  have hkeeps (n : Nat) : u.keepsOffers st n = (decide (n ∉ u.stood st) ||
      decide (n ∈ s.kr.stations[st].normalQ) && !s.isVoid n) := by
    rw [Work.keepsOffers, h.station, h.isVoid hrise]
  have hnumbers := hdown.numbers ht.placed
  rw [h.fx, List.nil_append] at hfx
  have hcode : (if cause = .fault then (u.port st).lastFault else none) = if cause = .fault then fault else none := by
    split
    · rename_i hc
      obtain ⟨c, rfl⟩ := Option.isSome_iff_exists.1 (hfault hc)
      rw [h.lastFault]
      rfl
    · rfl
  have hturns : u.downTurns st = s.kr.stations[st].turnEvents st (u.left st).length ++
      match s.kr.stations[st].cfg.fallback with
      | some f => s.kr.stations[f].turnEvents f (s.backlogOf f + (u.moved st).length)
      | none => [] := by
    unfold Work.downTurns
    rw [h.station]
    cases s.kr.stations[st].cfg.fallback with
    | none => rfl
    | some f => simp only [h.station, h.backlog]
  have hevents := u.downEffects_events st cause
  rw [hcode, hturns, h.station, ← hfx] at hevents
  simp only [h.station, h.kr, h.backlog, hkeeps] at here fallback elsewhere completions recalls hnumbers
  have hstation (x : StationId) : (s.commit (u.goDown st cause)).kr.stations[x] = (u.goDown st cause).station x := by
    rw [State.commit_kr]
    rfl
  unfold State.WentDown
  simp only [← h.moved hrise, ← h.left hrise, ← hstood, State.commit_kr, State.commit_ports]
  refine ⟨?_, here, fun f hf => ⟨elsewhere f hf, fallback f⟩, fun k hk => ⟨?_, ?_, fun f hf => ?_⟩, hnumbers,
    completions, recalls, ?_, ?_⟩
  · obtain ⟨-, -, hold, timer, hp⟩ := h
    rw [hports, hp, modify_comp]
    rfl
  · exact hdown.mem_of_elsewhere (h.kr ▸ hk)
  · exact hdown.mem_of_left ht.placed hrise (h.kr ▸ hk)
  · exact hdown.mem_of_moved ht.placed hrise (h.kr ▸ hk) ((congrArg (·.cfg.fallback) (h.station st)).trans hf)
  · exact (State.commit_upc_eq (hfx ▸ u.downEffects_plain st cause) s).trans
      (congrArg (fun es : List Event => (es.foldl (fun (u : State) e => u.raise e) s).upc) hevents)
  · rw [State.commit_out_eq, hfx, u.downEffects_wired, h.sending, List.append_assoc]

/-! ### The commands -/

theorem State.QueuesBounded.tidy_heard {s : State} (h : s.QueuesBounded) (hs : s.TicketsPlaced) (st : StationId) :
    (s.heard st).work.Tidy := by
  rw [State.heard_work]
  exact Work.goAny_tidies st _ (h.tidy hs)

theorem State.doWork_heard (g : Work → Work) (s : State) (st : StationId) :
    (s.heard st).doWork g = s.commit (g (s.heard st).work) := by
  rw [State.doWork, State.commit, State.commit, State.heard_putWork]

section
variable {s : State} {st : StationId}

theorem exec_takenTimeout_idle (h : s.ports[st].hold = true) (x : Slot) : exec (.takenTimeout st x) s = .next s := by
  refine congrArg Host.Outcome.next (State.atPort_same (if_neg fun hc => ?_))
  exact Bool.false_ne_true (hc.1.symm.trans h)

theorem exec_holdLimit_idle {w : Timer} (hw : s.ports[st].holdTimer = some w) (h : w.elapsed < w.limit) :
    exec (.holdLimit st) s = .next s := by
  refine congrArg Host.Outcome.next (State.atPort_same (if_neg fun hc => ?_))
  have hdue := hc.2
  rw [Work.port, State.work_ports, hw] at hdue
  exact absurd (of_decide_eq_true hdue) (Nat.not_le.2 h)

variable (hw : s.portWorks st = true) (hup : s.ports[st].link = .up)
include hw hup

theorem exec_takenTimeout_down {x : Slot} {z : OutSlot} {w : Timer} (hhold : s.ports[st].hold = false)
    (hz : s.ports[st].slot x = some z) (ht : z.timer = some w) (hdue : w.limit ≤ w.elapsed) :
    exec (.takenTimeout st x) s = .next (s.commit (s.work.goDown st .takenTimeout)) := by
  refine congrArg Host.Outcome.next ((State.atPort_works hw (by rw [hup]; rfl)).trans ?_)
  rw [State.doWork]
  refine congrArg (State.commit · s) (if_pos ⟨hhold, ?_⟩)
  rw [Work.port, State.work_ports, hz, Option.any_some, ht]
  exact decide_eq_true hdue

theorem exec_holdLimit_down {w : Timer} (hhold : s.ports[st].hold = true) (ht : s.ports[st].holdTimer = some w)
    (hdue : w.limit ≤ w.elapsed) : exec (.holdLimit st) s = .next (s.commit (s.work.goDown st .holdLimit)) := by
  refine congrArg Host.Outcome.next ((State.atPort_works hw (by rw [hup]; rfl)).trans ?_)
  rw [State.doWork]
  refine congrArg (State.commit · s) (if_pos ⟨hhold, ?_⟩)
  rw [Work.port, State.work_ports, ht]
  exact decide_eq_true hdue

theorem exec_fault_down {cs : List PortChar} {code : Nat} (hcs : readPort cs = [.frame (.fault code)]) :
    exec (.fault st cs) s = .next (s.commit (((s.heard st).work.recordFault st code).goDown st .fault)) := by
  have hacts : exec (.fault st cs) s =
      .next ((s.heard st).doWork fun w => (w.recordFault st code).goDown st .fault) :=
    congrArg Host.Outcome.next (State.onFrame_acts hw hup hcs rfl)
  rw [hacts, State.doWork_heard]

theorem exec_helloFrame_down {cs : List PortChar} {k : StationKind} (hcs : readPort cs = [.frame (.hello k)]) :
    exec (.helloFrame st cs) s = .next (s.commit ((s.heard st).work.goDown st .restart)) :=
  congrArg Host.Outcome.next ((State.onFrame_acts hw hup hcs rfl).trans (State.doWork_heard _ s st))

end

/-- OFF of a loaded UP station takes it down, and answers with the states before and after (R136). -/
theorem stationControl_off {st : StationId} {w : Work} (hl : (w.station st).cfg.loaded = true)
    (hup : (w.port st).link = .up) (hports : (w.goDown st .off).ports = modify w.ports st (Port.fallen .off)) :
    stationControl st.val 1 w =
      ({ result := .ok, operands := [.station (some st), .code 2, .code 3, .flag false] }, w.goDown st .off) := by
  have hact : w.act st .off = w.goDown st .off := by
    unfold Work.act
    rw [hup]
  have hport : (w.goDown st .off).port st = (w.port st).fallen .off := by
    rw [Work.port, hports, modify_self]
    rfl
  unfold stationControl
  rw [stationOf_val]
  simp only [actionOf, if_true, hl, hact, hport, hup]
  rfl

theorem exec_stationControl_off {s : State} {st : StationId} {tag : Nat} (hl : s.kr.stations[st].cfg.loaded = true)
    (hup : s.ports[st].link = .up) (ht : s.work.Tidy) (h : s.nextBlock = some (tag, .stationControl st.val 1)) :
    exec .stationControl s = .next ((s.commit (s.work.goDown st .off)).finishBlock { result := .ok, operands :=
      [.station (some st), .code 2, .code 3, .flag false] }) := by
  have hoff := stationControl_off (w := s.work) hl hup (ht.placed.goDown ht.fits.rising st .off).2.1
  refine congrArg Host.Outcome.next ((State.block_work h rfl).trans ?_)
  rw [hoff]

/-- Settles O50: all five ways down are one piece of work, `State.Staged.wentDown`. -/
theorem stationsGoDown : Obligations.StationsGoDown := by
  intro s st hq hs hpart hl hup
  have hw := State.portWorks_of hpart hl
  have ht := hq.tidy hs
  have hheard := hq.tidy_heard hs st
  refine ⟨fun x z w hhold hz htimer hdue => ⟨_, exec_takenTimeout_down hw hup hhold hz htimer hdue, ?_⟩,
    fun cs code hcs => ⟨_, exec_fault_down hw hup hcs, ?_⟩,
    fun w hhold htimer hdue => ⟨_, exec_holdLimit_down hw hup hhold htimer hdue, ?_⟩,
    fun cs k hcs => ⟨_, exec_helloFrame_down hw hup hcs, ?_⟩,
    fun tag h => ⟨_, exec_stationControl_off hl hup ht h, ?_⟩,
    fun hhold x => exec_takenTimeout_idle hhold x, fun w htimer hlt => exec_holdLimit_idle htimer hlt⟩
  · exact (State.Staged.start s st).wentDown ht (fun h => by cases h)
  · exact ((State.Staged.heard s st).fault code).wentDown (Work.recordFault_tidies st code _ hheard) fun _ => rfl
  · exact (State.Staged.start s st).wentDown ht (fun h => by cases h)
  · exact (State.Staged.heard s st).wentDown hheard (fun h => by cases h)
  · exact (State.Staged.start s st).wentDown ht (fun h => by cases h)

end Sys2Proof.Machine
end

section
/-! PROOFS. A try of the Fire Backlog (R104 to R106, R108). -/
namespace Sys2Proof.Machine

/-! ### One NORMAL ticket (R105) -/

/-- A line that goes out with a NORMAL ticket, when it is among the ticket's lines. -/
def Line.sentOn (asm : Option (Nat × List Nat)) (n : Nat) (g : List Line) (l : Line) : Line :=
  if l.index ∈ g.map Line.index then
    { l with state := .fired, ticket := some n, assembly := (gatheredIn asm l).or l.assembly }
  else l

@[simp] theorem Line.sentOn_index (asm : Option (Nat × List Nat)) (n : Nat) (g : List Line) (l : Line) :
    (l.sentOn asm n g).index = l.index := by
  unfold Line.sentOn
  split <;> rfl

theorem Work.divertTest_ce (st : StationId) (w : Work) : (w.divertTest st).ce = w.ce := by
  rw [Work.divertTest_eq]
  rfl

theorem Work.divertTest_now (st : StationId) (w : Work) : (w.divertTest st).now = w.now := by
  rw [Work.divertTest_eq]
  rfl

section
variable (c : Check) (asm : Option (Nat × List Nat)) (n : Nat) (st : StationId) (g : List Line) (w : Work)

theorem Work.makeNormal_ticket?_self :
    (w.makeNormal c asm n st g).ticket? n = some (w.normalTicket c asm n st g) := by
  have hput : (w.putTicket (w.normalTicket c asm n st g)).ticket? n = some (w.normalTicket c asm n st g) :=
    (Work.putTicket_ticket? _ w n).trans (if_pos rfl)
  rw [Work.makeNormal_eq, Work.onCheck_ticket?, Work.queueNormal, Work.divertTest_ticket?, Work.onStation_ticket?,
    Work.onTicket_ticket? (fun _ => by rfl), if_pos rfl, hput]
  rfl

theorem Work.makeNormal_length (h : w.ticket? n = none) :
    (w.makeNormal c asm n st g).kr.tickets.length = w.kr.tickets.length + 1 := by
  rw [Work.makeNormal_eq, Work.onCheck_kr, Work.queueNormal, Work.divertTest_tickets]
  have hput := putBy_perm (key := Ticket.number) (x := w.normalTicket c asm n st g) (l := w.kr.tickets)
    (lookupBy_eq_none_iff.1 h)
  simpa using hput.length_eq

theorem Work.makeNormal_ports : (w.makeNormal c asm n st g).ports = w.ports := by
  rw [Work.makeNormal_eq, Work.onCheck_ports, Work.queueNormal, Work.divertTest_ports]
  rfl

theorem Work.makeNormal_now : (w.makeNormal c asm n st g).now = w.now := by
  rw [Work.makeNormal_eq, Work.onCheck_now, Work.queueNormal, Work.divertTest_now]
  rfl

theorem Work.makeNormal_ce : (w.makeNormal c asm n st g).ce =
    { w.ce with checks := (w.makeNormal c asm n st g).ce.checks } := by
  rw [Work.makeNormal_eq, Work.onCheck_ce, Work.queueNormal, Work.divertTest_ce]
  rfl

theorem Work.mem_makeNormal_queue (m : Nat) (s : StationId) :
    m ∈ ((w.makeNormal c asm n st g).station s).normalQ ↔ m ∈ (w.station s).normalQ ∨ s = st ∧ m = n := by
  rw [Work.makeNormal_eq, Work.station, Work.onCheck_kr]
  change m ∈ (((w.putTicket _).queueNormal n st).station s).normalQ ↔ _
  rw [Work.queueNormal, Work.divertTest_station, Work.onStation_station, Work.onStation_station, if_pos rfl]
  by_cases hs : s = st
  · subst hs
    simp
  · simp [hs]

theorem Work.makeNormal_check? {d : Check} (h : w.check? c.number = some d) :
    (w.makeNormal c asm n st g).check? c.number = some (d.mapLines (Line.sentOn asm n g)) := by
  rw [Work.makeNormal_eq, Check.onLines_index]
  refine Work.check?_onCheck_self (fun _ => rfl) ?_
  rw [Work.check?, Work.queueNormal, Work.divertTest_ce]
  exact h

end

/-! ### All NORMAL tickets of a firing (R105) -/

/-- NORMAL tickets, each with its number, its station and its lines, have been made for a check. -/
structure Work.Cooks (c : Check) (asm : Option (Nat × List Nat)) (xs : List (Nat × StationId × List Line))
    (w v : Work) : Prop where
  ce     : v.ce = { w.ce with checks := v.ce.checks }
  now    : v.now = w.now
  ports  : v.ports = w.ports
  size   : v.kr.tickets.length = w.kr.tickets.length + xs.length
  others : ∀ m, m ∉ xs.map Prod.fst → v.ticket? m = w.ticket? m
  made   : ∀ x ∈ xs, v.ticket? x.1 = some (w.normalTicket c asm x.1 x.2.1 x.2.2)
  stay   : ∀ m s, m ∈ (w.station s).normalQ → m ∈ (v.station s).normalQ
  queued : ∀ x ∈ xs, x.1 ∈ (v.station x.2.1).normalQ
  check  : ∀ d, w.check? c.number = some d → v.check? c.number =
    some (d.mapLines fun l => xs.foldl (fun l x => l.sentOn asm x.1 x.2.2) l)

theorem Work.makeNormals_cooks (c : Check) (asm : Option (Nat × List Nat)) {xs : List (Nat × StationId × List Line)}
    {w : Work} (hnodup : (xs.map Prod.fst).Nodup) (hfree : ∀ x ∈ xs, w.ticket? x.1 = none) :
    Work.Cooks c asm xs w (xs.foldl (fun w x => w.makeNormal c asm x.1 x.2.1 x.2.2) w) := by
  induction xs generalizing w with
  | nil => exact ⟨rfl, rfl, rfl, rfl, fun _ _ => rfl, nofun, fun _ _ h => h, nofun,
      fun d h => by rwa [← Check.mapLines_id d] at h⟩
  | cons x xs ih =>
    obtain ⟨n, st, g⟩ := x
    rw [List.map_cons, List.nodup_cons] at hnodup
    obtain ⟨hn, hfree⟩ := List.forall_mem_cons.1 hfree
    have hne {x : Nat × StationId × List Line} (hx : x ∈ xs) : x.1 ≠ n := fun e =>
      hnodup.1 (List.mem_map.2 ⟨x, hx, e⟩)
    obtain ⟨ce, now, ports, size, others, made, stay, queued, check⟩ :=
      ih (w := w.makeNormal c asm n st g) hnodup.2 fun x hx =>
        (Work.makeNormal_ticket?_other (hne hx) c asm st g w).trans (hfree x hx)
    rw [List.foldl_cons]
    refine ⟨?_, now.trans (Work.makeNormal_now c asm n st g w), ports.trans (Work.makeNormal_ports c asm n st g w),
      ?_, fun m hm => ?_, List.forall_mem_cons.2 ⟨?_, fun x hx => ?_⟩, fun m s hm => stay m s ?_,
      List.forall_mem_cons.2 ⟨stay _ _ ?_, queued⟩, fun d hd =>
        (check _ (Work.makeNormal_check? c asm n st g w hd)).trans (by rw [Check.mapLines_mapLines]; rfl)⟩
    · rw [ce, Work.makeNormal_ce]
    · rw [size, Work.makeNormal_length c asm n st g w hn, List.length_cons]
      omega
    · rw [List.map_cons, List.mem_cons, not_or] at hm
      exact (others m hm.2).trans (Work.makeNormal_ticket?_other hm.1 c asm st g w)
    · exact (others n hnodup.1).trans (Work.makeNormal_ticket?_self c asm n st g w)
    · rw [made x hx, Work.normalTicket, Work.makeNormal_now]
      rfl
    · exact (Work.mem_makeNormal_queue c asm n st g w m s).2 (.inl hm)
    · exact (Work.mem_makeNormal_queue c asm n st g w n st).2 (.inr ⟨rfl, rfl⟩)

/-- No two tickets carry lines of one index. -/
def Apart (gs : List (List Line)) : Prop := gs.Pairwise fun g h => ∀ i ∈ g.map Line.index, i ∉ h.map Line.index

theorem sentOn_none {asm : Option (Nat × List Nat)} {xs : List (Nat × StationId × List Line)} {l : Line}
    (h : ∀ x ∈ xs, l.index ∉ x.2.2.map Line.index) :
    xs.foldl (fun l x => l.sentOn asm x.1 x.2.2) l = l := by
  induction xs with
  | nil => rfl
  | cons x xs ih =>
    obtain ⟨hx, hxs⟩ := List.forall_mem_cons.1 h
    rw [List.foldl_cons, Line.sentOn, if_neg hx]
    exact ih hxs

theorem sentOn_one {asm : Option (Nat × List Nat)} {xs : List (Nat × StationId × List Line)} {l : Line}
    (hapart : Apart (xs.map fun x => x.2.2)) {x : Nat × StationId × List Line} (hx : x ∈ xs)
    (hl : l.index ∈ x.2.2.map Line.index) :
    xs.foldl (fun l x => l.sentOn asm x.1 x.2.2) l = l.sentOn asm x.1 x.2.2 := by
  induction xs generalizing l with
  | nil => cases hx
  | cons y ys ih =>
    obtain ⟨hy, hys⟩ := List.pairwise_cons.1 hapart
    rw [List.foldl_cons]
    rcases List.mem_cons.1 hx with rfl | hx
    · refine sentOn_none fun z hz => ?_
      rw [Line.sentOn_index]
      exact hy _ (List.mem_map_of_mem hz) _ hl
    · have hnot : l.index ∉ y.2.2.map Line.index := fun hm => hy _ (List.mem_map_of_mem hx) _ hm hl
      rw [show l.sentOn asm y.1 y.2.2 = l from if_neg hnot]
      exact ih hys hx hl

/-! ### The tickets of a plan (R105) -/

/-- The ASSEMBLY of a firing. -/
def Work.assemblyTicket (w : Work) (c : Check) (n components : Nat) (x : StationId) (g : List Line) : Ticket :=
  { number := n, kind := .assembly, remake := false, station := x, check := some c.number, stand := c.stand,
    pickup := c.pickup, fired := w.now.secs, entries := g.map Line.entry, state := .waiting, wait := components,
    assembly := none, original := none }

/-- How many groups of a plan the ASSEMBLY waits for. -/
def Plan.components (p : Plan) (g : List Line) : Nat :=
  p.normals.countP fun q => q.2.any fun l => decide (l.index ∈ g.map Line.index)

/-- The tickets of a plan have been made, with these numbers for the NORMAL ones and this ASSEMBLY. -/
structure Work.Makes (c : Check) (p : Plan) (asm : Option (Nat × List Nat)) (xs : List (Nat × StationId × List Line))
    (w v : Work) : Prop where
  groups : xs.map Prod.snd = p.normals
  fresh  : ∀ x ∈ xs, w.ticket? x.1 = none
  ce     : v.ce = { w.ce with checks := v.ce.checks }
  ports  : v.ports = w.ports
  size   : v.kr.tickets.length = w.kr.tickets.length + p.size
  made   : ∀ x ∈ xs, v.ticket? x.1 = some (w.normalTicket c asm x.1 x.2.1 x.2.2)
  queued : ∀ x ∈ xs, x.1 ∈ (v.station x.2.1).normalQ
  check  : ∀ d, w.check? c.number = some d → v.check? c.number =
    some (d.mapLines fun l => xs.foldl (fun l x => l.sentOn asm x.1 x.2.2) l)
  gather : ∀ x g, p.assembly = some (x, g) → ∃ a, asm = some (a, g.map Line.index) ∧ w.ticket? a = none ∧
    v.ticket? a = some (w.assemblyTicket c a (p.components g) x g)

theorem Work.Cooks.of_numbers {c : Check} {asm : Option (Nat × List Nat)} {xs : List (Nat × StationId × List Line)}
    {u w v : Work} {x : Nat} (hu : u = { w with kr := { w.kr with ticketCtr := x } }) (h : Work.Cooks c asm xs u v) :
    Work.Cooks c asm xs w v := by
  subst hu
  exact ⟨h.ce, h.now, h.ports, h.size, h.others, h.made, h.stay, h.queued, h.check⟩

theorem Work.makeTickets_makes {p : Plan} {c : Check} {w : Work}
    (hroom : p.size * (w.kr.tickets.length + 1) ≤ 65535) (hsize : w.kr.tickets.length < 65535) :
    ∃ asm xs, Work.Makes c p asm xs w (w.makeTickets c p) := by
  have hnodup := Work.takeNumbers_nodup hroom
  have hfree := Work.takeNumbers_free (k := p.size) hsize
  obtain ⟨ctr, hctr⟩ := w.takeNumbers_eq p.size
  have hfree' (n : Nat) (hn : n ∈ (w.takeNumbers p.size).1) : (w.takeNumbers p.size).2.ticket? n = none := by
    rw [hctr]
    exact hfree n hn
  have hlen := w.takeNumbers_length p.size
  cases ha : p.assembly with
  | none =>
    have hsz : p.size = p.normals.length := by simp [Plan.size, ha]
    rw [hsz] at hlen
    have hfst : ((w.takeNumbers p.size).1.zip p.normals).map Prod.fst = (w.takeNumbers p.size).1 :=
      List.map_fst_zip (by rw [← hlen, hsz])
    have hmem {x : Nat × StationId × List Line} (hx : x ∈ (w.takeNumbers p.size).1.zip p.normals) :
        x.1 ∈ (w.takeNumbers p.size).1 := hfst ▸ List.mem_map_of_mem hx
    obtain ⟨ce, now, ports, size, others, made, stay, queued, check⟩ := Work.Cooks.of_numbers hctr
      (Work.makeNormals_cooks c none (w := (w.takeNumbers p.size).2) (xs := (w.takeNumbers p.size).1.zip p.normals)
        (hfst.symm ▸ hnodup) fun x hx => hfree' _ (hmem hx))
    rw [Work.makeTickets_plain ha]
    refine ⟨none, _, List.map_snd_zip (by rw [← hlen, hsz]), fun x hx => hfree _ (hmem hx), ce, ports, ?_, made, queued,
      check, fun x g hg => by rw [ha] at hg; cases hg⟩
    rw [size, ← List.length_map (f := Prod.fst), hfst, w.takeNumbers_length]
  | some q =>
    obtain ⟨x, g⟩ := q
    obtain ⟨ns, a, hns, hnslen, he⟩ := Work.makeTickets_gathers ha c w
    rw [hns] at hnodup hfree hfree'
    have hfst : (ns.zip p.normals).map Prod.fst = ns := List.map_fst_zip hnslen.le
    have hmem {y : Nat × StationId × List Line} (hy : y ∈ ns.zip p.normals) : y.1 ∈ ns :=
      hfst ▸ List.mem_map_of_mem hy
    obtain ⟨ce, now, ports, size, others, made, stay, queued, check⟩ := Work.Cooks.of_numbers hctr
      (Work.makeNormals_cooks c (some (a, g.map Line.index)) (xs := ns.zip p.normals) (w := (w.takeNumbers p.size).2)
        (hfst.symm ▸ (List.nodup_append.1 hnodup).1) fun y hy => hfree' _ (List.mem_append_left _ (hmem hy)))
    have hnot {n : Nat} (hn : n ∈ ns) : n ≠ a := fun e => (List.nodup_append.1 hnodup).2.2 n hn a (by simp) e
    have hfresh := hfree a (by simp)
    rw [he]
    generalize (ns.zip p.normals).foldl _ _ = v at ce now ports size others made stay queued check
    have ha' : v.ticket? a = none :=
      (others a fun hm => hnot (hfst ▸ hm) rfl).trans hfresh
    refine ⟨some (a, g.map Line.index), _, List.map_snd_zip hnslen.ge, fun y hy => hfree _
      (List.mem_append_left _ (hmem hy)), ce, ports, ?_, fun y hy => ?_, queued, check, fun y h hy => ?_⟩
    · have hput := putBy_perm (key := Ticket.number) (x := v.assemblyTicket c a (p.components g) x g)
        (l := v.kr.tickets) (lookupBy_eq_none_iff.1 ha')
      refine hput.length_eq.trans ?_
      rw [List.length_cons, size, ← List.length_map (f := Prod.fst), hfst, hnslen]
      simp [Plan.size, ha, Nat.add_assoc]
    · refine (Work.putTicket_ticket? _ v y.1).trans ?_
      rw [if_neg (hnot (hmem hy)), made y hy]
    · cases ha.symm.trans hy
      refine ⟨a, rfl, hfresh, (Work.putTicket_ticket? _ v a).trans ?_⟩
      rw [if_pos rfl, Work.assemblyTicket, ← now]
      rfl

end Sys2Proof.Machine
end

section
/-! PROOFS. What a try of the Fire Backlog sends to the kitchen (R104 to R106, R108). -/
namespace Sys2Proof.Machine

/-! ### The groups of a firing (R104, R105) -/

/-- The lines of a firing that go to a station. -/
def Work.group (w : Work) (ls : List Line) (st : StationId) : List Line := ls.filter fun l => decide (w.target l = st)

theorem Work.mem_group {w : Work} {ls : List Line} {st : StationId} {l : Line} :
    l ∈ w.group ls st ↔ l ∈ ls ∧ w.target l = st := by
  rw [Work.group, List.mem_filter, decide_eq_true_iff]

theorem Work.plan_normals (w : Work) (c : Check) (ls : List Line) : (w.plan c ls).normals =
    (allStations.filter fun st => !(w.group ls st).isEmpty).map fun st => (st, w.group ls st) := by
  unfold Work.plan Work.group
  simp only
  induction allStations with
  | nil => rfl
  | cons st sts ih =>
    rw [List.filterMap_cons, List.filter_cons]
    cases hg : ls.filter fun l => decide (w.target l = st) with
    | nil => simpa [hg] using ih
    | cons g gs => simpa [hg] using ih

theorem Work.plan_group {w : Work} {ls : List Line} {l : Line} (h : l ∈ ls) (c : Check) :
    (w.target l, w.group ls (w.target l)) ∈ (w.plan c ls).normals := by
  have hmem : l ∈ w.group ls (w.target l) := Work.mem_group.2 ⟨h, rfl⟩
  rw [Work.plan_normals]
  refine List.mem_map_of_mem (List.mem_filter.2 ⟨mem_allStations _, ?_⟩)
  rw [Bool.not_eq_true', List.isEmpty_eq_false_iff]
  exact List.ne_nil_of_mem hmem

theorem Work.plan_assembly {w : Work} {c : Check} {ls : List Line} {x : StationId}
    (hx : (w.stand c.stand).expo = some x) (h : ∃ l ∈ ls, l.expo = true) :
    (w.plan c ls).assembly = some (x, ls.filter Line.expo) := by
  obtain ⟨l, hl, he⟩ := h
  have hne : ls.filter Line.expo ≠ [] := List.ne_nil_of_mem (List.mem_filter.2 ⟨hl, he⟩)
  obtain ⟨g, gs, hg⟩ := List.exists_cons_of_ne_nil hne
  simp only [Work.plan, hx, hg]

theorem allStations_nodup : allStations.Nodup := by decide

section
variable {ls : List Line} (hnodup : (ls.map Line.index).Nodup)
include hnodup

theorem Work.plan_apart (w : Work) (c : Check) : Apart ((w.plan c ls).normals.map Prod.snd) := by
  rw [Work.plan_normals, List.map_map]
  refine List.pairwise_map.2 ((allStations_nodup.filter _).imp fun {a b} hab i hi hj => hab ?_)
  obtain ⟨l, hl, rfl⟩ := List.mem_map.1 hi
  obtain ⟨m, hm, he⟩ := List.mem_map.1 hj
  obtain ⟨hls, ha⟩ := Work.mem_group.1 hl
  obtain ⟨hms, hb⟩ := Work.mem_group.1 hm
  rw [← ha, ← hb, List.inj_on_of_nodup_map hnodup hms hls he]

/-- The ASSEMBLY waits for one ticket at each station that gets a line of it (R105). -/
theorem Work.plan_components (w : Work) (c : Check) : (w.plan c ls).components (ls.filter Line.expo) =
    (allStations.filter fun st => ls.any fun l => l.expo && decide (w.target l = st)).length := by
  rw [Plan.components, Work.plan_normals, List.countP_map, List.countP_filter, ← List.countP_eq_length_filter]
  refine List.countP_congr fun st _ => ?_
  simp only [Function.comp_apply, Bool.and_eq_true, List.any_eq_true, decide_eq_true_iff, Work.mem_group, List.mem_map,
    List.mem_filter, Bool.not_eq_true', List.isEmpty_eq_false_iff]
  constructor
  · rintro ⟨⟨l, ⟨hl, hst⟩, m, ⟨hm, hexpo⟩, he⟩, -⟩
    rw [List.inj_on_of_nodup_map hnodup hm hl he] at hexpo
    exact ⟨l, hl, hexpo, hst⟩
  · rintro ⟨l, hl, hexpo, hst⟩
    exact ⟨⟨l, ⟨hl, hst⟩, l, ⟨hl, hexpo⟩, rfl⟩, List.ne_nil_of_mem (Work.mem_group.2 ⟨hl, hst⟩)⟩

end

/-! ### The lines of a firing -/

/-- What becomes of a line when tickets have been made of these groups. -/
def Line.sentWith (asm : Option (Nat × List Nat)) (xs : List (Nat × StationId × List Line)) (l : Line) : Line :=
  xs.foldl (fun l x => l.sentOn asm x.1 x.2.2) l

@[simp] theorem Line.sentWith_index (asm : Option (Nat × List Nat)) (xs : List (Nat × StationId × List Line))
    (l : Line) : (l.sentWith asm xs).index = l.index := by
  unfold Line.sentWith
  induction xs generalizing l with
  | nil => rfl
  | cons x xs ih => exact (ih _).trans (Line.sentOn_index _ _ _ l)

section
variable {u v w : Work} {c : Check} {ls : List Line} {asm : Option (Nat × List Nat)}
  {xs : List (Nat × StationId × List Line)} (hm : Work.Makes c (w.plan c ls) asm xs u v)
include hm

/-- There is a ticket for the target station of each line. -/
theorem Work.Makes.numbered {m : Line} (hl : m ∈ ls) : ∃ n, (n, w.target m, w.group ls (w.target m)) ∈ xs := by
  have hgroup := Work.plan_group (w := w) hl c
  rw [← hm.groups] at hgroup
  obtain ⟨⟨n, q⟩, hx, rfl⟩ := List.mem_map.1 hgroup
  exact ⟨n, hx⟩

/-- A line of the firing goes out with the ticket of its target station. -/
theorem Work.Makes.sent (hnodup : (ls.map Line.index).Nodup) {n : Nat} {l m : Line} (hl : m ∈ ls)
    (hx : (n, w.target m, w.group ls (w.target m)) ∈ xs) (he : m.index = l.index) : l.sentWith asm xs =
      { l with state := .fired, ticket := some n, assembly := (gatheredIn asm l).or l.assembly } := by
  have hmem : l.index ∈ (w.group ls (w.target m)).map Line.index :=
    he ▸ List.mem_map_of_mem (Work.mem_group.2 ⟨hl, rfl⟩)
  have hapart := Work.plan_apart hnodup w c
  rw [← hm.groups, List.map_map] at hapart
  exact (sentOn_one hapart hx hmem).trans (if_pos hmem)

/-- A line outside the firing stays as it is. -/
theorem Work.Makes.unsent {l : Line} (h : l.index ∉ ls.map Line.index) : l.sentWith asm xs = l := by
  refine sentOn_none fun x hx he => h ?_
  have hgroup : x.2 ∈ (w.plan c ls).normals := hm.groups ▸ List.mem_map_of_mem hx
  rw [Work.plan_normals] at hgroup
  obtain ⟨st, -, hq⟩ := List.mem_map.1 hgroup
  rw [← hq] at he
  obtain ⟨m, hmem, he⟩ := List.mem_map.1 he
  exact List.mem_map.2 ⟨m, (Work.mem_group.1 hmem).1, he⟩

end

/-! ### A try (R108) -/

section
variable {w : Work} {f : Firing} {c : Check} {more : List Firing}

theorem Work.tryBacklog_empty (h : w.ce.backlog = []) : w.tryBacklog = w := by
  rw [Work.tryBacklog, h]
  rfl

theorem Work.tryBacklog_stays (h : w.ce.backlog = f :: more) (hc : w.check? f.check = some c)
    (hroom : w.hasRoom (w.plan c (c.lines.filter fun l => decide (l.index ∈ f.lines))) = false) :
    w.tryBacklog = w := by
  rw [Work.tryBacklog, h, List.length_cons, Work.tryBacklogFor]
  simp only [h, hc, hroom, Bool.false_eq_true, if_false]

theorem Work.tryBacklog_sends (h : w.ce.backlog = [f]) (hc : w.check? f.check = some c)
    (hroom : w.hasRoom (w.plan c (c.lines.filter fun l => decide (l.index ∈ f.lines))) = true) :
    w.tryBacklog = ({ w with ce := { w.ce with backlog := [] } } : Work).makeTickets c
      (w.plan c (c.lines.filter fun l => decide (l.index ∈ f.lines))) := by
  rw [Work.tryBacklog, h, List.length_singleton, Work.tryBacklogFor]
  simp only [h, hc, hroom, if_true]
  rfl

end

/-- The offer of a try is taken. -/
def State.withdrawn (s : State) : State := { s with ce := { s.ce with tryOffered := false } }

/-- The piece of work of a try whose one entry has left the Fire Backlog. -/
def State.drained (s : State) : Work :=
  { s.withdrawn.work with ce := { s.withdrawn.ce with backlog := [] } }

section
variable {s : State}

theorem exec_fireBacklogTry_tries (h : s.ce.tryOffered = true) :
    exec .fireBacklogTry s = .next (s.withdrawn.commit s.withdrawn.work.tryBacklog) :=
  congrArg Host.Outcome.next (if_pos h)

theorem exec_fireBacklogTry_idle (h : s.ce.tryOffered = true) (hidle : s.withdrawn.work.tryBacklog = s.withdrawn.work) :
    exec .fireBacklogTry s = .next s.withdrawn := by
  rw [exec_fireBacklogTry_tries h, hidle, State.commit_work]

end

theorem State.not_mem_of_fresh {s : State} {n : Nat} {k : Ticket} (hn : lookupBy Ticket.number n s.kr.tickets = none)
    (hk : k.number = n) : k ∉ s.kr.tickets := fun hm => lookupBy_eq_none_iff.1 hn k hm hk

/-- Settles O44: the tickets of the plan are made one after another, each with a free number of its own. -/
theorem backlogTryMakesTickets : Obligations.BacklogTryMakesTickets := by
  intro s f c hoffered hc hnodup ls plan
  have hcnum : c.number = f.check := (lookupBy_some hc).2
  refine ⟨fun more hback hroom => ?_, fun hback => ?_, fun hback hroom => ?_⟩
  · exact exec_fireBacklogTry_idle hoffered (Work.tryBacklog_stays hback hc hroom)
  · exact exec_fireBacklogTry_idle hoffered (Work.tryBacklog_empty hback)
  have hnodup' : (ls.map Line.index).Nodup := hnodup.sublist (List.filter_sublist.map _)
  have hlen : s.kr.tickets.length + plan.size ≤ 992 := of_decide_eq_true (Bool.and_eq_true_iff.1 hroom).1
  have hsize : plan.size ≤ 9 := Work.plan_size_le _ _ _
  have hsmall : plan.size * (s.kr.tickets.length + 1) ≤ 65535 :=
    (Nat.mul_le_mul hsize (show s.kr.tickets.length + 1 ≤ 993 by omega)).trans (by decide)
  obtain ⟨asm, xs, hm⟩ := Work.makeTickets_makes (w := s.drained) (c := c) hsmall (by
    change s.kr.tickets.length < 65535
    omega)
  obtain ⟨g, hsends⟩ := Work.makeTickets_sends c plan s.drained
  have htry := Work.tryBacklog_sends (w := s.withdrawn.work) hback hc hroom
  generalize hv : s.drained.makeTickets c plan = v at hm hsends
  have htry : s.withdrawn.work.tryBacklog = v := htry.trans hv
  have hcheck : v.check? f.check = some (c.mapLines fun l => l.sentWith asm xs) := by
    rw [← hcnum]
    exact hm.check c (hcnum ▸ hc)
  have hexec := exec_fireBacklogTry_tries hoffered
  rw [htry] at hexec
  refine ⟨_, _, hexec, ?_, ?_, (congrArg (fun x : CheckEngine => lookupBy Check.number f.check x.checks)
    (State.commit_ce v _)).trans hcheck, ?_, (State.commit_tu v _).trans hsends.tu,
    (State.commit_sj v _).trans hsends.sj, (State.commit_ports v _).trans hm.ports, fun l hl hin => ?_,
    fun l hl hout => ?_, fun st hst => ?_, fun x hx hexpo => ?_⟩
  · rw [State.commit_ce, hm.ce]
    rfl
  · rw [State.commit_ce, hm.ce]
    rfl
  · rw [State.commit_kr]
    exact hm.size
  · obtain ⟨m, hmem, rfl⟩ := List.mem_map.1 hl
    rw [Line.sentWith_index] at hin
    have hmls : m ∈ ls := List.mem_filter.2 ⟨hmem, decide_eq_true hin⟩
    obtain ⟨n, hx⟩ := hm.numbered hmls
    rw [hm.sent hnodup' hmls hx rfl]
  · refine List.mem_map.2 ⟨l, hl, hm.unsent fun hi => hout ?_⟩
    obtain ⟨m, hmem, he⟩ := List.mem_map.1 hi
    exact he ▸ of_decide_eq_true (List.mem_filter.1 hmem).2
  · obtain ⟨m, hmem, rfl⟩ := hst
    obtain ⟨n, hx⟩ := hm.numbered hmem
    have hmade := lookupBy_some (hm.made _ hx)
    refine ⟨_, (State.commit_kr v _).symm ▸ hmade.1, State.not_mem_of_fresh (hm.fresh _ hx) rfl, rfl, rfl, rfl, rfl,
      rfl, rfl, rfl, rfl, ?_, ?_, fun l hl ⟨l', hl', he, hst⟩ => ?_⟩
    · rw [State.commit_kr]
      exact hm.queued _ hx
    · rfl
    · obtain ⟨l₀, -, rfl⟩ := List.mem_map.1 hl
      rw [Line.sentWith_index] at he
      rw [← hst] at hx
      rw [hm.sent hnodup' hl' hx he]
      rfl
  · obtain ⟨a, rfl, hfresh, hmade⟩ := hm.gather x _ (Work.plan_assembly hx hexpo)
    refine ⟨_, (State.commit_kr v _).symm ▸ (lookupBy_some hmade).1, State.not_mem_of_fresh hfresh rfl, rfl, rfl, rfl,
      rfl, rfl, ?_, Work.plan_components hnodup' s.work c, fun l hl ⟨l', hl', he, hexpo'⟩ => ?_⟩
    · rfl
    · obtain ⟨l₀, -, rfl⟩ := List.mem_map.1 hl
      rw [Line.sentWith_index] at he
      obtain ⟨n, hx⟩ := hm.numbered hl'
      have hin : l₀.index ∈ (ls.filter Line.expo).map Line.index :=
        he ▸ List.mem_map_of_mem (List.mem_filter.2 ⟨hl', hexpo'⟩)
      rw [hm.sent hnodup' hl' hx he]
      simp only [gatheredIn, hin, if_true, Option.some_or]
      rfl

end Sys2Proof.Machine
end

section
/-! PROOFS. The void of lines on the tickets that carry and gather them (R114, R115). -/
namespace Sys2Proof.Machine

/-! ### Tables with rising keys -/

section
variable {α : Type} {key : α → Nat} {l : List α} (h : Rising key l)
include h

theorem Rising.inj {x y : α} (hx : x ∈ l) (hy : y ∈ l) (he : key x = key y) : x = y :=
  Option.some.inj ((lookupBy_of_mem h hx).symm.trans (he ▸ lookupBy_of_mem h hy))

/-- Putting an entry in the place of one with its key changes that entry. -/
theorem putBy_of_mem {x y : α} (hy : y ∈ l) (he : key y = key x) :
    putBy key x l = l.map fun z => if key z = key x then x else z := by
  induction l with
  | nil => cases hy
  | cons z zs ih =>
    obtain ⟨hz, hzs⟩ := rising_cons.1 h
    rw [List.map_cons]
    unfold putBy
    rcases List.mem_cons.1 hy with rfl | hy
    · rw [if_neg (by omega), if_pos he.symm, if_pos he]
      have hrest : ∀ z ∈ zs, (if key z = key x then x else z) = z := fun z hm => if_neg (by have := hz z hm; omega)
      rw [List.map_congr_left hrest, List.map_id']
    · have hlt := hz y hy
      rw [if_neg (by omega), if_neg (by omega), if_neg (by omega), ih hzs hy]

end

/-! ### A ticket freed from outside the slots -/

theorem Port.emptySlot_of_absent {p : Port} {n : Nat} (h : n ∉ p.holds) : p.emptySlot n = p := by
  have hslot {o : Option OutSlot} (ho : ∀ z, o = some z → z.ticket ≠ n) :
      (if o.any (fun x => x.ticket == n) then none else o) = o := by
    cases o with
    | none => rfl
    | some z => simp [ho z rfl]
  unfold Port.emptySlot
  rw [hslot fun z hz => ?_, hslot fun z hz => ?_]
  · rintro rfl
    exact h (by simp [Port.holds, hz])
  · rintro rfl
    exact h (by simp [Port.holds, hz])

theorem Work.Placed.freeTicket_ports {w : Work} (h : w.Placed) {n : Nat} {t : Ticket} (ht : w.ticket? n = some t)
    (hs : t.state ≠ .sending) : (w.freeTicket n).ports = w.ports := by
  have habsent : n ∉ (w.port t.station).holds := fun hm => by
    obtain ⟨k, hk, -, hp⟩ := h.found (st := t.station) (y := .slot) (Spot.mem_entries.2 hm)
    cases ht.symm.trans hk
    exact hs (Stub.place_eq_some.1 hp)
  obtain ⟨c, hc⟩ := Work.freeRaw_frame ht
  rw [Work.freeTicket_eq ht, Work.divertTest_ports, hc, Work.unplace_eq]
  change modify w.ports t.station _ = _
  rw [modify_eq_set, show w.ports[t.station] = w.port t.station from rfl, Port.emptySlot_of_absent habsent]
  exact set_get_self _ _

/-! ### The tickets of a line (R113) -/

theorem Ticket.cooks_iff {k : Ticket} {c : Check} {l : Line} :
    k.cooks c l = true ↔ l.ticket = some k.number ∧ k.kind = .normal ∧ k.check = some c.number := by
  simp only [Ticket.cooks, Bool.and_eq_true, decide_eq_true_iff]
  tauto

theorem Ticket.gathers_iff {k : Ticket} {c : Check} {l : Line} : k.gathers c l = true ↔
    l.assembly = some k.number ∧ k.kind = .assembly ∧ k.check = some c.number ∧ k.state ≠ .bumped := by
  simp only [Ticket.gathers, Bool.and_eq_true, decide_eq_true_iff]
  tauto

theorem Ticket.gathers_of_cooks {k : Ticket} {c d : Check} {l m : Line} (h : k.cooks c l = true) :
    k.gathers d m = false :=
  Bool.eq_false_iff.2 fun hg => by
    have hkind := (Ticket.cooks_iff.1 h).2.1
    rw [(Ticket.gathers_iff.1 hg).2.1] at hkind
    cases hkind

section
variable {w : Work} (h : Rising Ticket.number w.kr.tickets) {c : Check} {l : Line} {t : Ticket}
include h

theorem Work.normalOf_iff : w.normalOf c l = some t ↔ t ∈ w.kr.tickets ∧ t.cooks c l = true := by
  rw [Work.normalOf, Option.filter_eq_some_iff, Option.bind_eq_some_iff, Ticket.cooks_iff, Bool.and_eq_true,
    decide_eq_true_iff, decide_eq_true_iff]
  constructor
  · rintro ⟨⟨n, hn, ht⟩, hk⟩
    exact ⟨(lookupBy_some ht).1, hn.trans (congrArg some (lookupBy_some ht).2.symm), hk⟩
  · rintro ⟨hm, hn, hk⟩
    exact ⟨⟨t.number, hn, lookupBy_of_mem h hm⟩, hk⟩

theorem Work.assemblyOf_iff : w.assemblyOf c l = some t ↔ t ∈ w.kr.tickets ∧ t.gathers c l = true := by
  rw [Work.assemblyOf, Option.filter_eq_some_iff, Option.bind_eq_some_iff, Ticket.gathers_iff, Bool.and_eq_true,
    Bool.and_eq_true, decide_eq_true_iff, decide_eq_true_iff, decide_eq_true_iff, and_assoc]
  constructor
  · rintro ⟨⟨n, hn, ht⟩, hk⟩
    exact ⟨(lookupBy_some ht).1, hn.trans (congrArg some (lookupBy_some ht).2.symm), hk⟩
  · rintro ⟨hm, hn, hk⟩
    exact ⟨⟨t.number, hn, lookupBy_of_mem h hm⟩, hk⟩

/-- One ticket at most carries a line. -/
theorem Work.cooks_unique {k : Ticket} (ht : t ∈ w.kr.tickets) (hc : t.cooks c l = true) (hk : k ∈ w.kr.tickets) :
    k.cooks c l = true ↔ k.number = t.number := by
  constructor
  · intro hk'
    exact Option.some.inj ((Ticket.cooks_iff.1 hk').1.symm.trans (Ticket.cooks_iff.1 hc).1)
  · intro he
    rwa [h.inj hk ht he]

theorem Work.gathers_unique {k : Ticket} (ht : t ∈ w.kr.tickets) (hc : t.gathers c l = true) (hk : k ∈ w.kr.tickets) :
    k.gathers c l = true ↔ k.number = t.number := by
  constructor
  · intro hk'
    exact Option.some.inj ((Ticket.gathers_iff.1 hk').1.symm.trans (Ticket.gathers_iff.1 hc).1)
  · intro he
    rwa [h.inj hk ht he]

end

/-! ### The void of one line (R114, R115) -/

/-- What the void of a line makes of a NORMAL ticket that carries it; none: the ticket is freed. -/
def Ticket.cookVoid (c : Check) (l : Line) (k : Ticket) : Option Ticket :=
  if k.cooks c l = true then
    if k.state = .queued then
      if (k.dropLine l.index).entries = [] then none else some (k.dropLine l.index)
    else some (k.markLine l.index)
  else some k

/-- What the void of a line makes of an ASSEMBLY that gathers it. -/
def Ticket.gatherVoid (c : Check) (l : Line) (k : Ticket) : Ticket :=
  if k.gathers c l = true then if k.isOut then k.markLine l.index else k.dropLine l.index else k

section
variable {w : Work} (h : w.Tidy) (c : Check) (l : Line)
include h

/-- A NORMAL ticket does not wait. -/
theorem Work.Tidy.normal_not_waiting {k : Ticket} (hk : k ∈ w.kr.tickets) (hn : k.kind = .normal) :
    k.state ≠ .waiting := fun hw => by
  have hstub : w.stub k.number = some k.stub := congrArg (Option.map Ticket.stub) (lookupBy_of_mem h.fits.rising hk)
  cases hn.symm.trans (h.placed.waits k.number k.stub hstub hw)

theorem Work.Tidy.putTicket_map {t t' : Ticket} (ht : t ∈ w.kr.tickets) (hn : t.number = t'.number)
    {f : Ticket → Option Ticket} (hf : ∀ k ∈ w.kr.tickets, f k = some (if k.number = t'.number then t' else k)) :
    (w.putTicket t').kr.tickets = w.kr.tickets.filterMap f := by
  rw [Work.putTicket_kr, List.filterMap_congr hf, List.filterMap_eq_map']
  exact putBy_of_mem h.fits.rising ht hn

theorem Work.Tidy.voidOnNormal_tickets :
    (w.voidOnNormal c l).kr.tickets = w.kr.tickets.filterMap (Ticket.cookVoid c l) := by
  have hrise := h.fits.rising
  unfold Work.voidOnNormal
  cases ht : w.normalOf c l with
  | none =>
    have hnone : ∀ k ∈ w.kr.tickets, k.cookVoid c l = some k := fun k hk =>
      if_neg fun hc => by
        rw [(Work.normalOf_iff hrise).2 ⟨hk, hc⟩] at ht
        cases ht
    rw [List.filterMap_congr hnone, List.filterMap_some]
  | some t =>
    obtain ⟨hm, hc⟩ := (Work.normalOf_iff hrise).1 ht
    have huniq {k : Ticket} (hk : k ∈ w.kr.tickets) := Work.cooks_unique hrise hm hc hk
    have hput {t' : Ticket} (hn : t'.number = t.number) (hv : t.cookVoid c l = some t') :
        (w.putTicket t').kr.tickets = w.kr.tickets.filterMap (Ticket.cookVoid c l) := by
      refine h.putTicket_map hm hn.symm fun k hk => ?_
      by_cases he : k.number = t'.number
      · rw [if_pos he, hrise.inj hk hm (he.trans hn), hv]
      · rw [if_neg he]
        exact if_neg fun hc' => he (((huniq hk).1 hc').trans hn.symm)
    simp only
    split
    case h_1 hq =>
      split
      · rename_i hempty
        rw [Work.freeTicket_tickets, eraseBy, ← List.filterMap_eq_filter]
        refine List.filterMap_congr fun k hk => ?_
        by_cases he : k.number = t.number
        · cases hrise.inj hk hm he
          simp [Ticket.cookVoid, hc, hq, hempty, Option.guard]
        · have hnot : ¬ k.cooks c l = true := fun hc' => he ((huniq hk).1 hc')
          simp [Ticket.cookVoid, hnot, he, Option.guard]
      · rename_i hkept
        exact hput rfl (by simp [Ticket.cookVoid, hc, hq, hkept])
    case h_5 hw => exact absurd hw (h.normal_not_waiting hm (Ticket.cooks_iff.1 hc).2.1)
    all_goals
      rename_i hs
      exact hput rfl (by simp [Ticket.cookVoid, hc, hs])

theorem Work.Tidy.voidOnAssembly_tickets :
    (w.voidOnAssembly c l).kr.tickets = w.kr.tickets.map (Ticket.gatherVoid c l) := by
  have hrise := h.fits.rising
  unfold Work.voidOnAssembly
  cases ht : w.assemblyOf c l with
  | none =>
    have hnone : ∀ k ∈ w.kr.tickets, k.gatherVoid c l = k := fun k hk =>
      if_neg fun hc => by
        rw [(Work.assemblyOf_iff hrise).2 ⟨hk, hc⟩] at ht
        cases ht
    rw [List.map_congr_left hnone, List.map_id']
  | some t =>
    obtain ⟨hm, hc⟩ := (Work.assemblyOf_iff hrise).1 ht
    simp only
    rw [← List.filterMap_eq_map]
    have hn : (if t.isOut then t.markLine l.index else t.dropLine l.index).number = t.number := by split <;> rfl
    refine h.putTicket_map hm hn.symm fun k hk => ?_
    rw [Function.comp_apply, Ticket.gatherVoid]
    by_cases he : k.number = t.number
    · cases hrise.inj hk hm he
      rw [if_pos hc, if_pos (he.trans hn.symm)]
    · rw [if_neg fun hc' => he ((Work.gathers_unique hrise hm hc hk).1 hc'), if_neg fun e => he (e.trans hn)]

theorem Work.Tidy.voidOnNormal_ports : (w.voidOnNormal c l).ports = w.ports := by
  unfold Work.voidOnNormal
  split
  · rfl
  · rename_i t ht
    have hm := (Work.normalOf_iff h.fits.rising).1 ht
    split
    · rename_i hq
      split
      · exact h.placed.freeTicket_ports (lookupBy_of_mem h.fits.rising hm.1) (by simp [hq])
      · rfl
    all_goals rfl

end

theorem Work.voidOnAssembly_ports (c : Check) (l : Line) (w : Work) : (w.voidOnAssembly c l).ports = w.ports := by
  unfold Work.voidOnAssembly
  split <;> rfl

theorem Work.voidOnNormal_tidies (c : Check) (l : Line) (w : Work) : w.Tidies (w.voidOnNormal c l) :=
  (w.voidOnNormal_routes c l).tidies fun h => h.placed.voidOnNormal c l

theorem Work.voidOnAssembly_tidies (c : Check) (l : Line) (w : Work) : w.Tidies (w.voidOnAssembly c l) :=
  (w.voidOnAssembly_routes c l).tidies fun h => h.placed.voidOnAssembly c l

/-! ### The void of all lines (R114, R115) -/

/-- What the voids of lines make of a ticket; none: the ticket is freed. -/
def Ticket.fate (c : Check) : List Line → Ticket → Option Ticket
  | [], k => some k
  | l :: ls, k => ((k.cookVoid c l).map (Ticket.gatherVoid c l)).bind (Ticket.fate c ls)

/-- A piece of work after the voids of lines. -/
def Work.voidLines (c : Check) (ls : List Line) (w : Work) : Work :=
  ls.foldl (fun w l => (w.voidOnNormal c l).voidOnAssembly c l) w

theorem Work.voidLines_spec (c : Check) (ls : List Line) {w : Work} (h : w.Tidy) :
    (w.voidLines c ls).Tidy ∧ (w.voidLines c ls).ports = w.ports ∧
      (w.voidLines c ls).kr.tickets = w.kr.tickets.filterMap (Ticket.fate c ls) := by
  induction ls generalizing w with
  | nil => exact ⟨h, rfl, (List.filterMap_some).symm⟩
  | cons l ls ih =>
    have hnormal := w.voidOnNormal_tidies c l h
    obtain ⟨htidy, hports, htickets⟩ := ih (Work.voidOnAssembly_tidies c l _ hnormal)
    refine ⟨htidy, ?_, ?_⟩
    · exact hports.trans ((Work.voidOnAssembly_ports c l _).trans (h.voidOnNormal_ports c l))
    · refine htickets.trans ?_
      rw [hnormal.voidOnAssembly_tickets, h.voidOnNormal_tickets, List.map_filterMap, List.filterMap_filterMap]
      rfl

/-- A ticket with the entries that the voids of lines leave it (R114, R115). -/
def Ticket.voided (k : Ticket) (c : Check) (ls : List Line) : Ticket :=
  { k with entries := if k.state = .waiting ∨ k.state = .queued then k.keptBy c ls else k.markedBy c ls }

section
variable {k : Ticket} {c : Check} {l : Line} {ls : List Line}

theorem Ticket.voided_untouched (h : k.touched c ls = []) : k.voided c ls = k := by
  simp [Ticket.voided, Ticket.keptBy, Ticket.markedBy, h]

theorem Ticket.emptiedBy_untouched (h : k.touched c ls = []) : k.emptiedBy c ls = false := by
  simp [Ticket.emptiedBy, h]

theorem Ticket.touched_skip (h : (k.cooks c l || k.gathers c l) = false) : k.touched c (l :: ls) = k.touched c ls :=
  List.filter_cons_of_neg (by simp [h])

theorem Ticket.touched_take (h : (k.cooks c l || k.gathers c l) = true) :
    k.touched c (l :: ls) = l :: k.touched c ls :=
  List.filter_cons_of_pos h

theorem Ticket.keptBy_take (h : (k.cooks c l || k.gathers c l) = true) :
    k.keptBy c (l :: ls) = (k.dropLine l.index).keptBy c ls := by
  have hsame : (k.dropLine l.index).touched c ls = k.touched c ls := rfl
  rw [Ticket.keptBy, Ticket.keptBy, Ticket.touched_take h, hsame, Ticket.dropLine, List.filter_filter]
  refine List.filter_congr fun e _ => ?_
  rw [List.any_cons, Bool.not_or, Bool.and_comm]
  rfl

theorem Ticket.markedBy_take (h : (k.cooks c l || k.gathers c l) = true) :
    k.markedBy c (l :: ls) = (k.markLine l.index).markedBy c ls := by
  have hsame : (k.markLine l.index).touched c ls = k.touched c ls := rfl
  rw [Ticket.markedBy, Ticket.markedBy, Ticket.touched_take h, hsame, Ticket.markLine, List.map_map]
  refine List.map_congr_left fun e _ => ?_
  by_cases hl : e.line = some l.index
  · simp [hl]
  · simp [hl]

/-- A line that a ticket waiting or queued carries, or gathers, takes its entry away. -/
theorem Ticket.voided_drop (h : (k.cooks c l || k.gathers c l) = true) (hs : k.state = .waiting ∨ k.state = .queued) :
    k.voided c (l :: ls) = (k.dropLine l.index).voided c ls := by
  have hs' : (k.dropLine l.index).state = .waiting ∨ (k.dropLine l.index).state = .queued := hs
  rw [Ticket.voided, Ticket.voided, if_pos hs, if_pos hs', Ticket.keptBy_take h]
  rfl

theorem Ticket.voided_mark (h : (k.cooks c l || k.gathers c l) = true)
    (hs : ¬ (k.state = .waiting ∨ k.state = .queued)) :
    k.voided c (l :: ls) = (k.markLine l.index).voided c ls := by
  have hs' : ¬ ((k.markLine l.index).state = .waiting ∨ (k.markLine l.index).state = .queued) := hs
  rw [Ticket.voided, Ticket.voided, if_neg hs, if_neg hs', Ticket.markedBy_take h]
  rfl

theorem Ticket.emptiedBy_iff : k.emptiedBy c ls = true ↔
    (k.state = .waiting ∨ k.state = .queued) ∧ k.touched c ls ≠ [] ∧ k.keptBy c ls = [] := by
  simp [Ticket.emptiedBy, and_assoc]

theorem Ticket.emptiedBy_drop (h : (k.cooks c l || k.gathers c l) = true)
    (hs : k.state = .waiting ∨ k.state = .queued) (hk : (k.dropLine l.index).entries ≠ []) :
    k.emptiedBy c (l :: ls) = (k.dropLine l.index).emptiedBy c ls := by
  have hsame : (k.dropLine l.index).touched c ls = k.touched c ls := rfl
  have hs' : (k.dropLine l.index).state = .waiting ∨ (k.dropLine l.index).state = .queued := hs
  rw [Bool.eq_iff_iff, Ticket.emptiedBy_iff, Ticket.emptiedBy_iff, Ticket.keptBy_take h, hsame]
  refine and_congr (iff_of_true hs hs') (and_congr_left fun hkept => iff_of_true ?_ fun hnil => hk ?_)
  · rw [Ticket.touched_take h]
    exact List.cons_ne_nil _ _
  · rw [← hkept, Ticket.keptBy, hsame, hnil]
    simp

end

section
variable {k : Ticket} {c : Check} {l : Line}

theorem Ticket.not_queue_iff : ¬ (k.state = .waiting ∨ k.state = .queued) ↔ k.isOut = true ∨ k.state = .bumped := by
  unfold Ticket.isOut
  cases k.state <;> decide

theorem Ticket.gatherVoid_other (h : k.gathers c l = false) : k.gatherVoid c l = k := if_neg (by simp [h])

/-- The void of a line on the NORMAL ticket that carries it. -/
theorem Ticket.fate_cooked (ls : List Line) (hc : k.cooks c l = true) : k.fate c (l :: ls) =
    if k.state = .queued then
      if (k.dropLine l.index).entries = [] then none else (k.dropLine l.index).fate c ls
    else (k.markLine l.index).fate c ls := by
  have hdrop : (k.dropLine l.index).gatherVoid c l = k.dropLine l.index :=
    Ticket.gatherVoid_other (k := k.dropLine l.index) (Ticket.gathers_of_cooks (k := k) hc)
  have hmark : (k.markLine l.index).gatherVoid c l = k.markLine l.index :=
    Ticket.gatherVoid_other (k := k.markLine l.index) (Ticket.gathers_of_cooks (k := k) hc)
  rw [Ticket.fate, Ticket.cookVoid, if_pos hc]
  split
  · split
    · rfl
    · rw [Option.map_some, hdrop, Option.bind_some]
  · rw [Option.map_some, hmark, Option.bind_some]

theorem Ticket.fate_other (ls : List Line) (hc : k.cooks c l = false) :
    k.fate c (l :: ls) = (k.gatherVoid c l).fate c ls := by
  have hcook : k.cookVoid c l = some k := if_neg (by simp [hc])
  rw [Ticket.fate, hcook, Option.map_some, Option.bind_some]

end

/-- What becomes of a ticket in a void event. -/
theorem Ticket.fate_eq (c : Check) (ls : List Line) {k : Ticket} (hk : k.kind = .normal → k.state ≠ .waiting) :
    k.fate c ls = if k.kind = .normal ∧ k.emptiedBy c ls = true then none else some (k.voided c ls) := by
  induction ls generalizing k with
  | nil =>
    rw [Ticket.emptiedBy_untouched rfl, Ticket.voided_untouched rfl, if_neg fun h => Bool.false_ne_true h.2]
    rfl
  | cons l ls ih =>
    have ihdrop : (k.dropLine l.index).fate c ls =
        if k.kind = .normal ∧ (k.dropLine l.index).emptiedBy c ls = true then none
        else some ((k.dropLine l.index).voided c ls) := ih hk
    have ihmark : (k.markLine l.index).fate c ls =
        if k.kind = .normal ∧ (k.markLine l.index).emptiedBy c ls = true then none
        else some ((k.markLine l.index).voided c ls) := ih hk
    cases hc : k.cooks c l with
    | true =>
      have hany : (k.cooks c l || k.gathers c l) = true := by rw [hc]; rfl
      have hkind := (Ticket.cooks_iff.1 hc).2.1
      rw [Ticket.fate_cooked ls hc]
      by_cases hq : k.state = .queued
      · rw [if_pos hq]
        by_cases hempty : (k.dropLine l.index).entries = []
        · have hkept : (k.dropLine l.index).keptBy c ls = [] := by rw [Ticket.keptBy, hempty]; rfl
          have hall : k.emptiedBy c (l :: ls) = true := Ticket.emptiedBy_iff.2
            ⟨.inr hq, by rw [Ticket.touched_take hany]; exact List.cons_ne_nil _ _, by rwa [Ticket.keptBy_take hany]⟩
          rw [if_pos hempty, if_pos ⟨hkind, hall⟩]
        · rw [if_neg hempty, ihdrop, Ticket.emptiedBy_drop hany (.inr hq) hempty, Ticket.voided_drop hany (.inr hq)]
      · have hout : ¬ (k.state = .waiting ∨ k.state = .queued) := not_or.2 ⟨hk hkind, hq⟩
        have hbefore : ¬ k.emptiedBy c (l :: ls) = true := fun h => hout (Ticket.emptiedBy_iff.1 h).1
        have hafter : ¬ (k.markLine l.index).emptiedBy c ls = true := fun h => hout (Ticket.emptiedBy_iff.1 h).1
        rw [if_neg hq, ihmark, if_neg fun h => hafter h.2, if_neg fun h => hbefore h.2, Ticket.voided_mark hany hout]
    | false =>
      rw [Ticket.fate_other ls hc]
      cases hg : k.gathers c l with
      | true =>
        have hany : (k.cooks c l || k.gathers c l) = true := by rw [hg, Bool.or_true]
        obtain ⟨-, hkind, -, hlive⟩ := Ticket.gathers_iff.1 hg
        have hnormal (p : Prop) : ¬ (k.kind = .normal ∧ p) := fun h => by cases hkind.symm.trans h.1
        rw [Ticket.gatherVoid, if_pos hg, if_neg (hnormal _)]
        by_cases hout : k.isOut = true
        · rw [if_pos hout, ihmark, if_neg (hnormal _), Ticket.voided_mark hany (Ticket.not_queue_iff.2 (.inl hout))]
        · have hs : k.state = .waiting ∨ k.state = .queued :=
            by_contra fun h => (Ticket.not_queue_iff.1 h).elim hout hlive
          rw [if_neg hout, ihdrop, if_neg (hnormal _), Ticket.voided_drop hany hs]
      | false =>
        have hskip : k.touched c (l :: ls) = k.touched c ls := Ticket.touched_skip (by rw [hc, hg]; rfl)
        have hempty : k.emptiedBy c (l :: ls) = k.emptiedBy c ls := by
          rw [Ticket.emptiedBy, Ticket.keptBy, hskip]
          rfl
        have hvoid : k.voided c (l :: ls) = k.voided c ls := by
          rw [Ticket.voided, Ticket.keptBy, Ticket.markedBy, hskip]
          rfl
        rw [Ticket.gatherVoid_other hg, ih hk, hempty, hvoid]

end Sys2Proof.Machine
end

section
/-! PROOFS. ASSEMBLYs settled after a void event (R112, R115). -/
namespace Sys2Proof.Machine

/-! ### What settling makes of the tickets (R112, R115) -/

/-- An ASSEMBLY that settling looks at: WAITING or QUEUED. -/
def Ticket.pends (a : Ticket) : Bool :=
  decide (a.kind = .assembly) && (decide (a.state = .waiting) || decide (a.state = .queued))

/-- An ASSEMBLY that settling frees: it has no entry left. -/
def Ticket.dissolves (a : Ticket) : Bool := a.pends && a.entries.isEmpty

/-- An ASSEMBLY with its wait count, QUEUED when it WAITED and waits for nothing. -/
def Work.counted (w : Work) (a : Ticket) : Ticket :=
  { a with wait := w.waitOf none a
           state := if a.state = .waiting ∧ w.waitOf none a = 0 then .queued else a.state }

/-- A ticket with a wait count. -/
def Ticket.waits (k : Nat) (t : Ticket) : Ticket := { t with wait := k }

/-- The components of an ASSEMBLY have lost their references to it. -/
def Work.forgotten (a : Ticket) (w : Work) : Work := { w with kr := { w.kr with tickets := w.kr.tickets.map a.forget } }

/-- A reference to an ASSEMBLY outlives the settling of these tickets. -/
def Work.keepsRef (w : Work) (ns : List Nat) (k : Ticket) (x : Nat) : Bool :=
  !(decide (x ∈ ns) && (w.ticket? x).any fun a => a.dissolves && decide (a.check = k.check))

/-- A NORMAL ticket after the settling of these tickets. -/
def Work.refs (w : Work) (ns : List Nat) (k : Ticket) : Ticket :=
  { k with assembly := k.assembly.filter (w.keepsRef ns k) }

/-- How many VOID tickets there are. -/
def Work.voidCount (w : Work) : Nat := w.kr.tickets.countP fun k => decide (k.kind = .void)

/-- The tickets of these numbers have been settled. -/
structure Work.Settles (ns : List Nat) (w v : Work) : Prop where
  ports   : v.ports = w.ports
  absent  : ∀ m, w.ticket? m = none → v.ticket? m = none
  still   : ∀ m k, w.ticket? m = some k → k.kind ≠ .normal → (m ∈ ns → k.pends = false) → v.ticket? m = some k
  normal  : ∀ m k, w.ticket? m = some k → k.kind = .normal → v.ticket? m = some (w.refs ns k)
  gone    : ∀ m ∈ ns, ∀ a, w.ticket? m = some a → a.dissolves = true → v.ticket? m = none
  counted : ∀ m ∈ ns, ∀ a, w.ticket? m = some a → a.pends = true → a.entries ≠ [] → v.ticket? m = some (w.counted a)
  joined  : ∀ m ∈ ns, ∀ a, w.ticket? m = some a → a.pends = true → a.entries ≠ [] → a.state = .waiting →
    w.waitOf none a = 0 → m ∈ (v.station a.station).normalQ
  queues  : ∀ m s, m ∉ ns → m ∈ (w.station s).normalQ → m ∈ (v.station s).normalQ
  waits   : ∀ a, (∀ b, w.ticket? a.number = some b → b.dissolves = false) → v.waitOf none a = w.waitOf none a
  voids   : v.voidCount = w.voidCount

theorem Ticket.pends_iff {a : Ticket} :
    a.pends = true ↔ a.kind = .assembly ∧ (a.state = .waiting ∨ a.state = .queued) := by
  simp [Ticket.pends]

theorem Ticket.dissolves_iff {a : Ticket} : a.dissolves = true ↔ a.pends = true ∧ a.entries = [] := by
  simp [Ticket.dissolves]

theorem Ticket.pends_of_normal {k : Ticket} (h : k.kind = .normal) : k.pends = false := by
  simp [Ticket.pends, h]

theorem Ticket.holdsBack_iff {a t : Ticket} : a.holdsBack t = true ↔ t.waitedFor a := by
  simp only [Ticket.holdsBack, Ticket.partOf, Ticket.unmarked, Ticket.names, Ticket.waitedFor, Bool.and_eq_true,
    decide_eq_true_iff, List.any_eq_true, List.mem_filterMap, List.mem_filter, Bool.not_eq_true', beq_iff_eq]
  constructor
  · rintro ⟨⟨⟨⟨hkind, hasm⟩, hcheck⟩, hstate⟩, i, ⟨e, ⟨he, hev⟩, hei⟩, f, hf, hfi, hfv⟩
    exact ⟨hkind, hcheck, hasm, hstate, e, he, f, hf, hev, hfv, by rw [hei]; rfl, hei.trans hfi.symm⟩
  · rintro ⟨hkind, hcheck, hasm, hstate, e, he, f, hf, hev, hfv, hsome, hline⟩
    obtain ⟨i, hi⟩ := Option.isSome_iff_exists.1 hsome
    exact ⟨⟨⟨⟨hkind, hasm⟩, hcheck⟩, hstate⟩, i, ⟨e, ⟨he, hev⟩, hi⟩, f, hf, hline.symm.trans hi, hfv⟩

theorem Ticket.holdsBack_of_kind {a t : Ticket} (h : t.kind ≠ .normal) : a.holdsBack t = false :=
  Bool.eq_false_iff.2 fun hb => h (Ticket.holdsBack_iff.1 hb).1

theorem Work.waitOf_eq (w : Work) (a : Ticket) : w.waitOf none a = w.kr.tickets.countP a.holdsBack := by
  simp [Work.waitOf]

/-! ### One ticket settled -/

theorem Work.refs_of_kept {w : Work} {ns : List Nat} {k : Ticket} (h : ∀ x ∈ ns, ∀ a, w.ticket? x = some a →
    a.dissolves = false) : w.refs ns k = k := by
  have hkeep : w.keepsRef ns k = fun _ => true := by
    funext x
    rw [Work.keepsRef, Bool.not_eq_true', Bool.and_eq_false_iff]
    by_cases hx : x ∈ ns
    · right
      cases ht : w.ticket? x with
      | none => rfl
      | some a => simp [h x hx a ht]
    · exact .inl (decide_eq_false hx)
  have hall (o : Option Nat) : o.filter (fun _ => true) = o := by cases o <;> rfl
  rw [Work.refs, hkeep, hall]

theorem Work.refs_of_dissolves {w : Work} {n : Nat} {a k : Ticket} (ha : w.ticket? n = some a) (hd : a.dissolves = true)
    (hk : k.kind = .normal) : w.refs [n] k = a.forget k := by
  have hn : a.number = n := (lookupBy_some ha).2
  have hhere : w.keepsRef [n] k n = !decide (a.check = k.check) := by simp [Work.keepsRef, ha, hd]
  have hother {x : Nat} (hx : x ≠ n) : w.keepsRef [n] k x = true := by simp [Work.keepsRef, hx]
  unfold Work.refs Ticket.forget
  split
  · rename_i hpart
    simp only [Ticket.partOf, Bool.and_eq_true, decide_eq_true_iff] at hpart
    obtain ⟨⟨-, hasm⟩, hc⟩ := hpart
    rw [hasm, hn, Option.filter_some, hhere, hc]
    simp
  · rename_i hpart
    have hkept : k.assembly.filter (w.keepsRef [n] k) = k.assembly := by
      cases hasm : k.assembly with
      | none => rfl
      | some x =>
        rw [Option.filter_some, if_pos]
        by_cases hx : x = n
        · rw [hx, hhere, Bool.not_eq_true', decide_eq_false_iff_not]
          intro hc
          simp [Ticket.partOf, hk, hasm, hx, hn, hc] at hpart
        · exact hother hx
    rw [hkept]

theorem Work.Settles.nothing {w : Work} {ns : List Nat} (h : ∀ m ∈ ns, ∀ a, w.ticket? m = some a → a.pends = false) :
    w.Settles ns w := by
  have hnot {m : Nat} (hm : m ∈ ns) {a : Ticket} (ha : w.ticket? m = some a) : ¬ a.pends = true := by
    rw [h m hm a ha]
    exact Bool.false_ne_true
  refine ⟨rfl, fun _ h => h, fun _ _ h _ _ => h, fun m k hk _ => ?_,
    fun m hm a ha hd => absurd (Ticket.dissolves_iff.1 hd).1 (hnot hm ha), fun m hm a ha hp => absurd hp (hnot hm ha),
    fun m hm a ha hp => absurd hp (hnot hm ha), fun _ _ _ h => h, fun _ _ => rfl, rfl⟩
  rw [Work.refs_of_kept fun x hx a ha => by rw [Ticket.dissolves, h x hx a ha]; rfl]
  exact hk

/-- A ticket freed leaves every queue but its own place. -/
theorem Work.mem_freeTicket_queue {n m : Nat} (h : m ≠ n) (s : StationId) {w : Work}
    (hm : m ∈ (w.station s).normalQ) : m ∈ ((w.freeTicket n).station s).normalQ := by
  cases ht : w.ticket? n with
  | none =>
    rw [Work.freeTicket, ht]
    exact hm
  | some t =>
    have hraw : m ∈ ((w.freeRaw n).station s).normalQ := by
      rw [Work.freeRaw_station ht]
      split
      · rename_i hs
        subst hs
        exact List.mem_filter.2 ⟨hm, bne_iff_ne.2 h⟩
      · exact hm
    rw [Work.freeTicket_eq ht, Work.divertTest_station]
    split
    · rename_i hs
      subst hs
      exact hraw
    · exact hraw

theorem Ticket.forget_kind (a t : Ticket) : (a.forget t).kind = t.kind := by
  unfold Ticket.forget
  split <;> rfl

theorem Ticket.forget_of_kind {a t : Ticket} (h : t.kind ≠ .normal) : a.forget t = t := by
  have hnot : t.partOf a = false := by simp [Ticket.partOf, h]
  rw [Ticket.forget, hnot, if_neg Bool.false_ne_true]

/-- What a ticket holds back does not change when it forgets another ASSEMBLY. -/
theorem Ticket.holdsBack_forget {a b t : Ticket} (h : b.number ≠ a.number) :
    a.holdsBack (b.forget t) = a.holdsBack t := by
  unfold Ticket.forget
  split
  · rename_i hpart
    have hasm : t.assembly = some b.number := by
      simp only [Ticket.partOf, Bool.and_eq_true, decide_eq_true_iff] at hpart
      exact hpart.1.2
    have hbefore : a.holdsBack t = false := Bool.eq_false_iff.2 fun hb => by
      obtain ⟨-, -, hasm', -⟩ := Ticket.holdsBack_iff.1 hb
      exact h (Option.some.inj (hasm.symm.trans hasm'))
    have hafter : a.holdsBack { t with assembly := none } = false := Bool.eq_false_iff.2 fun hb => by
      obtain ⟨-, -, hasm', -⟩ := Ticket.holdsBack_iff.1 hb
      cases hasm'
    rw [hbefore, hafter]
  · rfl

theorem countP_eraseBy {α : Type} {key : α → Nat} {n : Nat} {l : List α} {p : α → Bool}
    (h : ∀ x ∈ l, key x = n → p x = false) : (eraseBy key n l).countP p = l.countP p := by
  rw [eraseBy, List.countP_filter]
  refine List.countP_congr fun x hx => ?_
  by_cases hn : key x = n
  · simp [h x hx hn]
  · simp [hn]

theorem countP_mapBy {α : Type} {key : α → Nat} {n : Nat} {f : α → α} {l : List α} {p : α → Bool}
    (h : ∀ x ∈ l, key x = n → p (f x) = p x) : (mapBy key n f l).countP p = l.countP p := by
  rw [mapBy_eq, List.countP_map]
  refine List.countP_congr fun x hx => ?_
  rw [Function.comp_apply]
  split
  · rename_i hn
    rw [h x hx hn]
  · rfl

theorem Work.eq_of_number {w : Work} (h : Rising Ticket.number w.kr.tickets) {n : Nat} {a t : Ticket}
    (ha : w.ticket? n = some a) (ht : t ∈ w.kr.tickets) (hn : t.number = n) : t = a :=
  h.inj ht (lookupBy_some ha).1 (hn.trans (lookupBy_some ha).2.symm)

section
variable {w : Work} (h : w.Tidy) {n : Nat} {a : Ticket} (ha : w.ticket? n = some a)
include h ha

theorem Work.Tidy.settle_gone (hd : a.dissolves = true) : w.Settles [n] (w.settleAssembly none n) := by
  obtain ⟨hp, hempty⟩ := Ticket.dissolves_iff.1 hd
  have hpends := Ticket.pends_iff.1 hp
  have hassembly : a.kind ≠ .normal := by simp [hpends.1]
  have hsettle : w.settleAssembly none n = (w.forgotten a).freeTicket n := by
    rw [Work.settleAssembly, ha]
    simp only
    rw [if_pos hpends, if_pos hempty]
    rfl
  have hu (m : Nat) : (w.forgotten a).ticket? m = (w.ticket? m).map a.forget := lookupBy_map (a.forget_number) m _
  have hplaced : (w.forgotten a).Placed := h.placed.congr (Work.mapTickets_placing a.forget_number a.forget_stub w)
  have hv (m : Nat) : (w.settleAssembly none n).ticket? m = if m = n then none else (w.ticket? m).map a.forget := by
    rw [hsettle, Work.freeTicket_ticket?, hu]
  have hsame {m : Nat} {b : Ticket} (hm : m ∈ [n]) (hb : w.ticket? m = some b) : b = a := by
    cases List.mem_singleton.1 hm
    cases ha.symm.trans hb
    rfl
  have hnumber : ∀ t ∈ w.kr.tickets, t.number = n → t = a := fun t ht hn => Work.eq_of_number h.fits.rising ha ht hn
  have hlist : (w.settleAssembly none n).kr.tickets = eraseBy Ticket.number n (w.kr.tickets.map a.forget) := by
    rw [hsettle, Work.freeTicket_tickets]
    rfl
  have hcount {p : Ticket → Bool} (hpa : p a = false) (hforget : ∀ t, p (a.forget t) = p t) :
      (w.settleAssembly none n).kr.tickets.countP p = w.kr.tickets.countP p := by
    rw [hlist, countP_eraseBy, List.countP_map]
    · exact List.countP_congr fun t _ => by rw [Function.comp_apply, hforget]
    · intro k hk hn
      obtain ⟨t, ht, rfl⟩ := List.mem_map.1 hk
      rw [hforget, hnumber t ht ((a.forget_number t).symm.trans hn), hpa]
  refine ⟨?_, fun m hm => ?_, fun m k hk hkind hm => ?_, fun m k hk hkind => ?_, fun m hm b _ _ => ?_,
    fun m hm b hb _ he => absurd (hsame hm hb ▸ hempty) he, fun m hm b hb _ he => absurd (hsame hm hb ▸ hempty) he,
    fun m s hm hq => ?_, fun b hb => ?_, ?_⟩
  · rw [hsettle]
    refine (hplaced.freeTicket_ports (t := a) ?_ ?_).trans rfl
    · rw [hu, ha, Option.map_some, Ticket.forget_of_kind hassembly]
    · rcases hpends.2 with hs | hs <;> simp [hs]
  · rw [hv, hm]
    split <;> rfl
  · have hne : m ≠ n := by
      rintro rfl
      cases ha.symm.trans hk
      rw [hm (List.mem_singleton_self _)] at hp
      cases hp
    rw [hv, if_neg hne, hk, Option.map_some, Ticket.forget_of_kind hkind]
  · have hne : m ≠ n := by
      rintro rfl
      cases ha.symm.trans hk
      exact hassembly hkind
    rw [hv, if_neg hne, hk, Option.map_some, Work.refs_of_dissolves ha hd hkind]
  · rw [hv, if_pos (List.mem_singleton.1 hm)]
  · rw [hsettle]
    exact Work.mem_freeTicket_queue (fun e => hm (List.mem_singleton.2 e)) s hq
  · have hne : a.number ≠ b.number := fun e => by
      have := hb a (by rw [← e, (lookupBy_some ha).2, ha])
      rw [hd] at this
      cases this
    rw [Work.waitOf_eq, Work.waitOf_eq]
    exact hcount (Ticket.holdsBack_of_kind hassembly) fun t => Ticket.holdsBack_forget hne
  · exact hcount (by simp [hpends.1]) fun t => by rw [Ticket.forget_kind]

/-- Which tickets stand after an ASSEMBLY has been counted, and in which queue. -/
theorem Work.Tidy.settle_tickets (hp : a.pends = true) (he : a.entries ≠ []) :
    (w.settleAssembly none n).ports = w.ports ∧
    (∀ m, (w.settleAssembly none n).ticket? m = if m = n then some (w.counted a) else w.ticket? m) ∧
    (∀ m s, m ∈ (w.station s).normalQ → m ∈ ((w.settleAssembly none n).station s).normalQ) ∧
    (a.state = .waiting → w.waitOf none a = 0 → n ∈ ((w.settleAssembly none n).station a.station).normalQ) ∧
    ∀ p : Ticket → Bool, (∀ t u : Ticket, t.kind = a.kind → u.kind = a.kind → p t = p u) →
      (w.settleAssembly none n).kr.tickets.countP p = w.kr.tickets.countP p := by
  have hpends := Ticket.pends_iff.1 hp
  have hnumber : ∀ t ∈ w.kr.tickets, t.number = n → t = a := fun t ht hn => Work.eq_of_number h.fits.rising ha ht hn
  have hwait (m : Nat) : (w.onTicket n (Ticket.waits (w.waitOf none a))).ticket? m =
      if m = n then some (a.waits (w.waitOf none a)) else w.ticket? m := by
    rw [Work.onTicket_ticket? (fun _ => by rfl), ha]
    rfl
  have hcount {p : Ticket → Bool} (hp : ∀ t u : Ticket, t.kind = a.kind → u.kind = a.kind → p t = p u) :
      (w.onTicket n (Ticket.waits (w.waitOf none a))).kr.tickets.countP p = w.kr.tickets.countP p := by
    refine countP_mapBy fun t ht hn => ?_
    cases hnumber t ht hn
    exact hp _ _ rfl rfl
  by_cases hready : a.state = .waiting ∧ w.waitOf none a = 0
  · have hsettle : w.settleAssembly none n =
        (w.onTicket n (Ticket.waits (w.waitOf none a))).queueNormal n a.station := by
      rw [Work.settleAssembly, ha]
      simp only
      rw [if_pos hpends, if_neg he, if_pos hready]
      rfl
    have hqueue (s : StationId) : ((w.settleAssembly none n).station s).normalQ =
        if s = a.station then (w.station a.station).normalQ ++ [n] else (w.station s).normalQ := by
      rw [hsettle, Work.queueNormal, Work.divertTest_station, Work.onStation_station, Work.onStation_station,
        if_pos rfl]
      split <;> rfl
    refine ⟨?_, fun m => ?_, fun m s hm => ?_, fun _ _ => ?_, fun p hp' => ?_⟩
    · rw [hsettle, Work.queueNormal, Work.divertTest_ports]
      rfl
    · rw [hsettle, Work.queueNormal, Work.divertTest_ticket?, Work.onStation_ticket?,
        Work.onTicket_ticket? (fun _ => by rfl), hwait, hwait, if_pos rfl, Work.counted, if_pos hready]
      split <;> rfl
    · rw [hqueue]
      split
      · rename_i hs
        exact List.mem_append_left _ (hs ▸ hm)
      · exact hm
    · rw [hqueue, if_pos rfl]
      exact List.mem_append_right _ (List.mem_singleton_self n)
    · rw [hsettle, Work.queueNormal, Work.divertTest_tickets, ← hcount hp']
      refine countP_mapBy fun t ht hn => ?_
      have ht' : (w.onTicket n (Ticket.waits (w.waitOf none a))).ticket? n = some t := by
        have hrise : Rising Ticket.number (w.onTicket n (Ticket.waits (w.waitOf none a))).kr.tickets :=
          ((w.onTicket_routes n (f := Ticket.waits (w.waitOf none a)) (fun _ => rfl)).fits h.fits).rising
        have hfound := lookupBy_of_mem hrise ht
        rwa [hn] at hfound
      rw [hwait, if_pos rfl] at ht'
      cases ht'
      exact hp' _ _ rfl rfl
  · have hsettle : w.settleAssembly none n = w.onTicket n (Ticket.waits (w.waitOf none a)) := by
      rw [Work.settleAssembly, ha]
      simp only
      rw [if_pos hpends, if_neg he, if_neg hready]
      rfl
    rw [hsettle]
    refine ⟨rfl, fun m => ?_, fun m s hm => hm, fun hs hw => absurd ⟨hs, hw⟩ hready, fun p hp' => hcount hp'⟩
    rw [hwait, Work.counted, if_neg hready]
    rfl

theorem Work.Tidy.settle_counted (hp : a.pends = true) (he : a.entries ≠ []) :
    w.Settles [n] (w.settleAssembly none n) := by
  obtain ⟨hports, hv, hqueues, hjoins, hcount⟩ := h.settle_tickets ha hp he
  have hassembly : a.kind ≠ .normal := by simp [(Ticket.pends_iff.1 hp).1]
  have hstays : a.dissolves = false := Bool.eq_false_iff.2 fun hd => he (Ticket.dissolves_iff.1 hd).2
  have hsame {m : Nat} {b : Ticket} (hm : m ∈ [n]) (hb : w.ticket? m = some b) : m = n ∧ b = a := by
    cases List.mem_singleton.1 hm
    cases ha.symm.trans hb
    exact ⟨rfl, rfl⟩
  have hne {m : Nat} {k : Ticket} (hk : w.ticket? m = some k) (hd : k ≠ a) : m ≠ n := by
    rintro rfl
    exact hd (Option.some.inj (hk.symm.trans ha))
  refine ⟨hports, fun m hm => ?_, fun m k hk hkind hm => ?_, fun m k hk hkind => ?_, fun m hm b hb hd => ?_,
    fun m hm b hb _ _ => ?_, fun m hm b hb _ _ hs hw => ?_, fun m s _ hq => hqueues m s hq, fun b _ => ?_, ?_⟩
  · have : m ≠ n := by
      rintro rfl
      cases hm.symm.trans ha
    rw [hv, if_neg this, hm]
  · refine (hv m).trans ((if_neg (hne hk ?_)).trans hk)
    rintro rfl
    have hm' : m ∈ [n] := List.mem_singleton.2 ((lookupBy_some hk).2.symm.trans (lookupBy_some ha).2)
    cases hp.symm.trans (hm hm')
  · rw [hv, if_neg (hne hk fun e => hassembly (e ▸ hkind)), hk, Work.refs_of_kept fun x hx b hb => ?_]
    rw [(hsame hx hb).2, hstays]
  · cases hd.symm.trans ((hsame hm hb).2 ▸ hstays)
  · obtain ⟨rfl, rfl⟩ := hsame hm hb
    rw [hv, if_pos rfl]
  · obtain ⟨rfl, rfl⟩ := hsame hm hb
    exact hjoins hs hw
  · rw [Work.waitOf_eq, Work.waitOf_eq]
    refine hcount _ fun t u ht hu => ?_
    rw [Ticket.holdsBack_of_kind (by rw [ht]; exact hassembly), Ticket.holdsBack_of_kind (by rw [hu]; exact hassembly)]
  · exact hcount _ fun t u ht hu => by rw [ht, hu]

end

theorem Work.Tidy.settles_one {w : Work} (h : w.Tidy) (n : Nat) : w.Settles [n] (w.settleAssembly none n) := by
  cases ha : w.ticket? n with
  | none =>
    rw [show w.settleAssembly none n = w by rw [Work.settleAssembly, ha]]
    refine .nothing fun m hm a hm' => ?_
    cases List.mem_singleton.1 hm
    cases ha.symm.trans hm'
  | some a =>
    cases hp : a.pends with
    | true =>
      by_cases he : a.entries = []
      · exact h.settle_gone ha (Ticket.dissolves_iff.2 ⟨hp, he⟩)
      · exact h.settle_counted ha hp he
    | false =>
      have hidle : w.settleAssembly none n = w := by
        rw [Work.settleAssembly, ha]
        refine if_neg fun hc => ?_
        cases hp.symm.trans (Ticket.pends_iff.2 hc)
      rw [hidle]
      refine .nothing fun m hm b hb => ?_
      cases List.mem_singleton.1 hm
      cases ha.symm.trans hb
      exact hp

/-! ### All ASSEMBLYs settled, one after another -/

section
variable {ns : List Nat} {n : Nat} {u v w : Work} (h : u.Settles [n] v)
include h

/-- An ASSEMBLY still to be settled is as it was. -/
theorem Work.Settles.before {m : Nat} {b : Ticket} (hm : m ≠ n) (hb : b.dissolves = true ∨ b.pends = true) :
    v.ticket? m = some b ↔ u.ticket? m = some b := by
  have hp : b.pends = true := hb.elim (fun hd => (Ticket.dissolves_iff.1 hd).1) id
  have hkind : b.kind ≠ .normal := by simp [(Ticket.pends_iff.1 hp).1]
  have hout : m ∉ [n] := fun hmem => hm (List.mem_singleton.1 hmem)
  constructor
  · intro hv
    cases hu : u.ticket? m with
    | none => cases (h.absent m hu).symm.trans hv
    | some k =>
      by_cases hk : k.kind = .normal
      · cases (h.normal m k hu hk).symm.trans hv
        exact absurd hk hkind
      · rw [← hv, h.still m k hu hk fun hmem => absurd hmem hout]
  · exact fun hu => h.still m b hu hkind fun hmem => absurd hmem hout

theorem Work.Settles.undissolved (a : Nat) (ha : ∀ b, u.ticket? a = some b → b.dissolves = false) :
    ∀ b, v.ticket? a = some b → b.dissolves = false := by
  intro b hb
  by_contra hd
  rw [Bool.not_eq_false] at hd
  have hp := (Ticket.dissolves_iff.1 hd).1
  by_cases hn : a = n
  · cases hu : u.ticket? a with
    | none => cases (h.absent a hu).symm.trans hb
    | some k =>
      have hmem : a ∈ [n] := List.mem_singleton.2 hn
      by_cases hk : k.kind = .normal
      · cases (h.normal a k hu hk).symm.trans hb
        have := (Ticket.pends_iff.1 hp).1
        cases hk.symm.trans this
      · cases hkp : k.pends with
        | false =>
          cases (h.still a k hu hk fun _ => hkp).symm.trans hb
          cases hkp.symm.trans hp
        | true =>
          by_cases he : k.entries = []
          · cases (ha k hu).symm.trans (Ticket.dissolves_iff.2 ⟨hkp, he⟩)
          · cases (h.counted a hmem k hu hkp he).symm.trans hb
            exact he (Ticket.dissolves_iff.1 hd).2
  · cases (ha b ((h.before hn (.inl hd)).1 hb)).symm.trans hd

theorem Work.Settles.refs_cons (hn : n ∉ ns) (k : Ticket) : v.refs ns (u.refs [n] k) = u.refs (n :: ns) k := by
  have hkeep (x : Nat) : (u.keepsRef [n] k x && v.keepsRef ns (u.refs [n] k) x) = u.keepsRef (n :: ns) k x := by
    by_cases hx : x = n
    · subst hx
      simp [Work.keepsRef, hn]
    · have hany : ((v.ticket? x).any fun a => a.dissolves && decide (a.check = k.check)) =
          (u.ticket? x).any fun a => a.dissolves && decide (a.check = k.check) := by
        rw [Bool.eq_iff_iff, Option.any_eq_true, Option.any_eq_true]
        refine exists_congr fun b => ?_
        by_cases hd : b.dissolves = true
        · rw [h.before hx (.inl hd)]
        · simp [hd]
      have hcheck : (u.refs [n] k).check = k.check := rfl
      simp [Work.keepsRef, hx, hcheck, hany]
  have hfilter (o : Option Nat) : (o.filter (u.keepsRef [n] k)).filter (v.keepsRef ns (u.refs [n] k)) =
      o.filter (u.keepsRef (n :: ns) k) := by
    cases o with
    | none => rfl
    | some x =>
      have := hkeep x
      cases hx : u.keepsRef [n] k x <;> simp_all [Option.filter_some]
  exact congrArg (fun o => ({ k with assembly := o } : Ticket)) (hfilter k.assembly)

theorem Work.Settles.cons (hn : n ∉ ns) (h' : v.Settles ns w) : u.Settles (n :: ns) w := by
  have hother {m : Nat} (hm : m ∈ ns) : m ≠ n := fun e => hn (e ▸ hm)
  have hlast {m : Nat} (hm : m ∈ n :: ns) (hne : m ≠ n) : m ∈ ns := (List.mem_cons.1 hm).resolve_left hne
  have hwaits {a : Ticket} {m : Nat} (ha : u.ticket? m = some a) (he : a.entries ≠ []) :
      v.waitOf none a = u.waitOf none a := h.waits a fun b hb => by
    have hm : a.number = m := (lookupBy_some ha).2
    cases (hm ▸ hb).symm.trans ha
    exact Bool.eq_false_iff.2 fun hd => he (Ticket.dissolves_iff.1 hd).2
  refine ⟨h'.ports.trans h.ports, fun m hm => h'.absent m (h.absent m hm), fun m k hk hkind hp => ?_,
    fun m k hk hkind => ?_, fun m hm a ha hd => ?_, fun m hm a ha hp he => ?_, fun m hm a ha hp he hs hw => ?_,
    fun m s hm hq => ?_, fun a ha => ?_, h'.voids.trans h.voids⟩
  · refine h'.still m k (h.still m k hk hkind fun hm => hp ?_) hkind fun hm => hp (List.mem_cons_of_mem _ hm)
    exact List.mem_singleton.1 hm ▸ List.mem_cons_self
  · rw [h'.normal m _ (h.normal m k hk hkind) hkind, h.refs_cons hn]
  · by_cases hm' : m = n
    · exact h'.absent m (h.gone m (List.mem_singleton.2 hm') a ha hd)
    · exact h'.gone m (hlast hm hm') a ((h.before hm' (.inl hd)).2 ha) hd
  · by_cases hm' : m = n
    · refine h'.still m _ (h.counted m (List.mem_singleton.2 hm') a ha hp he) ?_ fun hmem => absurd hm' (hother hmem)
      rw [Work.counted, (Ticket.pends_iff.1 hp).1]
      decide
    · rw [h'.counted m (hlast hm hm') a ((h.before hm' (.inr hp)).2 ha) hp he, Work.counted, hwaits ha he]
      rfl
  · by_cases hm' : m = n
    · exact h'.queues m _ (fun hmem => hother hmem hm') (h.joined m (List.mem_singleton.2 hm') a ha hp he hs hw)
    · exact h'.joined m (hlast hm hm') a ((h.before hm' (.inr hp)).2 ha) hp he hs ((hwaits ha he).trans hw)
  · rw [List.mem_cons, not_or] at hm
    exact h'.queues m s hm.2 (h.queues m s (fun hmem => hm.1 (List.mem_singleton.1 hmem)) hq)
  · exact (h'.waits a (h.undissolved a.number ha)).trans (h.waits a ha)

end

theorem Work.settleAll_settles {ns : List Nat} {w : Work} (h : w.Tidy) (hnodup : ns.Nodup) :
    w.Settles ns (ns.foldl (fun w n => w.settleAssembly none n) w) := by
  induction ns generalizing w with
  | nil => exact .nothing nofun
  | cons n ns ih =>
    rw [List.nodup_cons] at hnodup
    exact (h.settles_one n).cons hnodup.1 (ih (Work.settleAssembly_tidies none n w h) hnodup.2)

end Sys2Proof.Machine
end

section
/-! PROOFS. Which stations a void event is told to, and their VOID tickets (R113, R116). -/
namespace Sys2Proof.Machine

/-! ### Who is told (R113) -/

/-- An option that picks the one entry of a table with a property. -/
theorem toList_eq_filter {α : Type} {l : List α} (hl : l.Nodup) {o : Option α} {p : α → Bool}
    (h : ∀ x, o = some x ↔ x ∈ l ∧ p x = true) : o.toList = l.filter p := by
  have hmem (x : α) : x ∈ l.filter p ↔ x ∈ o.toList := by
    rw [List.mem_filter, ← h, Option.mem_toList]
  have hnodup : o.toList.Nodup := by cases o <;> simp
  have hperm : (l.filter p).Perm o.toList := (List.perm_ext_iff_of_nodup (hl.filter p) hnodup).2 hmem
  cases o with
  | none => exact (List.perm_nil.1 hperm).symm
  | some x => exact (List.perm_singleton.1 hperm).symm

theorem Rising.nodup {α : Type} {key : α → Nat} {l : List α} (h : Rising key l) : l.Nodup :=
  List.Nodup.of_map key (List.Pairwise.imp Nat.ne_of_lt h)

/-- A ticket is out at a station. -/
def Ticket.outAt (st : StationId) (k : Ticket) : Bool :=
  decide (k.station = st) && (decide (k.state = .sending) || decide (k.state = .shown))

section
variable {s : State} (h : Rising Ticket.number s.kr.tickets) (c : Check) (l : Line) (st : StationId)
include h

theorem State.cooks_out : (((if l.state = .fired then s.work.normalOf c l else none).filter Ticket.isOut).filter
    fun k => decide (k.station = st)).toList =
      s.kr.tickets.filter fun k => k.outAt st && decide (l.state = .fired) && k.cooks c l := by
  refine toList_eq_filter h.nodup fun k => ?_
  rw [Option.filter_eq_some_iff, Option.filter_eq_some_iff]
  by_cases hf : l.state = .fired
  · rw [if_pos hf, Work.normalOf_iff (w := s.work) h]
    simp only [State.work_kr, Ticket.outAt, Ticket.isOut, hf, Bool.and_eq_true, decide_eq_true_iff]
    tauto
  · rw [if_neg hf]
    simp [hf]

theorem State.gathers_out : (((s.work.assemblyOf c l).filter Ticket.isOut).filter
    fun k => decide (k.station = st)).toList = s.kr.tickets.filter fun k => k.outAt st && k.gathers c l := by
  refine toList_eq_filter h.nodup fun k => ?_
  rw [Option.filter_eq_some_iff, Option.filter_eq_some_iff, Work.assemblyOf_iff (w := s.work) h]
  simp only [State.work_kr, Ticket.outAt, Ticket.isOut, Bool.and_eq_true, decide_eq_true_iff]
  tauto

/-- What a station is told is what the void path cancels there. -/
theorem State.told_eq (ls : List Line) :
    ((ls.flatMap (s.work.cancels c)).filter fun x => decide (x.1 = st)).map Prod.snd =
    s.told c ls st := by
  rw [List.filter_flatMap, List.map_flatMap, State.told]
  refine List.flatMap_congr fun l _ => ?_
  have hhere (ks : List Ticket) : ((ks.map fun k : Ticket => (k.station, k.number, l)).filter
      fun x => decide (x.1 = st)).map Prod.snd =
        (ks.filter fun k => decide (k.station = st)).map fun k => (k.number, l) := by
    rw [List.filter_map, List.map_map]
    rfl
  rw [Work.cancels, hhere, List.filter_append, ← Option.toList_filter, ← Option.toList_filter,
    State.cooks_out h, State.gathers_out h]
  rfl

theorem State.toldStations_eq (ls : List Line) :
    cancelStations (ls.flatMap (s.work.cancels c)) = s.toldStations c ls := by
  refine List.filter_congr fun st _ => ?_
  rw [← State.told_eq h c st ls, Bool.eq_iff_iff, List.any_eq_true, Bool.not_eq_true', List.isEmpty_eq_false_iff,
    Ne, List.map_eq_nil_iff, List.filter_eq_nil_iff]
  push Not
  rfl

end

/-! ### VOID tickets (R116) -/

/-- The VOID ticket of a station. -/
def Work.voidTicket (w : Work) (c : Check) (told : List (Nat × Line)) (n : Nat) (st : StationId) : Ticket where
  number := n
  kind := .void
  remake := false
  station := st
  check := some c.number
  stand := c.stand
  pickup := c.pickup
  fired := w.now.secs
  entries := told.map fun x => { line := some x.2.index, item := x.2.item, qty := x.2.qty, mods := x.2.mods,
                                 voided := true }
  state := .queued
  wait := 0
  assembly := none
  original := told.head?.map Prod.fst

/-- What a station is told, of what a void event cancels. -/
def toldAt (cs : List (StationId × Nat × Line)) (st : StationId) : List (Nat × Line) :=
  (cs.filter fun x => decide (x.1 = st)).map Prod.snd

theorem Work.makeVoid_eq (c : Check) (cs : List (StationId × Nat × Line)) (st : StationId) (w : Work) :
    w.makeVoid c cs st = (w.takeNumber.2.putTicket (w.voidTicket c (toldAt cs st) w.takeNumber.1 st)).queueVoid
      w.takeNumber.1 st := by
  have hentries (here : List (StationId × Nat × Line)) :
      here.map (fun x => ({ x.2.2.entry with voided := true } : TicketEntry)) = (here.map Prod.snd).map fun x =>
        { line := some x.2.index, item := x.2.item, qty := x.2.qty, mods := x.2.mods, voided := true } := by
    rw [List.map_map]
    rfl
  have horiginal (here : List (StationId × Nat × Line)) :
      here.head?.map (fun x => x.2.1) = (here.map Prod.snd).head?.map Prod.fst := by
    cases here <;> rfl
  unfold Work.makeVoid
  simp only [hentries, horiginal]
  rfl

/-- VOID tickets have been made for these stations. -/
structure Work.Tells (c : Check) (cs : List (StationId × Nat × Line)) (sts : List StationId) (w v : Work) : Prop where
  now    : v.now = w.now
  ports  : v.ports = w.ports
  size   : v.kr.tickets.length = w.kr.tickets.length + sts.length
  kept   : ∀ m k, w.ticket? m = some k → v.ticket? m = some k
  known  : ∀ m k, v.ticket? m = some k → w.ticket? m = some k ∨ k.kind = .void
  queues : ∀ s, (v.station s).normalQ = (w.station s).normalQ
  stay   : ∀ m s, m ∈ (w.station s).voidQ → m ∈ (v.station s).voidQ
  count  : ∀ p : Ticket → Bool, (∀ t, t.kind = .void → p t = false) → v.kr.tickets.countP p = w.kr.tickets.countP p
  voids  : v.voidCount = w.voidCount + sts.length
  made   : ∀ st ∈ sts, ∃ n, w.ticket? n = none ∧ v.ticket? n = some (w.voidTicket c (toldAt cs st) n st) ∧
    n ∈ (v.station st).voidQ

theorem Work.takeNumber_ticket? (w : Work) (m : Nat) : w.takeNumber.2.ticket? m = w.ticket? m := rfl

theorem Work.makeVoid_tells (c : Check) (cs : List (StationId × Nat × Line)) (st : StationId) {w : Work}
    (h : w.kr.tickets.length < 65535) : w.Tells c cs [st] (w.makeVoid c cs st) := by
  have hfree := Work.takeNumber_free h
  generalize hn : w.takeNumber.1 = n at hfree
  have heq := w.makeVoid_eq c cs st
  rw [hn] at heq
  have hput (m : Nat) : (w.takeNumber.2.putTicket (w.voidTicket c (toldAt cs st) n st)).ticket? m =
      if m = n then some (w.voidTicket c (toldAt cs st) n st) else w.ticket? m :=
    Work.putTicket_ticket? _ _ m
  have hv (m : Nat) : (w.makeVoid c cs st).ticket? m =
      if m = n then some (w.voidTicket c (toldAt cs st) n st) else w.ticket? m := by
    rw [heq, Work.queueVoid, Work.divertTest_ticket?, Work.onStation_ticket?,
      Work.onTicket_ticket? (fun _ => by rfl), hput, hput, if_pos rfl]
    split <;> rfl
  have hstation (s : StationId) : ((w.makeVoid c cs st).station s).normalQ = (w.station s).normalQ ∧
      ((w.makeVoid c cs st).station s).voidQ = if s = st then (w.station st).voidQ ++ [n] else (w.station s).voidQ := by
    rw [heq, Work.queueVoid, Work.divertTest_station, Work.onStation_station, Work.onStation_station, if_pos rfl]
    split
    · rename_i hs
      subst hs
      exact ⟨rfl, rfl⟩
    · exact ⟨rfl, rfl⟩
  have hlist : (w.makeVoid c cs st).kr.tickets = mapBy Ticket.number n (fun t => { t with state := .queued })
      (putBy Ticket.number (w.voidTicket c (toldAt cs st) n st) w.kr.tickets) := by
    rw [heq, Work.queueVoid, Work.divertTest_tickets]
    rfl
  have hperm := putBy_perm (key := Ticket.number) (x := w.voidTicket c (toldAt cs st) n st) (l := w.kr.tickets)
    (lookupBy_eq_none_iff.1 hfree)
  have hcount (p : Ticket → Bool) (hp : ∀ t u : Ticket, t.kind = .void → u.kind = .void → p t = p u) :
      (w.makeVoid c cs st).kr.tickets.countP p =
        w.kr.tickets.countP p + if p (w.voidTicket c (toldAt cs st) n st) = true then 1 else 0 := by
    rw [hlist, countP_mapBy fun t ht hn => ?_, hperm.countP_eq, List.countP_cons]
    rcases List.mem_cons.1 (hperm.mem_iff.1 ht) with rfl | ht
    · exact hp _ _ rfl rfl
    · exact absurd hn (lookupBy_eq_none_iff.1 hfree t ht)
  have hold {m : Nat} {k : Ticket} (hk : w.ticket? m = some k) : m ≠ n := by
    rintro rfl
    cases hfree.symm.trans hk
  refine ⟨?_, ?_, ?_, fun m k hk => ?_, fun m k hk => ?_, fun s => (hstation s).1, fun m s hm => ?_, fun p hp => ?_, ?_,
    fun s hs => ⟨n, hfree, ?_, ?_⟩⟩
  · rw [heq, Work.queueVoid, Work.divertTest_now]
    rfl
  · rw [heq, Work.queueVoid, Work.divertTest_ports]
    rfl
  · rw [hlist, mapBy_length, hperm.length_eq]
    rfl
  · rw [hv, if_neg (hold hk), hk]
  · rw [hv] at hk
    split at hk
    · cases hk
      exact .inr rfl
    · exact .inl hk
  · rw [(hstation s).2]
    split
    · rename_i hs
      exact List.mem_append_left _ (hs ▸ hm)
    · exact hm
  · rw [hcount p fun t u ht hu => by rw [hp t ht, hp u hu], hp _ rfl]
    rfl
  · refine (hcount _ fun t u ht hu => by rw [ht, hu]).trans ?_
    rfl
  · cases List.mem_singleton.1 hs
    rw [hv, if_pos rfl]
  · cases List.mem_singleton.1 hs
    rw [(hstation _).2, if_pos rfl]
    exact List.mem_append_right _ (List.mem_singleton_self n)

theorem Work.makeVoids_tells (c : Check) (cs : List (StationId × Nat × Line)) {sts : List StationId} {w : Work}
    (h : w.kr.tickets.length + sts.length ≤ 1024) :
    w.Tells c cs sts (sts.foldl (fun w st => w.makeVoid c cs st) w) := by
  induction sts generalizing w with
  | nil => exact ⟨rfl, rfl, rfl, fun _ _ h => h, fun _ _ h => .inl h, fun _ => rfl, fun _ _ h => h, fun _ _ => rfl, rfl,
      nofun⟩
  | cons st sts ih =>
    rw [List.length_cons] at h
    have hone := w.makeVoid_tells c cs st (by omega)
    have hrest := ih (w := w.makeVoid c cs st) (by rw [hone.size, List.length_singleton]; omega)
    rw [List.foldl_cons]
    refine ⟨hrest.now.trans hone.now, hrest.ports.trans hone.ports, ?_, fun m k hk => hrest.kept m k (hone.kept m k hk),
      fun m k hk => ?_, fun s => (hrest.queues s).trans (hone.queues s),
      fun m s hm => hrest.stay m s (hone.stay m s hm), fun p hp => (hrest.count p hp).trans (hone.count p hp), ?_,
      List.forall_mem_cons.2 ⟨?_, fun s hs => ?_⟩⟩
    · rw [hrest.size, hone.size, List.length_singleton, List.length_cons]
      omega
    · rcases hrest.known m k hk with hk | hk
      · exact hone.known m k hk
      · exact .inr hk
    · rw [hrest.voids, hone.voids, List.length_singleton, List.length_cons]
      omega
    · obtain ⟨n, hn, hk, hq⟩ := hone.made st (List.mem_singleton_self st)
      exact ⟨n, hn, hrest.kept n _ hk, hrest.stay n st hq⟩
    · obtain ⟨n, hn, hk, hq⟩ := hrest.made s hs
      refine ⟨n, ?_, ?_, hq⟩
      · cases hw : w.ticket? n with
        | none => rfl
        | some k => cases hn.symm.trans (hone.kept n k hw)
      · rw [hk, Work.voidTicket, hone.now]
        rfl

end Sys2Proof.Machine
end

section
/-! PROOFS. A void event in the kitchen, whole (R112 to R116). -/
namespace Sys2Proof.Machine

/-! ### The ASSEMBLYs that a void event touches -/

theorem insertIndex_sorted {is : List Nat} (h : is.Pairwise (· < ·)) (i : Nat) :
    (insertIndex i is).Pairwise (· < ·) := by
  induction is with
  | nil => exact List.pairwise_singleton _ _
  | cons j js ih =>
    obtain ⟨hj, hjs⟩ := List.pairwise_cons.1 h
    unfold insertIndex
    split
    · rename_i hlt
      exact List.pairwise_cons.2 ⟨List.forall_mem_cons.2 ⟨hlt, fun x hx => hlt.trans (hj x hx)⟩, h⟩
    · split
      · exact h
      · rename_i hlt hne
        refine List.pairwise_cons.2 ⟨fun x hx => ?_, ih hjs⟩
        rcases (mem_insertIndex i x js).1 hx with rfl | hx
        · omega
        · exact hj x hx

theorem foldr_insertIndex_sorted (is : List Nat) : (is.foldr insertIndex []).Pairwise (· < ·) := by
  induction is with
  | nil => exact List.Pairwise.nil
  | cons i is ih => exact insertIndex_sorted ih i

theorem mem_foldr_insertIndex {is : List Nat} {x : Nat} : x ∈ is.foldr insertIndex [] ↔ x ∈ is := by
  induction is with
  | nil => rfl
  | cons i is ih => rw [List.foldr_cons, mem_insertIndex, ih, List.mem_cons]

/-- The numbers of the ASSEMBLYs that a void event touches, in ascending order. -/
def Work.touchedNumbers (c : Check) (ls : List Line) (w : Work) : List Nat :=
  (ls.filterMap fun l => (w.assemblyOf c l).map Ticket.number).foldr insertIndex []

theorem Work.touchedNumbers_nodup (c : Check) (ls : List Line) (w : Work) : (w.touchedNumbers c ls).Nodup :=
  (foldr_insertIndex_sorted _).imp Nat.ne_of_lt

theorem Ticket.touched_ne_nil {k : Ticket} {c : Check} {ls : List Line} :
    k.touched c ls ≠ [] ↔ ∃ l ∈ ls, k.cooks c l = true ∨ k.gathers c l = true := by
  rw [Ticket.touched, Ne, List.filter_eq_nil_iff]
  simp [imp_iff_not_or]

theorem Ticket.touched_assembly {k : Ticket} {c : Check} {ls : List Line} (h : k.kind = .assembly) :
    k.touched c ls ≠ [] ↔ ∃ l ∈ ls, k.gathers c l = true := by
  rw [Ticket.touched_ne_nil]
  refine exists_congr fun l => and_congr_right fun _ => or_iff_right fun hc => ?_
  cases h.symm.trans (Ticket.cooks_iff.1 hc).2.1

theorem Work.mem_touchedNumbers {w : Work} (h : Rising Ticket.number w.kr.tickets) {c : Check} {ls : List Line}
    {n : Nat} : n ∈ w.touchedNumbers c ls ↔
      ∃ a ∈ w.kr.tickets, a.number = n ∧ a.kind = .assembly ∧ a.touched c ls ≠ [] := by
  rw [Work.touchedNumbers, mem_foldr_insertIndex, List.mem_filterMap]
  constructor
  · rintro ⟨l, hl, hmap⟩
    obtain ⟨a, ha, rfl⟩ := Option.map_eq_some_iff.1 hmap
    obtain ⟨hm, hg⟩ := (Work.assemblyOf_iff h).1 ha
    have hkind := (Ticket.gathers_iff.1 hg).2.1
    exact ⟨a, hm, rfl, hkind, (Ticket.touched_assembly hkind).2 ⟨l, hl, hg⟩⟩
  · rintro ⟨a, hm, rfl, hkind, ht⟩
    obtain ⟨l, hl, hg⟩ := (Ticket.touched_assembly hkind).1 ht
    exact ⟨l, hl, Option.map_eq_some_iff.2 ⟨a, (Work.assemblyOf_iff h).2 ⟨hm, hg⟩, rfl⟩⟩

/-! ### The tickets after the voids of the lines -/

theorem Ticket.fate_some {c : Check} {ls : List Line} {k k' : Ticket} (hk : k.kind = .normal → k.state ≠ .waiting)
    (h : k.fate c ls = some k') : k' = k.voided c ls := by
  rw [Ticket.fate_eq c ls hk] at h
  split at h
  · cases h
  · exact (Option.some.inj h).symm

section
variable {w : Work} (h : w.Tidy) (c : Check) (ls : List Line)
include h

/-- A live ticket after the voids of lines. -/
theorem Work.Tidy.voidLines_ticket? {k : Ticket} (hk : k ∈ w.kr.tickets) :
    (w.voidLines c ls).ticket? k.number = k.fate c ls := by
  obtain ⟨htidy, -, htickets⟩ := w.voidLines_spec c ls h
  have hrise := htidy.fits.rising
  have hnumber {m m' : Ticket} (hm : m ∈ w.kr.tickets) (hf : m.fate c ls = some m') : m'.number = m.number := by
    rw [Ticket.fate_some (fun hn => h.normal_not_waiting hm hn) hf]
    rfl
  cases hf : k.fate c ls with
  | some k' =>
    have hmem : k' ∈ (w.voidLines c ls).kr.tickets := by
      rw [htickets]
      exact List.mem_filterMap.2 ⟨k, hk, hf⟩
    rw [← hnumber hk hf]
    exact lookupBy_of_mem hrise hmem
  | none =>
    refine lookupBy_eq_none_iff.2 fun m' hm' he => ?_
    rw [htickets] at hm'
    obtain ⟨m, hm, hf'⟩ := List.mem_filterMap.1 hm'
    cases h.fits.rising.inj hm hk ((hnumber hm hf').symm.trans he)
    cases hf.symm.trans hf'

/-- A ticket that stands after the voids of lines stood before. -/
theorem Work.Tidy.of_voidLines {n : Nat} {k' : Ticket} (hk : (w.voidLines c ls).ticket? n = some k') :
    ∃ k ∈ w.kr.tickets, k.number = n ∧ k' = k.voided c ls := by
  obtain ⟨-, -, htickets⟩ := w.voidLines_spec c ls h
  obtain ⟨hmem, hn⟩ := lookupBy_some hk
  rw [htickets] at hmem
  obtain ⟨k, hm, hf⟩ := List.mem_filterMap.1 hmem
  have he := Ticket.fate_some (fun hn => h.normal_not_waiting hm hn) hf
  exact ⟨k, hm, by rw [← hn, he]; rfl, he⟩

variable {k : Ticket} (hk : k ∈ w.kr.tickets)
include hk

theorem Work.Tidy.voidLines_kept (he : k.kind ≠ .normal ∨ k.emptiedBy c ls = false) :
    (w.voidLines c ls).ticket? k.number = some (k.voided c ls) := by
  rw [h.voidLines_ticket? c ls hk, Ticket.fate_eq c ls fun hn => h.normal_not_waiting hk hn, if_neg]
  rintro ⟨hn, hempty⟩
  rcases he with he | he
  · exact he hn
  · cases he.symm.trans hempty

theorem Work.Tidy.voidLines_lost (hn : k.kind = .normal) (he : k.emptiedBy c ls = true) :
    (w.voidLines c ls).ticket? k.number = none := by
  rw [h.voidLines_ticket? c ls hk, Ticket.fate_eq c ls fun hn => h.normal_not_waiting hk hn, if_pos ⟨hn, he⟩]

end

/-- VOID tickets are neither freed nor made by the voids of lines. -/
theorem Work.voidLines_voids {w : Work} (h : w.Tidy) (c : Check) (ls : List Line) :
    (w.voidLines c ls).voidCount = w.voidCount := by
  obtain ⟨-, -, htickets⟩ := w.voidLines_spec c ls h
  rw [Work.voidCount, htickets, List.countP_filterMap]
  refine List.countP_congr fun k hk => ?_
  rw [Ticket.fate_eq c ls fun hn => h.normal_not_waiting hk hn]
  split
  · rename_i hn
    simp [hn.1]
  · rfl

/-! ### The tickets after the ASSEMBLYs have been settled -/

/-- A piece of work after a void event, before the VOID tickets. -/
def Work.afterVoids (c : Check) (ls : List Line) (w : Work) : Work :=
  (w.touchedNumbers c ls).foldl (fun w n => w.settleAssembly none n) (w.voidLines c ls)

theorem Ticket.voided_pends (k : Ticket) (c : Check) (ls : List Line) : (k.voided c ls).pends = k.pends := rfl

/-- An ASSEMBLY dissolves exactly when the void event empties it. -/
theorem Ticket.voided_dissolves {k : Ticket} {c : Check} {ls : List Line} (hk : k.kind = .assembly)
    (ht : k.touched c ls ≠ []) : (k.voided c ls).dissolves = k.emptiedBy c ls := by
  rw [Bool.eq_iff_iff, Ticket.dissolves_iff, Ticket.voided_pends, Ticket.pends_iff, Ticket.emptiedBy_iff]
  constructor
  · rintro ⟨⟨-, hs⟩, he⟩
    rw [Ticket.voided, if_pos hs] at he
    exact ⟨hs, ht, he⟩
  · rintro ⟨hs, -, he⟩
    exact ⟨⟨hk, hs⟩, by rw [Ticket.voided, if_pos hs]; exact he⟩

section
variable {s : State} (h : s.work.Tidy) (c : Check) (ls : List Line)
include h

/-- A reference survives a void event when its ASSEMBLY does. -/
theorem State.refs_eq {k k' : Ticket} (hn : k.kind = .normal) (hcheck : k'.check = k.check)
    (hasm : k'.assembly = k.assembly) :
    (s.work.voidLines c ls).refs (s.work.touchedNumbers c ls) k' = { k' with assembly := s.refAfter c ls k } := by
  have hrise : Rising Ticket.number s.kr.tickets := h.fits.rising
  have hfreed {x : Nat} : (x ∈ s.work.touchedNumbers c ls ∧ ∃ a, (s.work.voidLines c ls).ticket? x = some a ∧
      a.dissolves = true ∧ a.check = k.check) ↔ k.check = some c.number ∧
        ∃ m ∈ s.kr.tickets, m.number = x ∧ m.kind = .assembly ∧ m.emptiedBy c ls = true := by
    constructor
    · rintro ⟨hx, a, ha, hd, hac⟩
      obtain ⟨m, hm, hmx, hkind, ht⟩ := (Work.mem_touchedNumbers (w := s.work) hrise).1 hx
      obtain ⟨m', hm', hmx', rfl⟩ := h.of_voidLines c ls ha
      cases hrise.inj hm hm' (hmx.trans hmx'.symm)
      obtain ⟨l, -, hg⟩ := (Ticket.touched_assembly hkind).1 ht
      rw [Ticket.voided_dissolves hkind ht] at hd
      exact ⟨hac.symm.trans (Ticket.gathers_iff.1 hg).2.2.1, m, hm, hmx, hkind, hd⟩
    · rintro ⟨hkc, m, hm, rfl, hkind, he⟩
      have ht := (Ticket.emptiedBy_iff.1 he).2.1
      obtain ⟨l, -, hg⟩ := (Ticket.touched_assembly hkind).1 ht
      refine ⟨(Work.mem_touchedNumbers (w := s.work) hrise).2 ⟨m, hm, rfl, hkind, ht⟩, _,
        h.voidLines_kept c ls hm (.inl (by simp [hkind])), (Ticket.voided_dissolves hkind ht).trans he, ?_⟩
      exact (Ticket.gathers_iff.1 hg).2.2.1.trans hkc.symm
  have hkeep (x : Nat) : (s.work.voidLines c ls).keepsRef (s.work.touchedNumbers c ls) k' x = true ↔
      ¬ (k.check = some c.number ∧
        ∃ m ∈ s.kr.tickets, m.number = x ∧ m.kind = .assembly ∧ m.emptiedBy c ls = true) := by
    rw [← hfreed, Work.keepsRef, Bool.not_eq_true', Bool.eq_false_iff, Ne, Bool.and_eq_true, decide_eq_true_iff,
      Option.any_eq_true]
    simp only [Bool.and_eq_true, decide_eq_true_iff, hcheck]
  rw [Work.refs, hasm, State.refAfter]
  congr 1
  by_cases hc : k.check = some c.number
  · rw [if_pos ⟨hn, hc⟩]
    congr 1
    funext x
    rw [Bool.eq_iff_iff, hkeep]
    simp [hc, and_assoc]
  · have hall : (s.work.voidLines c ls).keepsRef (s.work.touchedNumbers c ls) k' = fun _ => true :=
      funext fun x => (hkeep x).2 fun hh => hc hh.1
    rw [if_neg fun hh => hc hh.2, hall]
    cases k.assembly <;> rfl

end

end Sys2Proof.Machine
end

section
/-! PROOFS. What a void event leaves of the tickets, and the VOID tickets beside them (R112 to R116). -/
namespace Sys2Proof.Machine

/-! ### Each ticket after a void event -/

section
variable {s : State} (h : s.work.Tidy) (c : Check) (ls : List Line)
include h

theorem State.afterVoids_settles :
    (s.work.voidLines c ls).Settles (s.work.touchedNumbers c ls) (s.work.afterVoids c ls) :=
  Work.settleAll_settles (s.work.voidLines_spec c ls h).1 (Work.touchedNumbers_nodup c ls s.work)

theorem State.afterVoids_tidy : (s.work.afterVoids c ls).Tidy :=
  Work.Tidies.foldl (fun w n => Work.settleAssembly_tidies none n w) _ _ (s.work.voidLines_spec c ls h).1

theorem State.mem_touched {k : Ticket} (hk : k ∈ s.kr.tickets) :
    k.number ∈ s.work.touchedNumbers c ls ↔ k.kind = .assembly ∧ k.touched c ls ≠ [] := by
  have hrise : Rising Ticket.number s.kr.tickets := h.fits.rising
  rw [Work.mem_touchedNumbers (w := s.work) hrise]
  constructor
  · rintro ⟨a, ha, hn, hkind, ht⟩
    cases hrise.inj ha hk hn
    exact ⟨hkind, ht⟩
  · rintro ⟨hkind, ht⟩
    exact ⟨k, hk, rfl, hkind, ht⟩

variable {k : Ticket} (hk : k ∈ s.kr.tickets)
include hk

theorem State.afterVoids_normal (hn : k.kind = .normal) (he : k.emptiedBy c ls = false) :
    (s.work.afterVoids c ls).ticket? k.number = some { k.voided c ls with assembly := s.refAfter c ls k } := by
  rw [← State.refs_eq (k := k) (k' := k.voided c ls) h c ls hn rfl rfl]
  exact (State.afterVoids_settles h c ls).normal _ _ (h.voidLines_kept c ls hk (.inr he)) hn

theorem State.afterVoids_still (hn : k.kind ≠ .normal) (hp : k.touched c ls ≠ [] → k.pends = false) :
    (s.work.afterVoids c ls).ticket? k.number = some (k.voided c ls) :=
  (State.afterVoids_settles h c ls).still _ _ (h.voidLines_kept c ls hk (.inl hn)) hn fun hm =>
    hp ((State.mem_touched h c ls hk).1 hm).2

theorem State.afterVoids_gone (he : k.emptiedBy c ls = true) : (s.work.afterVoids c ls).ticket? k.number = none := by
  have hsettles := State.afterVoids_settles h c ls
  have ht := (Ticket.emptiedBy_iff.1 he).2.1
  by_cases hn : k.kind = .normal
  · exact hsettles.absent _ (h.voidLines_lost c ls hk hn he)
  · obtain ⟨l, -, hl⟩ := Ticket.touched_ne_nil.1 ht
    have hkind : k.kind = .assembly := hl.elim (fun hc => absurd (Ticket.cooks_iff.1 hc).2.1 hn) fun hg =>
      (Ticket.gathers_iff.1 hg).2.1
    exact hsettles.gone _ ((State.mem_touched h c ls hk).2 ⟨hkind, ht⟩) _ (h.voidLines_kept c ls hk (.inl hn))
      ((Ticket.voided_dissolves hkind ht).trans he)

section
variable (hkind : k.kind = .assembly) (ht : k.touched c ls ≠ []) (hs : k.state = .waiting ∨ k.state = .queued)
  (he : k.emptiedBy c ls = false)
include hkind ht hs he

omit h hk in
theorem Ticket.voided_entries : (k.voided c ls).entries ≠ [] := fun hnil => by
  have := Ticket.voided_dissolves hkind ht
  rw [he] at this
  cases this.symm.trans (Ticket.dissolves_iff.2 ⟨Ticket.pends_iff.2 ⟨hkind, hs⟩, hnil⟩)

/-- An ASSEMBLY that has lost entries, and is not freed, is counted anew. -/
theorem State.afterVoids_counted : (s.work.afterVoids c ls).ticket? k.number =
      some ((s.work.voidLines c ls).counted (k.voided c ls)) ∧
    (s.work.afterVoids c ls).waitOf none (k.voided c ls) = (s.work.voidLines c ls).waitOf none (k.voided c ls) ∧
    (k.state = .waiting → (s.work.voidLines c ls).waitOf none (k.voided c ls) = 0 →
      k.number ∈ ((s.work.afterVoids c ls).station k.station).normalQ) := by
  have hsettles := State.afterVoids_settles h c ls
  have hm := (State.mem_touched h c ls hk).2 ⟨hkind, ht⟩
  have hkept := h.voidLines_kept c ls hk (.inl (by simp [hkind]))
  have hp : (k.voided c ls).pends = true := Ticket.pends_iff.2 ⟨hkind, hs⟩
  have hentries := Ticket.voided_entries c ls hkind ht hs he
  refine ⟨hsettles.counted _ hm _ hkept hp hentries, hsettles.waits _ fun b hb => ?_,
    hsettles.joined _ hm _ hkept hp hentries⟩
  cases hkept.symm.trans hb
  exact (Ticket.voided_dissolves hkind ht).trans he

end

end

/-! ### What the void path leaves beside the tickets -/

theorem Work.afterVoids_routes (c : Check) (ls : List Line) (w : Work) : w.Routes (w.afterVoids c ls) :=
  (Work.Routes.foldl (f := fun w l => (w.voidOnNormal c l).voidOnAssembly c l) (fun w l =>
    (w.voidOnNormal_routes c l).trans (Work.voidOnAssembly_routes c l _)) ls w).trans
    (Work.Routes.foldl (fun w n => w.settleAssembly_routes none n) _ _)

/-- The void path, as the statement counts the room for its VOID tickets (R113). -/
theorem State.kitchenVoid_eq {s : State} (h : s.work.Tidy) (c : Check) (ls : List Line) : s.work.kitchenVoid c ls =
    if s.toldStations c ls = [] ∨ (s.kr.tickets.length + (s.toldStations c ls).length ≤ 1024 ∧
        ∀ st ∈ s.toldStations c ls, s.loadOf st < 128) then
      some ((s.toldStations c ls).foldl (fun w st => w.makeVoid c (ls.flatMap (s.work.cancels c)) st)
        (s.work.afterVoids c ls))
    else none := by
  rw [← State.toldStations_eq h.fits.rising c ls]
  simp only [← State.work_load]
  rfl

end Sys2Proof.Machine
end

section
/-! PROOFS. Voids reach the kitchen (R112 to R116). -/
namespace Sys2Proof.Machine

section
variable {s : State} (h : s.work.Tidy) (c : Check) (ls : List Line) {w : Work}
  {cs : List (StationId × Nat × Line)} {sts : List StationId} (hT : (s.work.afterVoids c ls).Tells c cs sts w)
include hT

theorem Work.Tells.mem {n : Nat} {k : Ticket} (hk : (s.work.afterVoids c ls).ticket? n = some k) : k ∈ w.kr.tickets :=
  (lookupBy_some (hT.kept n k hk)).1

variable {k : Ticket} (hk : k ∈ s.kr.tickets)
include h hk

/-- A ticket that no line of a void event names loses no more than its reference (R115). -/
theorem State.void_untouched (ht : k.touched c ls = []) : { k with assembly := s.refAfter c ls k } ∈ w.kr.tickets := by
  by_cases hn : k.kind = .normal
  · have := hT.mem c ls (State.afterVoids_normal h c ls hk hn (Ticket.emptiedBy_untouched ht))
    rwa [Ticket.voided_untouched ht] at this
  · have := hT.mem c ls (State.afterVoids_still h c ls hk hn fun hne => absurd ht hne)
    rwa [Ticket.voided_untouched ht, show k = { k with assembly := s.refAfter c ls k } by
      rw [State.refAfter, if_neg fun hh => hn hh.1]] at this

/-- A ticket that a void event empties is freed (R114, R115). -/
theorem State.void_emptied (hw : Rising Ticket.number w.kr.tickets) (he : k.emptiedBy c ls = true) {k' : Ticket}
    (hk' : k' ∈ w.kr.tickets) (hn : k'.number = k.number) : k'.kind = .void := by
  have hfound : w.ticket? k.number = some k' := by
    rw [← hn]
    exact lookupBy_of_mem hw hk'
  refine (hT.known _ _ hfound).resolve_left fun hv => ?_
  cases (State.afterVoids_gone h c ls hk he).symm.trans hv

/-- A NORMAL ticket loses entries while it is queued, and has them marked when it is out or listed (R114). -/
theorem State.void_normal (hn : k.kind = .normal) (he : k.emptiedBy c ls = false) :
    { k with
      entries := if k.state = .queued then k.keptBy c ls else k.markedBy c ls
      assembly := s.refAfter c ls k } ∈ w.kr.tickets := by
  have hentries : (k.voided c ls).entries = if k.state = .queued then k.keptBy c ls else k.markedBy c ls :=
    if_congr (or_iff_right (h.normal_not_waiting hk hn)) rfl rfl
  rw [← hentries]
  exact hT.mem c ls (State.afterVoids_normal h c ls hk hn he)

/-- An ASSEMBLY that is out has entries marked (R115). -/
theorem State.void_assembly_out (hkind : k.kind = .assembly) (hs : k.state = .sending ∨ k.state = .shown) :
    { k with entries := k.markedBy c ls } ∈ w.kr.tickets := by
  have hout : ¬ (k.state = .waiting ∨ k.state = .queued) := by
    rcases hs with hs | hs <;> simp [hs]
  have hpends : k.pends = false := Bool.eq_false_iff.2 fun hp => hout (Ticket.pends_iff.1 hp).2
  have := hT.mem c ls (State.afterVoids_still h c ls hk (by simp [hkind]) fun _ => hpends)
  rwa [Ticket.voided, if_neg hout] at this

/-- An ASSEMBLY that loses entries, and is not freed, waits for the components that hold it back (R112, R115). -/
theorem State.void_assembly_waits (hkind : k.kind = .assembly) (ht : k.touched c ls ≠ [])
    (hs : k.state = .waiting ∨ k.state = .queued) (he : k.emptiedBy c ls = false) :
    ∃ (a : Ticket) (comps : List Ticket), a ∈ w.kr.tickets ∧
      comps.Sublist w.kr.tickets ∧ (∀ t ∈ w.kr.tickets, t ∈ comps ↔ t.waitedFor a) ∧
      a = { k with
        entries := k.keptBy c ls, wait := comps.length
        state := if k.state = .waiting ∧ comps = [] then .queued else k.state } ∧
      (k.state = .waiting → comps = [] → k.number ∈ w.kr.stations[k.station].normalQ) := by
  obtain ⟨hfound, hwaits, hjoins⟩ := State.afterVoids_counted h c ls hk hkind ht hs he
  have hlen : (w.kr.tickets.filter (k.voided c ls).holdsBack).length =
      (s.work.voidLines c ls).waitOf none (k.voided c ls) := by
    rw [← List.countP_eq_length_filter, ← hwaits, Work.waitOf_eq]
    exact hT.count _ fun t hv => Ticket.holdsBack_of_kind (by simp [hv])
  have hnil : w.kr.tickets.filter (k.voided c ls).holdsBack = [] ↔
      (s.work.voidLines c ls).waitOf none (k.voided c ls) = 0 := by
    rw [← hlen, List.length_eq_zero_iff]
  refine ⟨_, w.kr.tickets.filter (k.voided c ls).holdsBack, hT.mem c ls hfound, List.filter_sublist, fun t hm => ?_, ?_,
    fun hw hcomps => ?_⟩
  · rw [List.mem_filter, and_iff_right hm]
    exact Ticket.holdsBack_iff
  · have hstate : (if k.state = .waiting ∧ w.kr.tickets.filter (k.voided c ls).holdsBack = [] then TicketState.queued
        else k.state) = if k.state = .waiting ∧ (s.work.voidLines c ls).waitOf none (k.voided c ls) = 0 then .queued
        else k.state := if_congr (and_congr_right fun _ => hnil) rfl rfl
    rw [hlen, hstate, Work.counted, Ticket.voided, if_pos hs]
  · exact (hT.queues k.station).symm ▸ hjoins hw (hnil.1 hcomps)

omit hT hk in
/-- A VOID ticket made for a void event is new: no number is taken that a VOID ticket holds (R102). -/
theorem State.void_fresh {n : Nat} {k' : Ticket} (hn : (s.work.afterVoids c ls).ticket? n = none)
    (hnumber : k'.number = n) (hkind : k'.kind = .void) : k' ∉ s.kr.tickets := fun hm => by
  have hpends : k'.pends = false := by simp [Ticket.pends, hkind]
  have := State.afterVoids_still h c ls hm (by simp [hkind]) fun _ => hpends
  rw [hnumber, hn] at this
  cases this

end

/-- Settles O60: the lines act on each ticket by itself, then the ASSEMBLYs are settled, then the VOID tickets made. -/
theorem voidsReachTheKitchen : Obligations.VoidsReachTheKitchen := by
  intro s c ls hq hp
  have h := hq.tidy hp
  have heq := State.kitchenVoid_eq h c ls
  refine ⟨fun hne hroom => heq.trans (if_neg (not_or.2 ⟨hne, hroom⟩)), fun hroom => ?_⟩
  rw [if_pos hroom] at heq
  have hsize : (s.work.afterVoids c ls).kr.tickets.length + (s.toldStations c ls).length ≤ 1024 := by
    have hless : (s.work.afterVoids c ls).kr.tickets.length ≤ s.kr.tickets.length :=
      ((s.work.afterVoids_routes c ls).fits h.fits.self).size
    rcases hroom with hnone | ⟨hlen, -⟩
    · have := (State.afterVoids_tidy h c ls).fits.size
      rw [hnone, List.length_nil]
      omega
    · omega
  have hT := Work.makeVoids_tells c (ls.flatMap (s.work.cancels c)) hsize
  have hkitchen := Work.kitchenVoid_kitchenOnly heq
  have hrise := (Work.kitchenVoid_tidies heq h).fits.rising
  have hroutes := s.work.afterVoids_routes c ls
  have hsettles := State.afterVoids_settles h c ls
  refine ⟨_, heq, hkitchen.ce, hkitchen.tu, hkitchen.sj, ?_, fun k hk ht => State.void_untouched h c ls hT hk ht,
    fun k hk he k' hk' hn => State.void_emptied h c ls hT hk hrise he hk' hn,
    fun k hk _ hn he => State.void_normal h c ls hT hk hn he,
    fun k hk _ hkind hs => State.void_assembly_out h c ls hT hk hkind hs,
    fun k hk ht hkind hs he => State.void_assembly_waits h c ls hT hk hkind ht hs he, fun st hst => ?_, ?_⟩
  · exact hT.ports.trans (hsettles.ports.trans (s.work.voidLines_spec c ls h).2.1)
  · obtain ⟨n, hfree, hmade, hqueue⟩ := hT.made st hst
    refine ⟨_, (lookupBy_some hmade).1, State.void_fresh h c ls hfree rfl rfl, hqueue, ?_⟩
    rw [toldAt, State.told_eq h.fits.rising c st ls, Work.voidTicket, hroutes.now]
    rfl
  · exact hT.voids.trans (congrArg (· + _) (hsettles.voids.trans (Work.voidLines_voids h c ls)))

end Sys2Proof.Machine
end
